-- ==== Sys2Proof/Word.lean ====
section
/-! DEFINITION. The word types of the KX24 and the numbers that name its parts (00_scope.md, Conventions). -/

namespace Sys2Proof

/-- One byte of a record, a page, a frame or the picture store. -/
abbrev Byte := BitVec 8
/-- A 16-bit field: a text id, a sequence, a saturating event count. -/
abbrev Half := BitVec 16
/-- A 32-bit field: a register, the frame counter, an aux value, a CRC-32. -/
abbrev Word := BitVec 32
/-- A 64-bit host address. -/
abbrev Addr := BitVec 64

/-- Lanes are numbered 0-23. -/
abbrev LaneId := Fin 24
/-- Picture directory slots are numbered 0-63. -/
abbrev SlotId := Fin 64
/-- Slips of the slip table are numbered 0-127. -/
abbrev SlipId := Fin 128
/-- Work records are numbered 0-15. -/
abbrev RecId := Fin 16
/-- Alert record places are numbered 0-3. -/
abbrev PlaceId := Fin 4

end Sys2Proof
end

