-- ==== Sys2Proof/Syntax.lean ====
section
/-! DEFINITION. The commands of the KX24: one constructor for each row of spec/opcode_table.json. The spec gives the rows
no operand bits; an operand stands for what comes from outside with the event: the value of a register write, the host
memory that a read finds (or the PCIe error it ends in), the lane an event concerns, and which fetches were under way. -/

namespace Sys2Proof

/-- Host memory as the reads of ONE step find it: `cells` gives bytes at addresses (an address not listed reads 0; a
listing that comes first wins), and a read that touches an address of `errors` ends in a PCIe error. -/
structure HostView where
  cells  : List Host.Cell
  errors : List Nat
  deriving DecidableEq, Repr

/-- One constructor per row of spec/opcode_table.json, in the table's order. -/
inductive Instr where
  /-- POWER_ON_RESET: PERST# is applied and released (R173). -/
  | powerOnReset
  /-- SOFT_RESET: a RUNCTL write with SOFT_RESET set; `run` and `sweepMs` are the other fields of the write (R173). -/
  | softReset (run : Bool) (sweepMs : Byte)
  /-- RUN_SET: a RUNCTL write with SOFT_RESET 0, RUN 1 and the given SWEEP_MS (R43, R162, R171). -/
  | runSet (sweepMs : Byte)
  /-- RUN_CLEAR: a RUNCTL write with SOFT_RESET 0, RUN 0 and the given SWEEP_MS; `begun` names the lanes whose fetch for
  the assembly in flight has begun and not ended (R44, R38). -/
  | runClear (sweepMs : Byte) (begun : List LaneId)
  /-- SWEEP_MS_WRITE: a RUNCTL write with SOFT_RESET 0, RUN as it stands and the given SWEEP_MS (R162). -/
  | sweepMsWrite (sweepMs : Byte)
  /-- ANCHOR_LO_WRITE: a 32-bit write to offset 0x00 (R159). -/
  | anchorLoWrite (value : Word)
  /-- ANCHOR_HI_WRITE: a 32-bit write to offset 0x04 (R159). -/
  | anchorHiWrite (value : Word)
  /-- PROMPT: a write of any value to offset 0x0C (R162). -/
  | prompt (value : Word)
  /-- NOTICE_WRITE: a write to offset 0x10 (R171, R172). -/
  | noticeWrite (value : Word)
  /-- NOTICE_EN_WRITE: a write to offset 0x14 (R171, R172). -/
  | noticeEnWrite (value : Word)
  /-- REGISTER_WRITE_OTHER: a write to an offset of the window above 0x14 (R171). -/
  | registerWriteOther (offset : Word) (value : Word)
  /-- SWEEP_TIMER_EXPIRY: the interval timer expires (R162). -/
  | sweepTimerExpiry
  /-- SWEEP_HAND_READ: the read of the 128 hands ends (R163). -/
  | sweepHandRead (host : HostView)
  /-- SLIP_VISIT: the 64-byte read of the slip being visited ends (R164). -/
  | slipVisit (host : HostView)
  /-- LANE_SETUP: the LMC acts on the dispatched LANE_SETUP (R5-R7). -/
  | laneSetup
  /-- LANE_RETIRE: the LMC acts on the dispatched LANE_RETIRE (R8, R9). -/
  | laneRetire
  /-- LANE_HALT: the LMC acts on the dispatched LANE_HALT (R10). -/
  | laneHalt
  /-- LANE_RESUME: the LMC acts on the dispatched LANE_RESUME (R11). -/
  | laneResume
  /-- MAP_LOAD: the LMC begins the oldest waiting MAP_LOAD (R14). -/
  | mapLoad
  /-- MAP_TABLE_READ: the map table read ends (R14-R17). -/
  | mapTableRead (host : HostView)
  /-- TEXT_PUT: the TE begins the dispatched TEXT_PUT (R89). -/
  | textPut
  /-- TEXT_PUT_APPLY: the body read ends (R89, R90). -/
  | textPutApply (host : HostView)
  /-- TEXT_DROP: the TE acts on the dispatched TEXT_DROP (R91). -/
  | textDrop
  /-- TEXT_CLEAR: the TE acts on the dispatched TEXT_CLEAR (R92). -/
  | textClear
  /-- CAR_SET: the CE acts on the dispatched CAR_SET (R131, R132). -/
  | carSet
  /-- CAR_JUMP: the CE acts on the dispatched CAR_JUMP (R133). -/
  | carJump
  /-- PIC_OPEN: the PST handles the dispatch of a PIC_OPEN (R114, R115). -/
  | picOpen
  /-- PIC_WRITE: the PST handles the dispatch of a PIC_WRITE (R116). -/
  | picWrite
  /-- PIC_SEAL: the PST handles the dispatch of a PIC_SEAL (R118). -/
  | picSeal
  /-- PIC_DROP: the PST handles the dispatch of a PIC_DROP (R120, R121). -/
  | picDrop
  /-- ALERT_RAISE: the AC begins the dispatched ALERT_RAISE, and makes its checks at once when it has no text to read
  (R145). -/
  | alertRaise
  /-- ALERT_RAISE_APPLY: the text read of a raise ends, its checks are made and it is applied (R145-R147). -/
  | alertRaiseApply (host : HostView)
  /-- ALERT_END: the AC acts on the dispatched ALERT_END (R153, R154). -/
  | alertEnd
  /-- BLOCK_ERASE_END: the block erase in progress ends (R111, R115, R122, R124). -/
  | blockEraseEnd
  /-- WRITE_HOST_READ: the host read of a PIC_WRITE repetition ends (R117). -/
  | writeHostRead (host : HostView)
  /-- PAGE_PROGRAM_END: the page program in progress ends (R111, R117). -/
  | pageProgramEnd
  /-- SEAL_READ_END: the seal read in progress ends (R119). -/
  | sealReadEnd
  /-- DIRECTORY_WRITE_END: the oldest directory write under way ends (R106). -/
  | directoryWriteEnd
  /-- STORED_DIRECTORY_READ: the read of the stored directory after a reset ends (R123, R124). -/
  | storedDirectoryRead
  /-- AIR_RST_FALL: AIR_RST_N goes low (R45, R46). -/
  | airRstFall
  /-- AIR_RST_RISE: AIR_RST_N goes high (R45). -/
  | airRstRise
  /-- AIR_PULL: a rising edge of AIR_PULL; `begun` names the lanes whose fetch for the assembly in flight has begun and
  not ended, which matters when the pull is late (R43, R45, R38). -/
  | airPull (begun : List LaneId)
  /-- TRANSMISSION_END: the last bit of the frame in transmission has gone (R46). -/
  | transmissionEnd
  /-- LANE_FETCH: the FF fetches for one lane (R25-R37). -/
  | laneFetch (lane : LaneId) (host : HostView)
  /-- PICTURE_DATA_READ: the CE's read of picture data for one lane is answered (R129). -/
  | pictureDataRead (lane : LaneId)
  /-- ASSEMBLY_COMPLETE: the header and directories are formed and the CRC-16 written (R55-R57). -/
  | assemblyComplete
  deriving DecidableEq, Repr

end Sys2Proof
end

