-- ==== Sys2Proof/Decode.lean ====
section
/-! DEFINITION. The block has no instruction decoder. spec/opcode_table.json gives no row any bits, so no word spells a
command. What the host does write as words are the registers: `decodeRegisterWrite` says which command a 32-bit write to
the register window is (R171, R175). -/

namespace Sys2Proof

/-- The command a word spells by the table's bits: none, since no row of the table has bits. -/
def decodeTableWord (_nbits _w : Nat) : Option Instr := none

/-- The command that a 32-bit write of `value` at `offset` of the register window is. RUNCTL has RUN in bit 0,
SOFT_RESET in bit 1 and SWEEP_MS in bits 15-8, and SOFT_RESET takes the write whatever the other fields (R171, R175). -/
def decodeRegisterWrite (offset value : Word) : Instr :=
  if offset = 0x00 then .anchorLoWrite value
  else if offset = 0x04 then .anchorHiWrite value
  else if offset = 0x08 then
    if value.getLsbD 1 then .softReset (value.getLsbD 0) (value.extractLsb' 8 8)
    else if value.getLsbD 0 then .runSet (value.extractLsb' 8 8)
    else .runClear (value.extractLsb' 8 8) []
  else if offset = 0x0C then .prompt value
  else if offset = 0x10 then .noticeWrite value
  else if offset = 0x14 then .noticeEnWrite value
  else .registerWriteOther offset value

end Sys2Proof
end

