-- ==== Sys2Proof/Config.lean ====
section
/-! DEFINITION. What the KX24 fixes as numbers (03, 06, 10), and the free values: what the spec leaves open after a step
that goes on. A free value has no body, so nothing can be proved of it; each is applied to a draw number that State counts,
so that two occasions need not agree. -/

namespace Sys2Proof.Config

/-- Payload cells of a frame: cells 9-1199 (00_scope.md, Terms). -/
def payloadCells : Nat := 1191
/-- Cells of the header region (00_scope.md, Terms). -/
def headerCells : Nat := 9
/-- Bytes of a cell. -/
def cellBytes : Nat := 16
/-- Bytes of a frame (R178). -/
def frameBytes : Nat := 19200
/-- The announce count a map starts with (R17). -/
def announceStart : Nat := 16
/-- Work records of the part (R161). -/
def workRecords : Nat := 16
/-- Entries of the store job queue (R110). -/
def storeQueue : Nat := 8
/-- Entries of the restore log (R143). -/
def logEntries : Nat := 64
/-- Messages of a text queue (R86). -/
def textQueue : Nat := 8
/-- The most cells a picture want asks for (R71). -/
def pictureWantCap : Nat := 48
/-- Bytes of a store block (R103). -/
def blockBytes : Nat := 4096
/-- Bytes of the picture store (R103). -/
def storeBytes : Nat := 4194304
/-- What a byte of the store reads as when nothing has programmed it: the byte an erase leaves (R103). For a block that
was never erased this is a DESIGN CHOICE, unsafe (assumption 4). -/
def erasedByte : Byte := 0xFF

/-- Offsets of the parts of the host area (R176). -/
def tabsOffset : Nat := 0x2000
def frameMirrorOffset : Nat := 0x2400
def alertMirrorOffset : Nat := 0x2440
def laneMirrorOffset : Nat := 0x24C0
def directoryMirrorOffset : Nat := 0x2AC0

/-- FREE VALUE: the aux written with a completion for which no rule gives an aux value (R169; assumption 6). -/
opaque unstatedAux : Nat → Word
/-- FREE VALUE: whether the directory write in progress at a reset is found made (R106; assumption 7). -/
opaque directoryWriteLands : Nat → Bool
/-- FREE VALUE: a byte of a block whose erase was in progress at a reset (R123; assumption 8). -/
opaque brokenErase : Nat → Nat → Byte
/-- FREE VALUE: whether a byte of a page whose program was in progress at a reset took its programmed value (R123;
assumption 8). -/
opaque brokenProgram : Nat → Nat → Bool

end Sys2Proof.Config
end

