-- ==== Sys2Proof/Machine/State.lean ====
section
/-! DEFINITION. The state of the KX24 as plain data, block by block as 00_scope.md lists the blocks, and the machine after
power-on reset. -/

namespace Sys2Proof.Machine

/-- The part never stops with a fault: each error that the spec names (a PCIe error, a failed check) has an outcome of
its own as a next state, so this type has no constructor (assumption 2). -/
inductive Fault where
  deriving DecidableEq, Repr

/-- Why a command has no meaning. -/
inductive Refusal where
  /-- Raised only by exec's arm of a command that has no meaning yet. Safe: the model stops where the part goes on. -/
  | notModelled (mnemonic : String)
  deriving DecidableEq, Repr

/-! ### Lanes (R1, R24, R86, R87, R125) -/

/-- State of a lane (R2). -/
inductive LaneState where
  | unused | ready | halted
  deriving DecidableEq, Repr

/-- What a source field holds: OWN, or the content of an alert (R3). -/
inductive Source where
  | own
  | alert (id : Byte)
  deriving DecidableEq, Repr

/-- The three fields of a lane that an alert can take (R141). -/
inductive Field where
  | audio | text | picture
  deriving DecidableEq, Repr

/-- A feed page letter. -/
inductive Letter where
  | a | b
  deriving DecidableEq, Repr

/-- Feed state of a lane (R24). `notify` is the tab's NOTIFY flag as read when the page was taken (R28). -/
structure Feed where
  held      : Option Letter
  expected  : Letter
  byteCount : Nat
  cursor    : Nat
  taken     : Nat
  sequence  : Half
  notify    : Bool
  deriving DecidableEq, Repr

/-- A text message (R87). -/
structure Message where
  id      : Half
  body    : List Byte
  repeats : Byte
  airings : Byte
  version : Byte
  deriving DecidableEq, Repr

/-- Text state of a lane (R86). -/
structure TextState where
  queue         : List Message
  position      : Nat
  toggle        : Bool
  pacing        : Nat
  seed          : Byte
  source        : Source
  alertPosition : Nat
  deriving DecidableEq, Repr

/-- The mark of a carousel position (R126). -/
inductive Mark where
  | on | next
  deriving DecidableEq, Repr

/-- A carousel position: ON e or NEXT e (R126). -/
structure Position where
  mark  : Mark
  entry : Nat
  deriving DecidableEq, Repr

/-- An airing in progress: its identity, which is slot and version, and its byte offset (R125). -/
structure Airing where
  slot    : SlotId
  version : Byte
  offset  : Nat
  deriving DecidableEq, Repr

/-- An alert showing (R136). -/
structure Showing where
  alert  : Byte
  offset : Nat
  deriving DecidableEq, Repr

/-- Carousel state of a lane, less the picture stall count, which is with the counts (R125). -/
structure Carousel where
  entries  : List SlotId
  position : Position
  airing   : Option Airing
  jump     : Option Nat
  showing  : Option Showing
  deriving DecidableEq, Repr

/-- The event counts of a lane (R40, R125): units aired is 32-bit wrapping, the others 16-bit saturating. -/
structure Counts where
  unitsAired   : Word
  filler       : Half
  oversize     : Half
  displaced    : Half
  lateDrop     : Half
  fetchFault   : Half
  pictureStall : Half
  deriving DecidableEq, Repr

/-- A lane record (R1). Its share, burst, reserved cells and start cell are copies of the lane's entry in the active map;
they are read from that map (`MapControl.active`) and not stored a second time. -/
structure Lane where
  state       : LaneState
  pageA       : Addr
  pageB       : Addr
  pageSize    : Nat
  pace        : Nat
  audioFrom   : Source
  textFrom    : Source
  pictureFrom : Source
  credit      : Nat
  saturation  : Half
  feed        : Feed
  text        : TextState
  carousel    : Carousel
  counts      : Counts
  deriving DecidableEq, Repr

/-! ### Maps (R13) -/

/-- One entry of a map. -/
structure MapEntry where
  lane     : LaneId
  reserved : Nat
  share    : Nat
  burst    : Nat
  start    : Nat
  deriving DecidableEq, Repr

/-- A map: entries in ascending lane order, pool start cell and pool size. -/
structure AirMap where
  entries   : List MapEntry
  poolStart : Nat
  poolSize  : Nat
  deriving DecidableEq, Repr

/-- A pending map with its announce count, and the work record of its MAP_LOAD (R13, R17). -/
structure PendingMap where
  map      : AirMap
  announce : Nat
  record   : RecId
  deriving DecidableEq, Repr

/-- The Lane and Map Controller beside the lane table. `laneSlips` and `mapLoads` hold the dispatched slips in dispatch
order; `checking` is the MAP_LOAD whose table read is under way (R14); `switched` is the MAP_LOAD whose switch-over is
made and whose first frame is not yet sent (R21). -/
structure MapControl where
  active     : AirMap
  generation : Byte
  upcoming   : Option PendingMap
  checking   : Option RecId
  switched   : Option RecId
  laneSlips  : List RecId
  mapLoads   : List RecId
  deriving DecidableEq, Repr

/-! ### Alerts (R141, R143) -/

/-- State of an active alert (R142); a FREE place holds no alert. -/
inductive AlertState where
  | raised | onAir | ending
  deriving DecidableEq, Repr

/-- The take set of an alert. -/
structure TakeSet where
  audio   : Bool
  text    : Bool
  picture : Bool
  deriving DecidableEq, Repr

/-- An alert record (R141). `raiseRecord` and `endRecord` are the work records of its ALERT_RAISE and ALERT_END. -/
structure Alert where
  id          : Byte
  level       : Nat
  state       : AlertState
  take        : TakeSet
  targets     : List LaneId
  source      : Option LaneId
  width       : Nat
  text        : Option (List Byte)
  picture     : Option (SlotId × Byte)
  onAirFrame  : Option Word
  raiseRecord : RecId
  endRecord   : Option RecId
  deriving DecidableEq, Repr

/-- A restore log entry (R143). -/
structure LogEntry where
  alert    : Byte
  lane     : LaneId
  field    : Field
  previous : Source
  deriving DecidableEq, Repr

/-- The Alert Controller: places, restore log (bottom, the oldest, first), the dispatched slips in order, and the raise
whose checks are under way (R144). -/
structure AlertControl where
  places   : Vector (Option Alert) 4
  log      : List LogEntry
  queue    : List RecId
  checking : Option RecId
  deriving DecidableEq, Repr

/-! ### Frames (R42, R48, R50, R53) -/

/-- A lane of the frame plan: its map entry, whether it is HALTED, and its source fields (R48). -/
structure PlanLane where
  entry   : MapEntry
  halted  : Bool
  audio   : Source
  text    : Source
  picture : Source
  deriving DecidableEq, Repr

/-- The frame plan (R48). -/
structure Plan where
  counter    : Word
  generation : Byte
  next       : Byte
  announce   : Nat
  poolStart  : Nat
  poolSize   : Nat
  lanes      : List PlanLane
  alerts     : List Alert
  deriving DecidableEq, Repr

/-- Why a region carries filler (R50). -/
inductive Filler where
  | underrun | silence | malformed | fetchFault | oversize | halted | noSource | tooWide
  deriving DecidableEq, Repr

/-- What one lane's fetch yielded: a unit of the given length, with its data when some region carries it, or nothing. -/
inductive FetchOutcome where
  | unit (length : Nat) (data : List Byte) (carried : Bool)
  | nothing (cause : Filler)
  deriving DecidableEq, Repr

/-- A fetch made in an assembly. -/
structure Fetched where
  lane    : LaneId
  outcome : FetchOutcome
  deriving DecidableEq, Repr

/-- What a region's audio cells carry (R50): a unit with the lane that supplied it and its data, filler, or nothing. -/
inductive AudioOutcome where
  | unit (supplier : LaneId) (data : List Byte)
  | filler (cause : Filler)
  | noAudio
  deriving DecidableEq, Repr

/-- A text fragment as laid, with what the commit needs (R53, R96): `alert` is none for the lane's own text. -/
structure Fragment where
  alert   : Option Byte
  textId  : Half
  version : Byte
  index   : Nat
  last    : Bool
  bytes   : List Byte
  deriving DecidableEq, Repr

/-- The picture a lane shows in a frame, as the CE found it when it stated the want (R128). `base` is the store address of
the slot's first byte. -/
structure PictureChoice where
  alert     : Option Byte
  slot      : SlotId
  version   : Byte
  base      : Nat
  offset    : Nat
  remaining : Nat
  deriving DecidableEq, Repr

/-- A picture piece as laid (R53, R83). -/
structure Piece where
  slot    : SlotId
  version : Byte
  offset  : Nat
  cells   : Nat
  data    : List Byte
  first   : Bool
  last    : Bool
  deriving DecidableEq, Repr

/-- The part of the carriage record about one lane of the plan's map (R50-R53, R78). -/
structure LaneCarriage where
  lane         : LaneId
  audio        : AudioOutcome
  grant        : Nat
  credit       : Nat
  saturated    : Bool
  fragment     : Option Fragment
  picture      : Option PictureChoice
  pictureCells : Nat
  pieces       : List Piece
  stalled      : Bool
  deriving DecidableEq, Repr

/-- The stage an assembly has reached: fetching units, or side items (after sharing, until the header is formed). -/
inductive Stage where
  | fetching | items
  deriving DecidableEq, Repr

/-- The carriage record, with what the assembly has still to do: the lanes still to be fetched, and the lanes whose
picture read is still to be answered (R50, R129). `cursorNext` is the cursor that the send will commit (R78). -/
structure Carriage where
  stage      : Stage
  toFetch    : List LaneId
  fetched    : List Fetched
  lanes      : List LaneCarriage
  toRead     : List LaneId
  cursorNext : LaneId
  deriving DecidableEq, Repr

/-- The assembler: STOPPED; ASSEMBLING, with plan and carriage record; READY, with plan, carriage record and the finished
frame (R42). -/
inductive Assembler where
  | stopped
  | assembling (plan : Plan) (carriage : Carriage)
  | ready (plan : Plan) (carriage : Carriage) (frame : List Byte)
  deriving DecidableEq, Repr

/-- A fetch begun in an assembly that was abandoned, still to run to its end, with the regions and cell limits that its
unit is offered to (R38). -/
structure Straggler where
  lane    : LaneId
  regions : List Nat
  deriving DecidableEq, Repr

/-- The Frame Assembler. -/
structure FrameControl where
  counter    : Word
  voidCount  : Word
  assembler  : Assembler
  stragglers : List Straggler
  deriving DecidableEq, Repr

/-- AIR_DATA: held low, between transmissions, or sending a frame (R46, R69). -/
inductive AirData where
  | heldLow
  | idle
  | sending (frame : List Byte)
  deriving DecidableEq, Repr

/-- The Air Link: the level of AIR_RST_N, which the link state follows (UP while high), and AIR_DATA (R45). -/
structure Link where
  airRstN : Bool
  airData : AirData
  deriving DecidableEq, Repr

/-! ### The picture store (R103, R104, R110) -/

/-- State of a slot (R105). -/
inductive SlotState where
  | empty | erasing | filling | sealing | ready | condemned | dropping
  deriving DecidableEq, Repr

/-- First block, block count and byte length of a slot that is not EMPTY (R104). -/
structure Extent where
  first  : Nat
  count  : Nat
  length : Nat
  deriving DecidableEq, Repr

/-- A slot record as the directory region keeps it (R104, R106). -/
structure DirRecord where
  state     : SlotState
  alertFlag : Bool
  extent    : Option Extent
  version   : Byte
  crc       : Option Word
  deriving DecidableEq, Repr

/-- A slot of the working copy: its record and its user count (R104). -/
structure Slot where
  record : DirRecord
  users  : Nat
  deriving DecidableEq, Repr

/-- The kind of a store job. -/
inductive JobKind where
  | opening | writing | seal | drop
  deriving DecidableEq, Repr

/-- One repetition of a PIC_WRITE that writes: `length` bytes from host address `host` to store address `dest`, which
lie in one page (R116). -/
structure Program where
  host   : Addr
  dest   : Nat
  length : Nat
  deriving DecidableEq, Repr

/-- The operations a job has still to make (R110). -/
inductive JobWork where
  | erases (blocks : List Nat)
  | programs (reps : List Program)
  | sealRead (expected : Word)
  deriving DecidableEq, Repr

/-- State of a job (R110). `ended` is the model's: all operations are made and the entry is held until the directory
write that completes the slip ends (R110, R106). -/
inductive JobState where
  | queued | running | paused | waiting | ended
  deriving DecidableEq, Repr

/-- A store job. `made` counts the operations made, `cut` the bytes a PIC_WRITE cuts off (R116, R117). -/
structure Job where
  record : RecId
  kind   : JobKind
  slot   : SlotId
  bank   : Nat
  state  : JobState
  work   : JobWork
  made   : Nat
  cut    : Nat
  deriving DecidableEq, Repr

/-- What the store is doing: erasing a block, reading host bytes for a program, programming them, or reading for a
seal (R112, R117). -/
inductive Operation where
  | erase (block : Nat)
  | hostRead (rep : Program)
  | program (dest : Nat) (data : List Byte)
  | sealRead
  deriving DecidableEq, Repr

/-- For whom the store works: the job of a work record, or a slot of the recovery list. -/
inductive Worker where
  | job (record : RecId)
  | recovery (slot : SlotId)
  deriving DecidableEq, Repr

/-- The operation in progress. -/
structure Running where
  worker    : Worker
  operation : Operation
  deriving DecidableEq, Repr

/-- A slot of the recovery list with the blocks still to be erased (R124). -/
structure Recovery where
  slot   : SlotId
  bank   : Nat
  blocks : List Nat
  deriving DecidableEq, Repr

/-- A change of slot state that a directory write makes (R106). -/
inductive DirChange where
  | toFilling
  | toReady (crc : Word)
  | toEmpty
  | toDropping
  deriving DecidableEq, Repr

/-- The completion of a slip: its work record, status and aux. -/
structure Completion where
  record : RecId
  status : Nat
  aux    : Word
  deriving DecidableEq, Repr

/-- A directory write under way, with the slip it completes, if any (R106). -/
structure DirWrite where
  slot      : SlotId
  change    : DirChange
  completes : Option Completion
  deriving DecidableEq, Repr

/-- The Picture Store. `contents` lists the store bytes that are not 0xFF, by store address, strictly rising. -/
structure Store where
  contents  : List Host.Cell
  stored    : Vector DirRecord 64
  slots     : Vector Slot 64
  loaded    : Bool
  queue     : List RecId
  jobs      : List Job
  running   : Option Running
  recovery  : List Recovery
  hold      : Nat
  dirWrites : List DirWrite
  deriving DecidableEq, Repr

/-! ### The Slip Reader and the registers (R159, R161, R167, R171) -/

/-- The registers: the anchor, RUN and SWEEP_MS of RUNCTL, NOTICE and NOTICE_EN (bits 3-0: FAULT, VOID, FEED, SLIP). -/
structure Registers where
  anchor   : Addr
  run      : Bool
  sweepMs  : Byte
  notice   : BitVec 4
  noticeEn : BitVec 4
  deriving DecidableEq, Repr

/-- A work record in use (R167). -/
structure WorkRecord where
  slip  : SlipId
  kind  : Byte
  guard : Byte
  flags : Byte
  tag   : Word
  args  : List Byte
  deriving DecidableEq, Repr

/-- The sweep: IDLE, reading the hands, or in the visit of slip `current`, read into `record`, with `rest` to follow;
`last` is set when RUN became 0 in this visit, so that the sweep ends after it (R161, R163, R164, R168). -/
inductive Sweep where
  | idle
  | readingHands
  | visiting (record : RecId) (current : SlipId) (rest : List SlipId) (last : Bool)
  deriving DecidableEq, Repr

/-- The Slip Reader. `timer` is none when stopped, else the SWEEP_MS it was started with. -/
structure Reader where
  sweep   : Sweep
  cursor  : SlipId
  owed    : Bool
  timer   : Option Byte
  records : Vector (Option WorkRecord) 16
  deriving DecidableEq, Repr

/-- The Text Engine beside the lane records: its dispatched slips and the TEXT_PUT whose body is being read (R88). -/
structure TextEngine where
  queue   : List RecId
  putting : Option RecId
  deriving DecidableEq, Repr

/-- One part of a posted write: bytes at a host address. -/
structure Span where
  addr  : Addr
  bytes : List Byte
  deriving DecidableEq, Repr

/-- What the part has posted on PCIe: a write, covering the spans given, or an interrupt message (R172). -/
inductive Posted where
  | write (spans : List Span)
  | interrupt
  deriving DecidableEq, Repr

/-- The machine. `cursor` is the pool cursor (R70); `carousels` the dispatched carousel slips (R131); `posted` all that
the part has posted, oldest first; `ran` whether RUN has become 1 since the last reset (R106, R157); `draws` the model's
counter of free values; `pending` the commands that wait, first in, first out. -/
structure State where
  regs      : Registers
  reader    : Reader
  lanes     : Vector Lane 24
  maps      : MapControl
  frames    : FrameControl
  link      : Link
  cursor    : LaneId
  text      : TextEngine
  carousels : List RecId
  store     : Store
  alerts    : AlertControl
  posted    : List Posted
  ran       : Bool
  draws     : Nat
  pending   : List Instr
  deriving DecidableEq, Repr

/-! ### Reset values -/

/-- Feed state after either reset and after LANE_SETUP of an UNUSED lane (R24). -/
def Feed.fresh : Feed :=
  { held := none, expected := .a, byteCount := 0, cursor := 0, taken := 0, sequence := 0, notify := false }

/-- Text state after either reset, LANE_SETUP of an UNUSED lane and LANE_RETIRE (R86, R101). -/
def TextState.fresh : TextState :=
  { queue := [], position := 0, toggle := false, pacing := 16, seed := 0, source := .own, alertPosition := 0 }

/-- Carousel state after either reset, LANE_SETUP of an UNUSED lane and LANE_RETIRE (R125, R138). -/
def Carousel.fresh : Carousel :=
  { entries := [], position := ⟨.next, 0⟩, airing := none, jump := none, showing := none }

/-- Event counts after either reset (R22, R40). -/
def Counts.zero : Counts :=
  { unitsAired := 0, filler := 0, oversize := 0, displaced := 0, lateDrop := 0, fetchFault := 0, pictureStall := 0 }

/-- A lane record after either reset (R22). -/
def Lane.fresh : Lane :=
  { state := .unused, pageA := 0, pageB := 0, pageSize := 0, pace := 0, audioFrom := .own, textFrom := .own,
    pictureFrom := .own, credit := 0, saturation := 0, feed := .fresh, text := .fresh, carousel := .fresh,
    counts := .zero }

/-- The empty map: pool start 9, pool size 1191 (R22). -/
def AirMap.vacant : AirMap := { entries := [], poolStart := 9, poolSize := 1191 }

/-- A slot as the part leaves manufacture: EMPTY at version 0 (R104). -/
def DirRecord.vacant : DirRecord :=
  { state := .empty, alertFlag := false, extent := none, version := 0, crc := none }

/-- A slot of the working copy that holds nothing. -/
def Slot.vacant : Slot := { record := .vacant, users := 0 }

/-- The machine right after power-on reset of a part fresh from manufacture. The working copy of the directory, which is
read from the store after the reset (R123), holds no slot until that read ends (assumption 5); AIR_RST_N is low and the
store contents read 0xFF (assumptions 3, 4). -/
def State.reset : State :=
  { regs := { anchor := 0, run := false, sweepMs := 0, notice := 0, noticeEn := 0 }
    reader := { sweep := .idle, cursor := 0, owed := false, timer := none, records := Vector.replicate 16 none }
    lanes := Vector.replicate 24 .fresh
    maps := { active := .vacant, generation := 0, upcoming := none, checking := none, switched := none,
              laneSlips := [], mapLoads := [] }
    frames := { counter := 0, voidCount := 0, assembler := .stopped, stragglers := [] }
    link := { airRstN := false, airData := .heldLow }
    cursor := 0
    text := { queue := [], putting := none }
    carousels := []
    store := { contents := [], stored := Vector.replicate 64 .vacant, slots := Vector.replicate 64 .vacant,
               loaded := false, queue := [], jobs := [], running := none, recovery := [], hold := 0, dirWrites := [] }
    alerts := { places := Vector.replicate 4 none, log := [], queue := [], checking := none }
    posted := []
    ran := false
    draws := 0
    pending := [] }

end Sys2Proof.Machine
end

