-- ==== Sys2Proof/Machine/Bytes.lean ====
section
/-! DEFINITION. Bytes: byte orders (R174), host reads, padding, saturating counts and the two check codes (R179, R180). -/

namespace Sys2Proof.Machine

/-- `n` bytes of `v`, least significant first (R174). -/
def leBytes : Nat → Nat → List Byte
  | 0, _ => []
  | n + 1, v => BitVec.ofNat 8 v :: leBytes n (v / 256)

/-- `n` bytes of `v`, most significant first (R174). -/
def beBytes (n v : Nat) : List Byte := (leBytes n v).reverse

/-- The number that bytes spell, least significant first (R174). -/
def leNat : List Byte → Nat
  | [] => 0
  | b :: bs => b.toNat + 256 * leNat bs

/-- A byte with bit `i` set for each true flag of the list, from bit 0. -/
def flagBits (flags : List Bool) : Nat :=
  match flags with
  | [] => 0
  | f :: fs => f.toNat + 2 * flagBits fs

/-- Rounded-up division. -/
def ceilDiv (n d : Nat) : Nat := (n + d - 1) / d

/-- `bs` followed by zero bytes up to `n` bytes. -/
def padTo (n : Nat) (bs : List Byte) : List Byte := bs ++ List.replicate (n - bs.length) 0

/-- `n` bytes of `bs` from offset `off`, zero where `bs` ends. -/
def slice (bs : List Byte) (off n : Nat) : List Byte := padTo n ((bs.drop off).take n)

/-- A 16-bit saturating count raised by one (00_scope.md, Counters). -/
def satInc (c : Half) : Half := if c = 0xFFFF then c else c + 1

/-- An 8-bit count raised by one, saturating at 255 (R87). -/
def satIncByte (c : Byte) : Byte := if c = 0xFF then c else c + 1

/-- The byte of host memory at `a` as a view finds it. -/
def hostByte (h : HostView) (a : Nat) : Byte :=
  match h.cells.find? (fun c => c.1 == a) with
  | some c => c.2
  | none => 0

/-- The addresses of `n` bytes from host address `a`; 64-bit addresses wrap (assumption 9). -/
def hostRange (a : Addr) (n : Nat) : List Nat := (List.range n).map fun i => (a + BitVec.ofNat 64 i).toNat

/-- A PCIe read of the bytes at the given addresses: none when it ends in an error. -/
def hostGather (h : HostView) (addrs : List Nat) : Option (List Byte) :=
  if addrs.any (fun a => h.errors.contains a) then none else some (addrs.map (hostByte h))

/-- A PCIe read of `n` bytes from `a`. -/
def hostRead (h : HostView) (a : Addr) (n : Nat) : Option (List Byte) := hostGather h (hostRange a n)

/-- `a` moved up by `n` bytes. -/
def addrAt (a : Addr) (n : Nat) : Addr := a + BitVec.ofNat 64 n

/-- One bit step of the CRC-16 (R179). -/
def crc16Bit (r : BitVec 16) : BitVec 16 := if r.getLsbD 15 then (r <<< 1) ^^^ 0x1021 else r <<< 1

/-- One byte of the CRC-16: the byte enters the upper 8 bits (R179). -/
def crc16Byte (r : BitVec 16) (b : Byte) : BitVec 16 :=
  (List.range 8).foldl (fun r _ => crc16Bit r) (r ^^^ (b.zeroExtend 16 <<< 8))

/-- The CRC-16 of a header region (R179). -/
def crc16 (bs : List Byte) : BitVec 16 := bs.foldl crc16Byte 0xFFFF

/-- One bit step of the CRC-32 (R180). -/
def crc32Bit (r : Word) : Word := if r.getLsbD 0 then (r >>> 1) ^^^ 0xEDB88320 else r >>> 1

/-- One byte of the CRC-32 (R180). -/
def crc32Byte (r : Word) (b : Byte) : Word :=
  (List.range 8).foldl (fun r _ => crc32Bit r) (r ^^^ b.zeroExtend 32)

/-- The CRC-32 of a picture (R180). -/
def crc32 (bs : List Byte) : Word := bs.foldl crc32Byte 0xFFFFFFFF ^^^ 0xFFFFFFFF

/-- The bits of a frame in the order AIR_DATA sends them: cell 0 first, byte 0 first, most significant bit first (R46). -/
def airBits (frame : List Byte) : List Bool :=
  frame.flatMap fun b => (List.range 8).map fun i => b.getLsbD (7 - i)

end Sys2Proof.Machine
end

