-- ==== Sys2Proof/Machine/Operands.lean ====
section
/-! DEFINITION. The operand forms: the slip, its kinds and their arguments (R176), status codes (R170) and address forms of
the host area (R176). -/

namespace Sys2Proof.Machine

/-- The sixteen slip kinds (R176). -/
inductive Kind where
  | laneSetup | laneRetire | laneHalt | laneResume | mapLoad | textPut | textDrop | textClear
  | carSet | carJump | picOpen | picWrite | picSeal | picDrop | alertRaise | alertEnd
  deriving DecidableEq, Repr

/-- The kind a kind byte codes (R176). -/
def kindOf (b : Byte) : Option Kind :=
  match b.toNat with
  | 0x01 => some .laneSetup
  | 0x02 => some .laneRetire
  | 0x03 => some .laneHalt
  | 0x04 => some .laneResume
  | 0x08 => some .mapLoad
  | 0x10 => some .textPut
  | 0x11 => some .textDrop
  | 0x12 => some .textClear
  | 0x18 => some .carSet
  | 0x19 => some .carJump
  | 0x20 => some .picOpen
  | 0x21 => some .picWrite
  | 0x22 => some .picSeal
  | 0x23 => some .picDrop
  | 0x30 => some .alertRaise
  | 0x31 => some .alertEnd
  | _ => none

/-- The block that owns a kind (R166); the LMC's MAP_LOADs wait in a queue of their own (R14). -/
inductive Owner where
  | lane | map | text | carousel | store | alert
  deriving DecidableEq, Repr

/-- The owner of a kind (R166). -/
def ownerOf : Kind → Owner
  | .laneSetup | .laneRetire | .laneHalt | .laneResume => .lane
  | .mapLoad => .map
  | .textPut | .textDrop | .textClear => .text
  | .carSet | .carJump => .carousel
  | .picOpen | .picWrite | .picSeal | .picDrop => .store
  | .alertRaise | .alertEnd => .alert

/-- The kinds that name a lane (R165). -/
def namesLane : Kind → Bool
  | .laneSetup | .laneRetire | .laneHalt | .laneResume | .textPut | .textDrop | .textClear | .carSet | .carJump => true
  | .mapLoad | .picOpen | .picWrite | .picSeal | .picDrop | .alertRaise | .alertEnd => false

/-- Whether a kind byte is one of the picture slips (R164 step 4). -/
def isPicture (b : Byte) : Bool :=
  match kindOf b with
  | some k => decide (ownerOf k = .store)
  | none => false

/-! ### Status codes (R170) -/

def statusOk : Nat := 0
def statusPartial : Nat := 1
def statusSkipped : Nat := 2
def statusBadKind : Nat := 3
def statusBadLane : Nat := 4
def statusBadArg : Nat := 5
def statusLaneState : Nat := 6
def statusMapPending : Nat := 7
def statusMapInvalid : Nat := 8
def statusQueueFull : Nat := 9
def statusNotFound : Nat := 10
def statusNotReady : Nat := 11
def statusSlotState : Nat := 12
def statusNoSpace : Nat := 13
def statusProtected : Nat := 14
def statusCheckFailed : Nat := 15
def statusLogFull : Nat := 16
def statusAlertLimit : Nat := 17
def statusAlertTooWide : Nat := 18
def statusAlertBound : Nat := 19
def statusInAlert : Nat := 20
def statusDuplicate : Nat := 21
def statusBusy : Nat := 22
def statusFetchFault : Nat := 23

/-! ### Numbers that name parts -/

/-- A lane number, if it is 0-23. -/
def laneOf (n : Nat) : Option LaneId := if h : n < 24 then some ⟨n, h⟩ else none

/-- A slot number, if it is 0-63. -/
def slotOf (n : Nat) : Option SlotId := if h : n < 64 then some ⟨n, h⟩ else none

/-- The work record that a 64-byte slip read fills (R167, R176). -/
def parseSlip (slip : SlipId) (bs : List Byte) : WorkRecord :=
  { slip := slip, kind := bs.getD 1 0, guard := bs.getD 2 0, flags := bs.getD 3 0,
    tag := BitVec.ofNat 32 (leNat (slice bs 4 4)), args := slice bs 20 44 }

/-- NOTIFY of a slip's flags (R176). -/
def WorkRecord.wantsNotice (w : WorkRecord) : Bool := w.flags.getLsbD 0

/-- SKIP_ON_FALSE of a slip's flags (R176). -/
def WorkRecord.skipOnFalse (w : WorkRecord) : Bool := w.flags.getLsbD 1

/-- The argument of `n` bytes at argument offset `off`, little-endian (R174, R176). -/
def WorkRecord.arg (w : WorkRecord) (off n : Nat) : Nat := leNat (slice w.args off n)

/-- The argument byte at offset `off`. -/
def WorkRecord.argByte (w : WorkRecord) (off : Nat) : Byte := w.args.getD off 0

/-- The host address at argument offset `off`. -/
def WorkRecord.argAddr (w : WorkRecord) (off : Nat) : Addr := BitVec.ofNat 64 (w.arg off 8)

/-- The lane a slip names: argument byte 0 (R176). -/
def WorkRecord.lane (w : WorkRecord) : Option LaneId := laneOf (w.arg 0 1)

/-- The slot a picture slip names: argument byte 0 (R176). -/
def WorkRecord.slot (w : WorkRecord) : Option SlotId := slotOf (w.arg 0 1)

/-- The take set that a take-set byte codes (R176). -/
def takeSetOf (b : Byte) : TakeSet := { audio := b.getLsbD 0, text := b.getLsbD 1, picture := b.getLsbD 2 }

/-- The code of a take set (R176). -/
def TakeSet.code (t : TakeSet) : Nat := flagBits [t.audio, t.text, t.picture]

/-- The fields a take set takes, in the order AUDIO, TEXT, PICTURE (R147). -/
def TakeSet.fields (t : TakeSet) : List Field :=
  (if t.audio then [Field.audio] else []) ++ (if t.text then [Field.text] else []) ++
    (if t.picture then [Field.picture] else [])

/-- The lanes of a target set, ascending: bit l for lane l; bits 31-24 are unused (R176). -/
def targetsOf (mask : Nat) : List LaneId := (List.finRange 24).filter fun l => mask.testBit l.val

/-- The code of a target set (R176). -/
def targetMask (targets : List LaneId) : Nat := flagBits ((List.finRange 24).map fun l => targets.contains l)

/-! ### Addresses in the host area (R176) -/

/-- The address of slip `i`. -/
def slipAddr (anchor : Addr) (i : SlipId) : Addr := addrAt anchor (64 * i.val)

/-- The address of a lane's tab. -/
def tabAddr (anchor : Addr) (l : LaneId) (letter : Letter) : Addr :=
  addrAt anchor (Config.tabsOffset + 32 * l.val + match letter with | .a => 0 | .b => 16)

/-- The addresses of the 128 hands. -/
def handAddrs (anchor : Addr) : List Nat := (List.finRange 128).map fun i => (slipAddr anchor i).toNat

end Sys2Proof.Machine
end

