-- ==== Sys2Proof/Machine/Flags.lean ====
section
/-! DEFINITION. The flags: the four notice causes (R172) and the whole-block updates of State that every operation goes
through. -/

namespace Sys2Proof.Machine

/-! ### Updates of State, one block at a time -/

def State.setRegs (s : State) (x : Registers) : State := { s with regs := x }
def State.setReader (s : State) (x : Reader) : State := { s with reader := x }
def State.setLanes (s : State) (x : Vector Lane 24) : State := { s with lanes := x }
def State.setMaps (s : State) (x : MapControl) : State := { s with maps := x }
def State.setFrames (s : State) (x : FrameControl) : State := { s with frames := x }
def State.setLink (s : State) (x : Link) : State := { s with link := x }
def State.setCursor (s : State) (x : LaneId) : State := { s with cursor := x }
def State.setText (s : State) (x : TextEngine) : State := { s with text := x }
def State.setCarousels (s : State) (x : List RecId) : State := { s with carousels := x }
def State.setStore (s : State) (x : Store) : State := { s with store := x }
def State.setAlerts (s : State) (x : AlertControl) : State := { s with alerts := x }
def State.setRan (s : State) (x : Bool) : State := { s with ran := x }
def State.setDraws (s : State) (x : Nat) : State := { s with draws := x }

/-- One posted PCIe write or message more, behind those posted before (R28, R169: posted writes keep their order). -/
def State.post (s : State) (p : Posted) : State := { s with posted := s.posted ++ [p] }

/-- A posted write of one record. -/
def State.postRecord (s : State) (a : Addr) (bs : List Byte) : State := s.post (.write [⟨a, bs⟩])

/-! ### Notices (R172, R175) -/

/-- The four notice causes (R172). -/
inductive Cause where
  | slip | feed | void | fault
  deriving DecidableEq, Repr

/-- The bit of a cause in NOTICE and NOTICE_EN (R175). -/
def causeBit : Cause → Nat
  | .slip => 0
  | .feed => 1
  | .void => 2
  | .fault => 3

/-- The four causes in the order of their bits. -/
def allCauses : List Cause := [.slip, .feed, .void, .fault]

/-- Whether a cause is set in a notice register. -/
def hasCause (v : BitVec 4) (c : Cause) : Bool := v.getLsbD (causeBit c)

/-- A cause's event: a cause that is clear becomes set and, with its enable set, sends one interrupt message; a cause
that is set stays set and sends none (R172). -/
def raiseNotice (c : Cause) (s : State) : State :=
  if hasCause s.regs.notice c then s
  else
    let s' := s.setRegs { s.regs with notice := s.regs.notice ||| (1#4 <<< causeBit c) }
    if hasCause s.regs.noticeEn c then s'.post .interrupt else s'

/-- The causes whose enable goes from clear to set while they are set: each sends one message (R172). -/
def newlyEnabled (notice old new : BitVec 4) : List Cause :=
  allCauses.filter fun c => hasCause notice c && !hasCause old c && hasCause new c

/-- `n` interrupt messages posted. -/
def postInterrupts : Nat → State → State
  | 0, s => s
  | n + 1, s => postInterrupts n (s.post .interrupt)

end Sys2Proof.Machine
end

