-- ==== Sys2Proof/Machine/Ops.lean ====
section
/-! DEFINITION. The operations that the blocks share: lane records, the store's bytes, mirror records, slip completion and
user counts. The block has no exception entry and no fetch. -/

namespace Sys2Proof.Machine

/-! ### Lane records and maps -/

/-- Lane `l`'s record replaced. -/
def State.setLane (s : State) (l : LaneId) (x : Lane) : State := s.setLanes (s.lanes.set l x)

/-- Lane `l`'s record. -/
def State.lane (s : State) (l : LaneId) : Lane := s.lanes[l]

/-- A lane's entry in a map. -/
def AirMap.entry? (m : AirMap) (l : LaneId) : Option MapEntry := m.entries.find? fun e => e.lane = l

/-- A lane is aired when it has an entry in the active map (R2). -/
def aired (s : State) (l : LaneId) : Bool := (s.maps.active.entry? l).isSome

/-- A lane has an entry in the pending map. -/
def inUpcoming (s : State) (l : LaneId) : Bool :=
  match s.maps.upcoming with
  | some p => (p.map.entry? l).isSome
  | none => false

/-! ### Alerts -/

/-- The alerts whose place holds them: RAISED, ON_AIR or ENDING (R141). -/
def activeAlerts (s : State) : List Alert := s.alerts.places.toList.filterMap id

/-- The active alert with an id. -/
def alertById (s : State) (id : Byte) : Option Alert := (activeAlerts s).find? fun a => a.id = id

/-- Some alert is active. -/
def anyAlert (s : State) : Bool := !(activeAlerts s).isEmpty

/-- The source field `f` of a lane (R3). -/
def Lane.sourceOf (x : Lane) : Field → Source
  | .audio => x.audioFrom
  | .text => x.textFrom
  | .picture => x.pictureFrom

/-- The source field `f` of a lane written (R3). -/
def Lane.setSource (x : Lane) (f : Field) (v : Source) : Lane :=
  match f with
  | .audio => { x with audioFrom := v }
  | .text => { x with textFrom := v }
  | .picture => { x with pictureFrom := v }

/-! ### The store's bytes (R103) -/

/-- The canonical form: addresses strictly rising, no byte listed that reads 0xFF anyway. -/
def storeWf : List Host.Cell → Bool
  | [] => true
  | c :: cs => decide (c.2 ≠ Config.erasedByte) && cs.all (fun d => decide (c.1 < d.1)) && storeWf cs

/-- The byte at store address `a`. -/
def storeByte (m : List Host.Cell) (a : Nat) : Byte :=
  match m.find? (fun c => c.1 == a) with
  | some c => c.2
  | none => Config.erasedByte

/-- Store address `a` made to hold `b`. -/
def storePut (m : List Host.Cell) (a : Nat) (b : Byte) : List Host.Cell :=
  match m with
  | [] => if b = Config.erasedByte then [] else [(a, b)]
  | c :: cs =>
    if a < c.1 then (if b = Config.erasedByte then c :: cs else (a, b) :: c :: cs)
    else if a = c.1 then (if b = Config.erasedByte then cs else (a, b) :: cs)
    else c :: storePut cs a b

/-- The block a store address lies in (R103). -/
def blockOf (a : Nat) : Nat := a / Config.blockBytes

/-- An erase sets every byte of one block to 0xFF (R103). -/
def storeErase (m : List Host.Cell) (block : Nat) : List Host.Cell := m.filter fun c => blockOf c.1 ≠ block

/-- A program: each byte becomes its old value AND the value given (R103). -/
def storeProgram (m : List Host.Cell) (a : Nat) : List Byte → List Host.Cell
  | [] => m
  | b :: bs => storeProgram (storePut m a (storeByte m a &&& b)) (a + 1) bs

/-- `n` store bytes from address `a`. -/
def storeRead (m : List Host.Cell) (a n : Nat) : List Byte := (List.range n).map fun i => storeByte m (a + i)

/-- The bank of a block (R103). -/
def bankOf (block : Nat) : Nat := if block < 512 then 0 else 1

/-- The bank of an extent: the bank of its first block (R107). -/
def Extent.bank (e : Extent) : Nat := bankOf e.first

/-- The blocks of an extent, ascending. -/
def Extent.blocks (e : Extent) : List Nat := List.range' e.first e.count

/-- The slot `i` of the working copy. -/
def State.slot (s : State) (i : SlotId) : Slot := s.store.slots[i]

/-- The slot `i` of the working copy replaced. -/
def State.setSlot (s : State) (i : SlotId) (x : Slot) : State :=
  s.setStore { s.store with slots := s.store.slots.set i x }

/-- The bank of a slot; 0 for a slot with no blocks. -/
def slotBank (s : State) (i : SlotId) : Nat :=
  match (s.slot i).record.extent with
  | some e => e.bank
  | none => 0

/-- The byte length of a slot; 0 for a slot with no blocks. -/
def slotLength (s : State) (i : SlotId) : Nat :=
  match (s.slot i).record.extent with
  | some e => e.length
  | none => 0

/-- The store address of a slot's first byte. -/
def slotBase (s : State) (i : SlotId) : Nat :=
  match (s.slot i).record.extent with
  | some e => e.first * Config.blockBytes
  | none => 0

/-- A bank is held when it is bank 0 and the hold count is above 0 (R109). -/
def bankHeld (s : State) (bank : Nat) : Bool := decide (bank = 0) && decide (0 < s.store.hold)

/-- A bank is busy while an erase or program operation is in progress in it (R112). -/
def bankBusy (s : State) (bank : Nat) : Bool :=
  match s.store.running with
  | some ⟨_, .erase block⟩ => decide (bankOf block = bank)
  | some ⟨_, .program dest _⟩ => decide (bankOf (blockOf dest) = bank)
  | some ⟨_, .hostRead _⟩ => false
  | some ⟨_, .sealRead⟩ => false
  | none => false

/-! ### Mirror records (R177) -/

def laneStateCode : LaneState → Nat
  | .unused => 0
  | .ready => 1
  | .halted => 2

def slotStateCode : SlotState → Nat
  | .empty => 0
  | .erasing => 1
  | .filling => 2
  | .sealing => 3
  | .ready => 4
  | .condemned => 5
  | .dropping => 6

def alertStateCode : AlertState → Nat
  | .raised => 1
  | .onAir => 2
  | .ending => 3

/-- The frame mirror (R67, R177): the counter is the one that the frame just sent carried. -/
def frameMirror (s : State) (counter : Word) : List Byte :=
  padTo 64 <|
    leBytes 4 counter.toNat ++ leBytes 4 s.frames.voidCount.toNat ++ leBytes 1 s.maps.generation.toNat ++
    (match s.maps.upcoming with
     | some p => leBytes 1 p.announce ++ leBytes 1 1
     | none => leBytes 1 0 ++ leBytes 1 0)

/-- The alert mirror record of a place (R157, R177). -/
def alertMirror (s : State) (p : PlaceId) : List Byte :=
  match s.alerts.places[p] with
  | none => List.replicate 32 0
  | some a =>
    padTo 32 <|
      leBytes 1 (alertStateCode a.state) ++ leBytes 1 a.id.toNat ++ leBytes 1 a.level ++ leBytes 1 a.take.code ++
      leBytes 4 (targetMask a.targets) ++
      leBytes 1 (match a.source with | some l => l.val | none => 255) ++ leBytes 1 a.width ++
      (match a.picture with
       | some (slot, version) => leBytes 1 slot.val ++ leBytes 1 version.toNat
       | none => leBytes 1 255 ++ leBytes 1 0) ++
      leBytes 2 (match a.text with | some t => t.length | none => 0) ++
      leBytes 1 (s.alerts.log.countP fun e => e.alert = a.id) ++
      (match a.onAirFrame with
       | some f => leBytes 1 1 ++ leBytes 4 f.toNat
       | none => leBytes 1 0 ++ leBytes 4 0)

/-- The lane mirror (R68, R100, R139, R177), with the frame counter that goes into it. -/
def laneMirror (s : State) (l : LaneId) (counter : Word) : List Byte :=
  let x := s.lane l
  let e := s.maps.active.entry? l
  padTo 64 <|
    leBytes 1 (laneStateCode x.state) ++
    leBytes 1 (flagBits [e.isSome, !x.text.queue.isEmpty, x.text.toggle, x.carousel.airing.isSome,
      decide (x.carousel.position.mark = .on)]) ++
    leBytes 1 (match x.feed.held with | none => 0 | some .a => 1 | some .b => 2) ++
    (match e with
     | some e => leBytes 1 e.reserved ++ leBytes 2 e.start
     | none => leBytes 1 0 ++ leBytes 2 0) ++
    leBytes 2 x.feed.sequence.toNat ++ leBytes 4 x.counts.unitsAired.toNat ++ leBytes 4 x.credit ++
    leBytes 2 x.counts.filler.toNat ++ leBytes 2 x.counts.oversize.toNat ++ leBytes 2 x.counts.lateDrop.toNat ++
    leBytes 2 x.counts.displaced.toNat ++ leBytes 2 x.counts.fetchFault.toNat ++ leBytes 2 x.saturation.toNat ++
    leBytes 2 x.counts.pictureStall.toNat ++
    leBytes 2 (match x.text.queue with | m :: _ => m.id.toNat | [] => 0) ++
    leBytes 1 x.carousel.position.entry ++
    (match x.carousel.airing with
     | some a => leBytes 1 a.slot.val ++ leBytes 1 a.version.toNat ++ leBytes 1 0 ++ leBytes 4 a.offset
     | none => leBytes 1 0 ++ leBytes 1 0 ++ leBytes 1 0 ++ leBytes 4 0) ++
    leBytes 4 counter.toNat

/-- The directory mirror record of a slot (R106, R177). -/
def directoryMirror (x : Slot) : List Byte :=
  leBytes 1 (slotStateCode x.record.state) ++ leBytes 1 (flagBits [x.record.alertFlag]) ++
  leBytes 1 x.record.version.toNat ++
  (match x.record.extent with
   | some e => leBytes 1 e.count ++ leBytes 2 e.first
   | none => leBytes 1 0 ++ leBytes 2 0) ++
  leBytes 2 x.users ++
  leBytes 4 (match x.record.extent with | some e => e.length | none => 0) ++
  leBytes 4 (match x.record.crc with | some c => c.toNat | none => 0)

/-- The frame mirror written (R67). -/
def writeFrameMirror (counter : Word) (s : State) : State :=
  s.postRecord (addrAt s.regs.anchor Config.frameMirrorOffset) (frameMirror s counter)

/-- An alert mirror record written. RUN has become 1 since the reset whenever a place changes (R157). -/
def writeAlertMirror (p : PlaceId) (s : State) : State :=
  s.postRecord (addrAt s.regs.anchor (Config.alertMirrorOffset + 32 * p.val)) (alertMirror s p)

/-- A lane mirror written (R2, R68). -/
def writeLaneMirror (l : LaneId) (counter : Word) (s : State) : State :=
  s.postRecord (addrAt s.regs.anchor (Config.laneMirrorOffset + 64 * l.val)) (laneMirror s l counter)

/-- A directory mirror entry posted. -/
def postDirectoryEntry (i : SlotId) (s : State) : State :=
  s.postRecord (addrAt s.regs.anchor (Config.directoryMirrorOffset + 16 * i.val)) (directoryMirror (s.slot i))

/-- A directory mirror entry written at a change of the slot: none from a reset until RUN first becomes 1 (R106). -/
def writeDirectoryMirror (i : SlotId) (s : State) : State := if s.ran then postDirectoryEntry i s else s

/-! ### Work records and slip completion (R167, R169) -/

/-- The work record `r`. -/
def State.work (s : State) (r : RecId) : Option WorkRecord := s.reader.records[r]

/-- Work record `r` filled. -/
def fillRecord (r : RecId) (w : WorkRecord) (s : State) : State :=
  s.setReader { s.reader with records := s.reader.records.set r (some w) }

/-- Work record `r` freed. -/
def freeRecord (r : RecId) (s : State) : State :=
  s.setReader { s.reader with records := s.reader.records.set r none }

/-- The completion writes of a slip: status, aux, done frame and tag in one posted write, then hand DONE (R169). -/
def postCompletion (w : WorkRecord) (status : Nat) (aux frame : Word) (s : State) : State :=
  let a := slipAddr s.regs.anchor w.slip
  (s.post (.write [⟨addrAt a 8, leBytes 2 status⟩, ⟨addrAt a 12, leBytes 4 aux.toNat⟩,
    ⟨addrAt a 16, leBytes 4 frame.toNat⟩, ⟨addrAt a 4, leBytes 4 w.tag.toNat⟩])).postRecord a (leBytes 1 3)

/-- SLIP raised for a slip whose flags have NOTIFY set (R169 step 4). -/
def noticeSlip (w : WorkRecord) (s : State) : State := if w.wantsNotice then raiseNotice .slip s else s

/-- The store queue entry of a work record freed, if it has one (R169 step 3). -/
def freeEntry (r : RecId) (s : State) : State :=
  s.setStore { s.store with jobs := s.store.jobs.filter fun j => j.record ≠ r }

/-- A slip completes with a status, an aux value and a done frame (R169). -/
def complete (r : RecId) (status : Nat) (aux frame : Word) (s : State) : State :=
  match s.work r with
  | none => s
  | some w => noticeSlip w (freeEntry r (freeRecord r (postCompletion w status aux frame s)))

/-- A slip completes at an event other than a send: its done frame is the frame counter as it stands (R169). -/
def finish (r : RecId) (status : Nat) (aux : Word) (s : State) : State :=
  complete r status aux s.frames.counter s

/-- A slip completes where no rule gives the aux value: a free value (assumption 6). -/
def finishUnstated (r : RecId) (status : Nat) (s : State) : State :=
  finish r status (Config.unstatedAux s.draws) (s.setDraws (s.draws + 1))

/-! ### Directory writes and user counts (R106, R108) -/

/-- A slot record after a change of state (R104, R106, R115, R119, R122). -/
def DirChange.apply (c : DirChange) (d : DirRecord) : DirRecord :=
  match c with
  | .toFilling => { d with state := .filling, crc := none }
  | .toReady crc => { d with state := .ready, version := d.version + 1, crc := some crc }
  | .toEmpty => { d with state := .empty, alertFlag := false, extent := none, crc := none }
  | .toDropping => { d with state := .dropping, crc := none }

/-- A directory write begins, behind those under way (assumption 10). -/
def beginDirWrite (w : DirWrite) (s : State) : State :=
  s.setStore { s.store with dirWrites := s.store.dirWrites ++ [w] }

/-- A slot's record changed by a directory write that ends: in the store's directory region and in the working copy,
and then in the mirror (R106). -/
def recordSlot (i : SlotId) (d : DirRecord) (s : State) : State :=
  writeDirectoryMirror i
    (s.setStore { s.store with
      stored := s.store.stored.set i d
      slots := s.store.slots.set i { (s.slot i) with record := d } })

/-- A WAITING job of a slot becomes QUEUED (R108). -/
def wakeJob (i : SlotId) (j : Job) : Job := if j.slot = i ∧ j.state = .waiting then { j with state := .queued } else j

/-- The user count of a slot set; a CONDEMNED slot whose count reaches 0 begins to become DROPPING and its drop job
becomes QUEUED (R108). -/
def setUsers (i : SlotId) (n : Nat) (s : State) : State :=
  let x := s.slot i
  let s1 := writeDirectoryMirror i (s.setSlot i { x with users := n })
  if x.record.state = .condemned ∧ n = 0 then
    beginDirWrite ⟨i, .toDropping, none⟩ (s1.setStore { s1.store with jobs := s1.store.jobs.map (wakeJob i) })
  else s1

/-- One slot's user count after the references `old` have gone and the references `new` have come; a count that does
not change is not touched (R132). -/
def retallySlot (old new : List SlotId) (s : State) (i : SlotId) : State :=
  if old.count i = new.count i then s
  else setUsers i ((s.slot i).users + new.count i - old.count i) s

/-- The user counts after the references `old` have gone and the references `new` have come (R108). DESIGN CHOICE: the
mirror entries of the slots that change are written in ascending slot order (R132; assumption 38). -/
def retally (old new : List SlotId) (s : State) : State := (List.finRange 64).foldl (retallySlot old new) s

end Sys2Proof.Machine
end

