-- ==== Sys2Proof/Machine/Jobs.lean ====
section
/-! DEFINITION. Store jobs: which job runs, and what the end of an operation leads to (R110, R111, R117). -/

namespace Sys2Proof.Machine

/-- The job of work record `r`. -/
def jobOf (s : State) (r : RecId) : Option Job := s.store.jobs.find? fun j => j.record = r

/-- Every job of work record `r` replaced by `f` of it. -/
def updateJob (r : RecId) (f : Job → Job) (s : State) : State :=
  s.setStore { s.store with jobs := s.store.jobs.map fun j => if j.record = r then f j else j }

/-- The operation in progress set. -/
def setRunning (x : Option Running) (s : State) : State := s.setStore { s.store with running := x }

/-- A job the store may choose: QUEUED or PAUSED, its bank not held (R111). -/
def eligible (s : State) (j : Job) : Bool :=
  (decide (j.state = .queued) || decide (j.state = .paused)) && !bankHeld s j.bank

/-- A slot of the recovery list that can run: its bank not held (R111, R124). -/
def recoveryReady (s : State) (e : Recovery) : Bool := !bankHeld s e.bank

/-- A job becomes RUNNING with an operation. -/
def startJob (r : RecId) (op : Operation) (s : State) : State :=
  setRunning (some ⟨.job r, op⟩) (updateJob r (fun j => { j with state := .running }) s)

/-- A recovery slot's next erase starts. -/
def startRecovery (e : Recovery) (s : State) : State :=
  match e.blocks with
  | b :: _ => setRunning (some ⟨.recovery e.slot, .erase b⟩) s
  | [] => s

/-- A PIC_WRITE whose last repetition has been made completes: OK, or PARTIAL with the bytes cut off (R117). -/
def finishWrite (j : Job) (s : State) : State :=
  if j.cut = 0 then finish j.record statusOk 0 s
  else finish j.record statusPartial (BitVec.ofNat 32 j.cut) s

/-- The first block of a slot, as an aux value. -/
def firstBlock (s : State) (i : SlotId) : Word :=
  match (s.slot i).record.extent with
  | some e => BitVec.ofNat 32 e.first
  | none => 0

/-- The directory write that the end of an erase job makes, with the completion it carries: FILLING for an open (R115),
EMPTY for a drop (R122). -/
def eraseJobWrite (s : State) (j : Job) : DirWrite :=
  match j.kind with
  | .drop => ⟨j.slot, .toEmpty, some ⟨j.record, statusOk, BitVec.ofNat 32 j.made⟩⟩
  | _ => ⟨j.slot, .toFilling, some ⟨j.record, statusOk, firstBlock s j.slot⟩⟩

/-- An erase job whose last erase has ended: its directory write begins, and its entry waits for it (R110). -/
def endErases (j : Job) (s : State) : State :=
  beginDirWrite (eraseJobWrite s j) (updateJob j.record (fun j => { j with state := .ended }) s)

/-- The store chooses the next job while none is RUNNING: first a slot of the recovery list that can run, then the
oldest job that may run; a job with no operation to make ends at once, and the store chooses again (R111). The number
bounds the jobs that end so. -/
def storeChoose : Nat → State → State
  | 0, s => s
  | n + 1, s =>
    match s.store.running with
    | some _ => s
    | none =>
      match s.store.recovery.find? (recoveryReady s) with
      | some e => startRecovery e s
      | none =>
        match s.store.jobs.find? (eligible s) with
        | none => s
        | some j =>
          match j.work with
          | .erases (b :: _) => startJob j.record (.erase b) s
          | .programs (p :: _) => startJob j.record (.hostRead p) s
          | .sealRead _ => startJob j.record .sealRead s
          | .programs [] => storeChoose n (finishWrite j s)
          | .erases [] => storeChoose n (endErases j s)

/-- The store chooses (R111). -/
def choose (s : State) : State := storeChoose (s.store.jobs.length + 1) s

/-- An accepted slip's job enters the queue, behind the others (R110). -/
def enterJob (j : Job) (s : State) : State := s.setStore { s.store with jobs := s.store.jobs ++ [j] }

/-- A job whose operation has ended goes on with operation `op`, or, its bank being held, pauses, and the store chooses
again (R111). -/
def goOn (j : Job) (op : Operation) (s : State) : State :=
  if bankHeld s j.bank then
    choose (setRunning none (updateJob j.record (fun j => { j with state := .paused }) s))
  else setRunning (some ⟨.job j.record, op⟩) s

/-- After an erase of a job (R111): the next block, a pause, or the end of the job. -/
def afterJobErase (j : Job) (s : State) : State :=
  match j.work with
  | .erases (_ :: b :: bs) =>
    let j' := { j with work := .erases (b :: bs), made := j.made + 1 }
    goOn j' (.erase b) (updateJob j.record (fun _ => j') s)
  | _ =>
    let j' := { j with work := .erases [], made := j.made + 1 }
    choose (endErases j' (setRunning none (updateJob j.record (fun _ => j') s)))

/-- The recovery entry of a slot replaced. -/
def updateRecovery (i : SlotId) (blocks : List Nat) (s : State) : State :=
  s.setStore { s.store with
    recovery := s.store.recovery.map fun e => if e.slot = i then { e with blocks := blocks } else e }

/-- After an erase of recovery (R124): the slot's next block, a pause, or the directory write that makes it EMPTY. -/
def afterRecoveryErase (e : Recovery) (s : State) : State :=
  match e.blocks with
  | _ :: b :: bs =>
    let s1 := updateRecovery e.slot (b :: bs) s
    if bankHeld s1 e.bank then choose (setRunning none s1)
    else setRunning (some ⟨.recovery e.slot, .erase b⟩) s1
  | _ =>
    let s1 := s.setStore { s.store with recovery := s.store.recovery.filter fun x => x.slot ≠ e.slot }
    choose (beginDirWrite ⟨e.slot, .toEmpty, none⟩ (setRunning none s1))

/-- After a page program (R117): the next repetition, a pause, or the completion. -/
def afterProgram (j : Job) (s : State) : State :=
  match j.work with
  | .programs (_ :: p :: ps) =>
    let j' := { j with work := .programs (p :: ps), made := j.made + 1 }
    goOn j' (.hostRead p) (updateJob j.record (fun _ => j') s)
  | _ => choose (finishWrite { j with made := j.made + 1 } (setRunning none s))

end Sys2Proof.Machine
end

