-- ==== Sys2Proof/Machine/Text.lean ====
section
/-! DEFINITION. The text slips, and the Text Engine's part of an assembly and of a send (05_ticker_text.md). -/

namespace Sys2Proof.Machine

/-- The text state of a lane replaced. -/
def State.setTextState (s : State) (l : LaneId) (t : TextState) : State := s.setLane l { s.lane l with text := t }

/-- The lane's own text is frozen: its text source holds ALERT (R93). -/
def TextState.frozen (t : TextState) : Bool := decide (t.source ≠ .own)

/-- The TE begins the oldest dispatched text slip, if it is of kind `k` and no other is being carried out (R88). -/
def textDispatch (k : Kind) (act : RecId → WorkRecord → LaneId → State → State) (s : State) : State :=
  match s.text.putting with
  | some _ => s
  | none =>
    match s.text.queue with
    | r :: rest =>
      match s.work r with
      | some w =>
        match w.lane with
        | some l => if kindOf w.kind = some k then act r w l (s.setText { s.text with queue := rest }) else s
        | none => s
      | none => s
    | [] => s

/-- The text id a text slip carries (R176). -/
def WorkRecord.textId (w : WorkRecord) : Half := BitVec.ofNat 16 (w.arg 2 2)

/-! ### TEXT_PUT (R89, R90) -/

/-- TEXT_PUT begun: the lane and the length are checked, and the body read starts (R88, R89). -/
def actTextPut (r : RecId) (w : WorkRecord) (l : LaneId) (s : State) : State :=
  if (s.lane l).state = .unused then finishUnstated r statusLaneState s
  else if w.arg 4 2 = 0 then finishUnstated r statusBadArg s
  else s.setText { s.text with putting := some r }

/-- TEXT_PUT. -/
def execTextPut (s : State) : Host.Outcome State Fault Refusal := .next (textDispatch .textPut actTextPut s)

/-- A message replaced in place (R90). -/
def replaceMessage (id : Half) (body : List Byte) (repeats : Byte) (m : Message) : Message :=
  if m.id = id then { m with body := body, repeats := repeats, airings := 0, version := m.version + 1 } else m

/-- A put applied as a replace; a replaced head is cut, unless frozen (R90). -/
def putReplace (id : Half) (body : List Byte) (repeats : Byte) (t : TextState) : TextState :=
  let cuts := !t.frozen && (match t.queue with | m :: _ => decide (m.id = id) | [] => false)
  { t with
    queue := t.queue.map (replaceMessage id body repeats)
    seed := t.seed + 1
    position := if cuts then 0 else t.position
    toggle := if cuts then !t.toggle else t.toggle }

/-- A put applied as an append; into an empty queue it makes the lane due, and flips the toggle unless frozen (R90). -/
def putAppend (id : Half) (body : List Byte) (repeats : Byte) (t : TextState) : TextState :=
  let starts := t.queue.isEmpty
  { t with
    queue := t.queue ++ [{ id := id, body := body, repeats := repeats, airings := 0, version := t.seed + 1 }]
    seed := t.seed + 1
    position := if starts && !t.frozen then 0 else t.position
    toggle := if starts && !t.frozen then !t.toggle else t.toggle
    pacing := if starts then 16 else t.pacing }

/-- OK, or PARTIAL for a body over 128 bytes (R89). -/
def putStatus (length : Nat) : Nat := if 128 < length then statusPartial else statusOk

/-- A put that passed its checks applied to the queue as it stands (R90). -/
def applyPut (r : RecId) (w : WorkRecord) (l : LaneId) (body : List Byte) (s : State) : State :=
  let t := (s.lane l).text
  let status := putStatus (w.arg 4 2)
  match t.queue.find? fun m => m.id = w.textId with
  | some m =>
    finish r status ((m.version + 1).zeroExtend 32) (s.setTextState l (putReplace w.textId body (w.argByte 1) t))
  | none =>
    if t.queue.length < Config.textQueue then
      finish r status ((t.seed + 1).zeroExtend 32) (s.setTextState l (putAppend w.textId body (w.argByte 1) t))
    else finish r statusQueueFull 0 s

/-- The body read of a TEXT_PUT ends (R89 checks 3 and 4, R90). -/
def textPutApply (h : HostView) (s : State) : State :=
  match s.text.putting with
  | none => s
  | some r =>
    let s1 := s.setText { s.text with putting := none }
    match s.work r with
    | none => s1
    | some w =>
      match w.lane with
      | none => s1
      | some l =>
        match hostRead h (w.argAddr 8) (min (w.arg 4 2) 128) with
        | none => finishUnstated r statusFetchFault s1
        | some body =>
          if body.contains 0 then finishUnstated r statusBadArg s1
          else if (s1.lane l).state = .unused then finish r statusLaneState 0 s1
          else applyPut r w l body s1

/-- TEXT_PUT_APPLY. -/
def execTextPutApply (h : HostView) (s : State) : Host.Outcome State Fault Refusal := .next (textPutApply h s)

/-! ### TEXT_DROP and TEXT_CLEAR (R91, R92) -/

/-- The message with an id dropped; a dropped head is cut, unless frozen (R91). -/
def dropMessage (id : Half) (t : TextState) : TextState :=
  let rest := t.queue.filter fun m => m.id ≠ id
  let cuts := !t.frozen && (match t.queue with | m :: _ => decide (m.id = id) | [] => false)
  { t with
    queue := rest
    position := if cuts then 0 else t.position
    toggle := if cuts && !rest.isEmpty then !t.toggle else t.toggle }

/-- TEXT_DROP acted on (R91). -/
def actTextDrop (r : RecId) (w : WorkRecord) (l : LaneId) (s : State) : State :=
  let t := (s.lane l).text
  if (s.lane l).state = .unused then finishUnstated r statusLaneState s
  else
    match t.queue.find? fun m => m.id = w.textId with
    | none => finishUnstated r statusNotFound s
    | some m => finish r statusOk (m.airings.zeroExtend 32) (s.setTextState l (dropMessage w.textId t))

/-- TEXT_DROP. -/
def execTextDrop (s : State) : Host.Outcome State Fault Refusal := .next (textDispatch .textDrop actTextDrop s)

/-- Every message gone; the position becomes 0 unless frozen (R92, R93). -/
def clearText (t : TextState) : TextState :=
  { t with queue := [], position := if t.frozen then t.position else 0 }

/-- TEXT_CLEAR acted on (R92). -/
def actTextClear (r : RecId) (_ : WorkRecord) (l : LaneId) (s : State) : State :=
  let t := (s.lane l).text
  if (s.lane l).state = .unused then finishUnstated r statusLaneState s
  else finish r statusOk (BitVec.ofNat 32 t.queue.length) (s.setTextState l (clearText t))

/-- TEXT_CLEAR. -/
def execTextClear (s : State) : Host.Outcome State Fault Refusal := .next (textDispatch .textClear actTextClear s)

/-! ### In an assembly (R93, R95, R96) -/

/-- The source change that a plan's text_from makes (R93). -/
def changeTextSource (planned : Source) (t : TextState) : TextState :=
  if t.source = planned then t
  else
    match planned with
    | .alert x => { t with toggle := !t.toggle, alertPosition := 0, source := .alert x }
    | .own => { t with toggle := !t.toggle, position := 0, pacing := 16, source := .own }

/-- Fragment `k` is the last of a text of `n` bytes (R86, R96). DESIGN CHOICE: an index past the last fragment, which the
comparison of R97 lets through after 256 replaces, counts as last, and its 14 text bytes are zero (assumption 39). -/
def isLastFragment (n k : Nat) : Bool := decide (n ≤ 14 * (k + 1))

/-- The cell of fragment `k` of a text (R96, R178). -/
def fragmentCell (body : List Byte) (k : Nat) (toggle : Bool) : List Byte :=
  0x20 :: BitVec.ofNat 8 (128 * toggle.toNat + 64 * (isLastFragment body.length k).toNat + k) :: slice body (14 * k) 14

/-- The fragment of the lane's own text that is due, if one is (R95). -/
def ownFragment (pace : Nat) (t : TextState) : Option Fragment :=
  match t.queue with
  | [] => none
  | m :: _ =>
    if pace ≤ t.pacing then
      some { alert := none, textId := m.id, version := m.version, index := t.position,
             last := isLastFragment m.body.length t.position, bytes := fragmentCell m.body t.position t.toggle }
    else none

/-- The alert of a plan with an id. -/
def Plan.alert? (p : Plan) (id : Byte) : Option Alert := p.alerts.find? fun a => a.id = id

/-- The fragment of an alert's text that a lane carries (R95, R151). -/
def alertFragment (p : Plan) (id : Byte) (t : TextState) : Option Fragment :=
  match p.alert? id with
  | none => none
  | some a =>
    match a.text with
    | none => none
    | some body =>
      some { alert := some id, textId := 0, version := 0, index := t.alertPosition,
             last := isLastFragment body.length t.alertPosition,
             bytes := fragmentCell body t.alertPosition t.toggle }

/-- The fragment due for a lane of the plan, after any source change (R95). -/
def textWant (p : Plan) (pl : PlanLane) (x : Lane) : Option Fragment :=
  match pl.text with
  | .alert id => alertFragment p id x.text
  | .own => if pl.halted then none else ownFragment x.pace x.text

/-! ### At a send (R94, R97, R98, R151) -/

/-- The queue after the airing of its head has ended (R98 steps 1 and 2). -/
def queueAfterAiring (m : Message) (rest : List Message) : List Message :=
  let m' := { m with airings := satIncByte m.airings }
  if m.repeats = 0xFF ∨ m'.airings.toNat < m.repeats.toNat + 1 then rest ++ [m'] else rest

/-- The airing of the head ends (R98). -/
def endTextAiring (t : TextState) : TextState :=
  match t.queue with
  | [] => t
  | m :: rest =>
    let queue := queueAfterAiring m rest
    { t with
      queue := queue
      position := 0
      toggle :=
        match queue with
        | [] => t.toggle
        | h :: _ => if h.id ≠ m.id ∨ h.version ≠ m.version then !t.toggle else t.toggle }

/-- The head of the queue is the message that a fragment was taken from (R97). -/
def headMatches (f : Fragment) (t : TextState) : Bool :=
  match t.queue with
  | m :: _ => decide (m.id = f.textId) && decide (m.version = f.version)
  | [] => false

/-- The commit of the fragment a frame carried for the lane (R64, R97, R151). -/
def commitFragment (f : Fragment) (t : TextState) : TextState :=
  match f.alert with
  | none =>
    if headMatches f t then
      if f.last then endTextAiring t else { t with position := f.index + 1 }
    else t
  | some id =>
    if t.source = .alert id then { t with alertPosition := if f.last then 0 else f.index + 1 } else t

/-- The pacing count at a send that carried no fragment of the lane (R94). -/
def paceOn (t : TextState) : TextState := { t with pacing := min (t.pacing + 1) 16 }

/-- A lane's text state after a send (R94, R97): `fragment` is what the frame carried for it. -/
def commitText (fragment : Option Fragment) (t : TextState) : TextState :=
  match fragment with
  | some f => { commitFragment f t with pacing := 1 }
  | none => paceOn t

end Sys2Proof.Machine
end

