-- ==== Sys2Proof/Machine/Carousel.lean ====
section
/-! DEFINITION. The carousel slips, and the Carousel Engine's part of an assembly and of a send
(07_picture_carousels.md, 04_pool_sharing.md 4.5). -/

namespace Sys2Proof.Machine

/-- The carousel state of a lane replaced. -/
def State.setCarousel (s : State) (l : LaneId) (c : Carousel) : State := s.setLane l { s.lane l with carousel := c }

/-- The CE acts on the oldest dispatched carousel slip, if it is of kind `k` (R131). -/
def carouselDispatch (k : Kind) (act : RecId → WorkRecord → LaneId → State → State) (s : State) : State :=
  match s.carousels with
  | r :: rest =>
    match s.work r with
    | some w =>
      match w.lane with
      | some l => if kindOf w.kind = some k then act r w l (s.setCarousels rest) else s
      | none => s
    | none => s
  | [] => s

/-! ### CAR_SET and CAR_JUMP (R131-R133) -/

/-- The first `count` slot numbers of a CAR_SET (R131, R176). -/
def slotNumbers (w : WorkRecord) (count : Nat) : List Nat := (List.range count).map fun i => w.arg (2 + i) 1

/-- The carousel after an accepted CAR_SET; the airing in progress is kept (R132). -/
def setList (slots : List SlotId) (c : Carousel) : Carousel :=
  { c with entries := slots, position := ⟨.next, 0⟩, jump := none }

/-- CAR_SET acted on (R131, R132). -/
def actCarSet (r : RecId) (w : WorkRecord) (l : LaneId) (s : State) : State :=
  let count := w.arg 1 1
  let numbers := slotNumbers w count
  let slots := numbers.filterMap slotOf
  let c := (s.lane l).carousel
  if (s.lane l).state = .unused then finish r statusLaneState 0 s
  else if 12 < count then finish r statusBadArg 0 s
  else if numbers.any (fun n => decide (63 < n)) then finish r statusBadArg 0 s
  else if slots.any (fun i => decide ((s.slot i).record.state ≠ .ready)) then finish r statusNotReady 0 s
  else finish r statusOk (BitVec.ofNat 32 count) (retally c.entries slots (s.setCarousel l (setList slots c)))

/-- CAR_SET. -/
def execCarSet (s : State) : Host.Outcome State Fault Refusal := .next (carouselDispatch .carSet actCarSet s)

/-- CAR_JUMP acted on (R133); a refused slip has aux 0 (R131). -/
def actCarJump (r : RecId) (w : WorkRecord) (l : LaneId) (s : State) : State :=
  let e := w.arg 1 1
  let c := (s.lane l).carousel
  if (s.lane l).state = .unused then finish r statusLaneState 0 s
  else if c.entries.length ≤ e then finish r statusBadArg 0 s
  else finish r statusOk (BitVec.ofNat 32 e) (s.setCarousel l { c with jump := some e })

/-- CAR_JUMP. -/
def execCarJump (s : State) : Host.Outcome State Fault Refusal := .next (carouselDispatch .carJump actCarJump s)

/-! ### Under an alert (R135, R136) -/

/-- The carousel after its own airing is abandoned: ON e becomes NEXT e (R135). -/
def abandonCarousel (c : Carousel) : Carousel :=
  { c with airing := none, position := ⟨.next, c.position.entry⟩ }

/-- A lane's own airing in progress, if there is one, abandoned (R135). -/
def abandonAiring (l : LaneId) (s : State) : State :=
  let c := (s.lane l).carousel
  match c.airing with
  | none => s
  | some a => retally [a.slot] [] (s.setCarousel l (abandonCarousel c))

/-- The alert showing brought into line with a plan's picture_from (R136). -/
def syncShowing (planned : Source) (c : Carousel) : Carousel :=
  match planned with
  | .own => { c with showing := none }
  | .alert x =>
    match c.showing with
    | some sh => if sh.alert = x then c else { c with showing := some ⟨x, 0⟩ }
    | none => { c with showing := some ⟨x, 0⟩ }

/-! ### In an assembly (R127-R129) -/

/-- The entry that the next airing takes (R127). -/
def nextEntry (c : Carousel) : Nat :=
  match c.jump with
  | some e => e
  | none => c.position.entry

/-- The airing of entry `e`, which names slot `i`, started (R127). -/
def beginAiring (l : LaneId) (e : Nat) (i : SlotId) (s : State) : State :=
  let c := (s.lane l).carousel
  retally [] [i]
    (s.setCarousel l
      { c with airing := some ⟨i, (s.slot i).record.version, 0⟩, position := ⟨.on, e⟩, jump := none })

/-- An airing starts when all that R127 asks holds. -/
def startAiring (pl : PlanLane) (s : State) : State :=
  let l := pl.entry.lane
  let x := s.lane l
  let c := x.carousel
  if !pl.halted && decide (pl.picture = .own) && decide (x.pictureFrom = .own) && c.airing.isNone then
    match c.entries[nextEntry c]? with
    | some i => beginAiring l (nextEntry c) i s
    | none => s
  else s

/-- What the lane shows in the frame, as the CE finds it (R128). -/
def pictureChoice (p : Plan) (pl : PlanLane) (s : State) : Option PictureChoice :=
  let c := (s.lane pl.entry.lane).carousel
  match pl.picture with
  | .own =>
    if pl.halted then none
    else
      match c.airing with
      | none => none
      | some a =>
        some { alert := none, slot := a.slot, version := a.version, base := slotBase s a.slot, offset := a.offset,
               remaining := slotLength s a.slot - a.offset }
  | .alert x =>
    match p.alert? x, c.showing with
    | some a, some sh =>
      match a.picture with
      | some (slot, version) =>
        some { alert := some x, slot := slot, version := version, base := slotBase s slot,
               offset := sh.offset, remaining := slotLength s slot - sh.offset }
      | none => none
    | _, _ => none

/-- The cells needed to finish `b` bytes of an airing (R71). -/
def cellsToFinish (b : Nat) : Nat := 16 * (b / 248) + if b % 248 = 0 then 0 else ceilDiv (b % 248 + 8) 16

/-- The picture want p (R71, R128). -/
def pictureWant (c : Option PictureChoice) : Nat :=
  match c with
  | some c => min Config.pictureWantCap (cellsToFinish c.remaining)
  | none => 0

/-- The CE reaches a lane of the plan's map: the showing, then the start of an airing (R136, R127). -/
def reachCarousel (pl : PlanLane) (s : State) : State :=
  let l := pl.entry.lane
  startAiring pl (s.setCarousel l (syncShowing pl.picture (s.lane l).carousel))

/-! ### Piece filling (R83) -/

/-- Cells of the next piece with `c` cells left and `b` bytes remaining (R83 step 1). -/
def pieceCells (c b : Nat) : Nat := min 16 (min c (ceilDiv (b + 8) 16))

/-- Data bytes of the next piece (R83 step 2). -/
def pieceBytes (c b : Nat) : Nat := min b (16 * pieceCells c b - 8)

/-- The pieces laid in `c` cells of an airing with `b` bytes remaining from offset `off`; the first number bounds the
pieces (R83, R84). -/
def fillPieces (contents : List Host.Cell) (base : Nat) (slot : SlotId) (version : Byte) :
    Nat → Nat → Nat → Nat → List Piece
  | 0, _, _, _ => []
  | n + 1, c, b, off =>
    if c = 0 ∨ b = 0 then []
    else
      { slot := slot, version := version, offset := off, cells := pieceCells c b,
        data := storeRead contents (base + off) (pieceBytes c b), first := decide (off = 0),
        last := decide (pieceBytes c b = b) } ::
        fillPieces contents base slot version n (c - pieceCells c b) (b - pieceBytes c b) (off + pieceBytes c b)

/-- The bytes of a piece (R83, R178). -/
def pieceCellsBytes (p : Piece) : List Byte :=
  padTo (16 * p.cells) <|
    [0x30, BitVec.ofNat 8 p.slot.val, p.version, BitVec.ofNat 8 (flagBits [p.first, p.last])] ++
    beBytes 3 p.offset ++ [BitVec.ofNat 8 p.data.length] ++ p.data

/-! ### At a send (R130, R137) -/

/-- The data bytes of pieces. -/
def pieceData (ps : List Piece) : Nat := (ps.map fun p => p.data.length).sum

/-- Some piece carries LAST. -/
def anyLast (ps : List Piece) : Bool := ps.any Piece.last

/-- The position at the end of the airing in progress, before any jump (R126). -/
def positionAfter (c : Carousel) : Position :=
  match c.position.mark with
  | .on => ⟨.next, if c.position.entry + 1 < c.entries.length then c.position.entry + 1 else 0⟩
  | .next => c.position

/-- The carousel after its airing has ended (R130). -/
def endAiring (c : Carousel) : Carousel :=
  { c with
    airing := none
    position := match c.jump with | some e => ⟨.next, e⟩ | none => positionAfter c
    jump := none }

/-- The commit of own pieces (R65, R130). -/
def commitOwnPieces (l : LaneId) (choice : PictureChoice) (ps : List Piece) (s : State) : State :=
  let c := (s.lane l).carousel
  match c.airing with
  | none => s
  | some a =>
    if a.slot = choice.slot ∧ a.version = choice.version then
      if anyLast ps then retally [a.slot] [] (s.setCarousel l (endAiring c))
      else s.setCarousel l { c with airing := some { a with offset := a.offset + pieceData ps } }
    else s

/-- The commit of alert pieces (R137). -/
def commitAlertPieces (l : LaneId) (id : Byte) (ps : List Piece) (s : State) : State :=
  let c := (s.lane l).carousel
  match c.showing with
  | none => s
  | some sh =>
    if sh.alert = id then
      s.setCarousel l { c with showing := some ⟨id, if anyLast ps then 0 else sh.offset + pieceData ps⟩ }
    else s

/-- One more picture stall (R130). -/
def countStall (l : LaneId) (s : State) : State :=
  let x := s.lane l
  s.setLane l { x with counts := { x.counts with pictureStall := satInc x.counts.pictureStall } }

/-- The pieces of a lane committed (R65). -/
def commitPieces (lc : LaneCarriage) (s : State) : State :=
  if lc.pieces.isEmpty then s
  else
    match lc.picture with
    | none => s
    | some choice =>
      match choice.alert with
      | none => commitOwnPieces lc.lane choice lc.pieces s
      | some id => commitAlertPieces lc.lane id lc.pieces s

/-- The picture commit of a lane at the send of an assembled frame (R65, R130, R137). -/
def commitPicture (s : State) (lc : LaneCarriage) : State :=
  let s1 := commitPieces lc s
  if lc.stalled then countStall lc.lane s1 else s1

end Sys2Proof.Machine
end

