-- ==== Sys2Proof/Machine/Alerts.lean ====
section
/-! DEFINITION. The alert slips and the Alert Controller's part of a send (08_alert_takeover.md). -/

namespace Sys2Proof.Machine

/-- The AC begins the oldest dispatched alert slip, if it is of kind `k` and no raise is in its checks (R144). -/
def alertDispatch (k : Kind) (act : RecId → WorkRecord → State → State) (s : State) : State :=
  match s.alerts.checking with
  | some _ => s
  | none =>
    match s.alerts.queue with
    | r :: rest =>
      match s.work r with
      | some w => if kindOf w.kind = some k then act r w (s.setAlerts { s.alerts with queue := rest }) else s
      | none => s
    | [] => s

/-! ### The fields of a raise (R145, R176) -/

/-- The fields of an ALERT_RAISE (R176). -/
structure Raise where
  id         : Byte
  level      : Nat
  take       : TakeSet
  source     : Nat
  width      : Nat
  slot       : Nat
  textLength : Nat
  targets    : List LaneId
  textAddr   : Addr
  deriving DecidableEq, Repr

/-- The fields of an ALERT_RAISE as its work record holds them (R176). -/
def raiseOf (w : WorkRecord) : Raise :=
  { id := w.argByte 0, level := w.arg 1 1, take := takeSetOf (w.argByte 2), source := w.arg 3 1, width := w.arg 4 1,
    slot := w.arg 5 1, textLength := w.arg 6 2, targets := targetsOf (w.arg 8 4), textAddr := w.argAddr 12 }

/-- A raise has a text read to make: TEXT is taken with a length of 1-128 (R145). -/
def Raise.readsText (q : Raise) : Bool := q.take.text && decide (0 < q.textLength) && decide (q.textLength ≤ 128)

/-- What the text read of a raise comes to: not made, failed, or the text. -/
inductive TextRead where
  | notMade
  | failed
  | got (text : List Byte)
  deriving DecidableEq, Repr

/-- The text read of a raise (R145). -/
def readAlertText (h : HostView) (q : Raise) : TextRead :=
  if q.readsText then
    match hostRead h q.textAddr q.textLength with
    | none => .failed
    | some t => .got t
  else .notMade

/-! ### The checks of a raise (R145, R146) -/

/-- Check 3 of a raise fails (R145). -/
def raiseBadArg (q : Raise) : Bool :=
  decide (q.id = 0) || decide (q.level = 0) || decide (3 < q.level) || q.targets.isEmpty || q.take.fields.isEmpty ||
    (q.take.text && (decide (q.textLength = 0) || decide (128 < q.textLength))) ||
    (q.take.audio && (decide (q.width = 0) || (decide (24 ≤ q.source) && decide (q.source ≠ 255)))) ||
    (q.take.picture && decide (63 < q.slot))

/-- Check 4: the first target that is UNUSED or has no entry in the active map (R145). -/
def raiseLaneFault (s : State) (q : Raise) : Option LaneId :=
  q.targets.find? fun l => decide ((s.lane l).state = .unused) || !aired s l

/-- Check 5 fails: AUDIO is taken with no source lane, an UNUSED one, or one in the target set (R145). -/
def raiseBadSource (s : State) (q : Raise) : Bool :=
  q.take.audio &&
    match laneOf q.source with
    | none => true
    | some l => decide ((s.lane l).state = .unused) || q.targets.contains l

/-- A lane's reserved cells in a map are fewer than `w`. -/
def narrower (m : AirMap) (l : LaneId) (w : Nat) : Bool :=
  match m.entry? l with
  | some e => decide (e.reserved < w)
  | none => false

/-- Check 6 on one target, with the status of the test that fails (R146). -/
def raiseTargetFault (s : State) (q : Raise) (l : LaneId) : Option Nat :=
  match s.maps.upcoming with
  | none => if q.take.audio && narrower s.maps.active l q.width then some statusAlertTooWide else none
  | some p =>
    if (p.map.entry? l).isNone then some statusAlertBound
    else if q.take.audio && narrower s.maps.active l q.width then some statusAlertTooWide
    else if q.take.audio && narrower p.map l q.width then some statusAlertTooWide
    else none

/-- Check 6: the first target that fails, with its status (R146). -/
def raiseMapFault (s : State) (q : Raise) : Option (Nat × LaneId) :=
  q.targets.findSome? fun l => (raiseTargetFault s q l).map fun st => (st, l)

/-- Check 7 fails: PICTURE is taken and the slot is not READY or not alert-flagged (R146). -/
def raiseNotReady (s : State) (q : Raise) : Bool :=
  q.take.picture &&
    match slotOf q.slot with
    | none => true
    | some i => decide ((s.slot i).record.state ≠ .ready) || !(s.slot i).record.alertFlag

/-- Free entries of the restore log (R143). -/
def logFree (s : State) : Nat := Config.logEntries - s.alerts.log.length

/-- The lowest-numbered FREE place (R147). -/
def freePlace? (s : State) : Option PlaceId := (List.finRange 4).find? fun p => (s.alerts.places[p]).isNone

/-- The ten checks of a raise in order: the status and aux of the first that fails (R145, R146). -/
def raiseFault (s : State) (q : Raise) (t : TextRead) : Option (Nat × Word) :=
  if (alertById s q.id).isSome then some (statusDuplicate, 0)
  else if (freePlace? s).isNone then some (statusAlertLimit, 0)
  else if raiseBadArg q then some (statusBadArg, 0)
  else
    match raiseLaneFault s q with
    | some l => some (statusLaneState, BitVec.ofNat 32 l.val)
    | none =>
      if raiseBadSource s q then some (statusBadArg, 0)
      else
        match raiseMapFault s q with
        | some (st, l) => some (st, BitVec.ofNat 32 l.val)
        | none =>
          if raiseNotReady s q then some (statusNotReady, 0)
          else if logFree s < q.targets.length * q.take.fields.length then
            some (statusLogFull, BitVec.ofNat 32 (logFree s))
          else
            match t with
            | .failed => some (statusFetchFault, 0)
            | .notMade => none
            | .got text => if text.contains 0 then some (statusBadArg, 0) else none

/-! ### The application of a raise (R147) -/

/-- The record of a raised alert (R141, R147 step 1). -/
def newAlert (s : State) (r : RecId) (q : Raise) (t : TextRead) : Alert :=
  { id := q.id, level := q.level, state := .raised, take := q.take, targets := q.targets,
    source := if q.take.audio then laneOf q.source else none
    width := if q.take.audio then q.width else 0
    text := match t with | .got text => some text | .notMade => none | .failed => none
    picture := if q.take.picture then (slotOf q.slot).map fun i => (i, (s.slot i).record.version) else none
    onAirFrame := none, raiseRecord := r, endRecord := none }

/-- A place of the alert records set. -/
def setPlace (p : PlaceId) (a : Option Alert) (s : State) : State :=
  s.setAlerts { s.alerts with places := s.alerts.places.set p a }

/-- One field of one target taken: its present value is pushed on the log, the field is written, and an own airing whose
picture_from goes from OWN to the alert is abandoned (R147 step 2, R135). -/
def takeField (id : Byte) (s : State) (lf : LaneId × Field) : State :=
  let l := lf.1
  let f := lf.2
  let present := (s.lane l).sourceOf f
  let s1 := s.setAlerts { s.alerts with log := s.alerts.log ++ [⟨id, l, f, present⟩] }
  let s2 := s1.setLane l ((s1.lane l).setSource f (.alert id))
  if f = .picture ∧ present = .own then abandonAiring l s2 else s2

/-- The fields a raise takes, in order: by target lane, then AUDIO, TEXT, PICTURE (R147). -/
def takenFields (q : Raise) : List (LaneId × Field) :=
  q.targets.flatMap fun l => q.take.fields.map fun f => (l, f)

/-- The alert's picture gains a user, and bank 0 a hold (R147 step 3, R109). -/
def holdPicture (a : Alert) (s : State) : State :=
  match a.picture with
  | none => s
  | some p =>
    let s1 := retally [] [p.1] s
    s1.setStore { s1.store with hold := s1.store.hold + 1 }

/-- A raise that passed its checks applied (R147). -/
def applyRaise (r : RecId) (q : Raise) (t : TextRead) (p : PlaceId) (s : State) : State :=
  let a := newAlert s r q t
  choose (writeAlertMirror p (holdPicture a ((takenFields q).foldl (takeField q.id) (setPlace p (some a) s))))

/-- The checks of a raise made on the state as it stands, its text read having come to `t`, and the raise refused, or
applied with no gap between (R144-R147). -/
def decideRaise (r : RecId) (q : Raise) (t : TextRead) (s : State) : State :=
  match raiseFault s q t with
  | some (status, aux) => finish r status aux s
  | none =>
    match freePlace? s with
    | some p => applyRaise r q t p s
    | none => s

/-! ### ALERT_RAISE and ALERT_RAISE_APPLY (R145) -/

/-- ALERT_RAISE acted on: a raise with a text to read starts its read; another is decided at its dispatch (R145). -/
def actAlertRaise (r : RecId) (w : WorkRecord) (s : State) : State :=
  if (raiseOf w).readsText then s.setAlerts { s.alerts with checking := some r }
  else decideRaise r (raiseOf w) .notMade s

/-- ALERT_RAISE. -/
def execAlertRaise (s : State) : Host.Outcome State Fault Refusal := .next (alertDispatch .alertRaise actAlertRaise s)

/-- The text read of a raise ends, and the raise is decided (R145). -/
def alertRaiseApply (h : HostView) (s : State) : State :=
  match s.alerts.checking with
  | none => s
  | some r =>
    let s1 := s.setAlerts { s.alerts with checking := none }
    match s.work r with
    | none => s1
    | some w => decideRaise r (raiseOf w) (readAlertText h (raiseOf w)) s1

/-- ALERT_RAISE_APPLY. -/
def execAlertRaiseApply (h : HostView) (s : State) : Host.Outcome State Fault Refusal := .next (alertRaiseApply h s)

/-! ### ALERT_END (R153, R154) -/

/-- An entry for the same lane and field. -/
def sameField (e x : LogEntry) : Bool := decide (x.lane = e.lane) && decide (x.field = e.field)

/-- The lowest entry for `e`'s lane and field takes `e`'s previous value; the entries stand lowest first (R154). -/
def passTo (e : LogEntry) : List LogEntry → List LogEntry
  | [] => []
  | x :: xs => if sameField e x then { x with previous := e.previous } :: xs else x :: passTo e xs

/-- One entry of the log met from the top down: an entry of the ending alert is removed by the pass-up rule, another is
kept. `kept` holds the entries met and kept, lowest first (R154). -/
def passUpEntry (id : Byte) (acc : List LogEntry × Vector Lane 24) (e : LogEntry) : List LogEntry × Vector Lane 24 :=
  let kept := acc.1
  let lanes := acc.2
  if e.alert = id then
    if kept.any (sameField e) then (passTo e kept, lanes)
    else (kept, lanes.set e.lane (lanes[e.lane].setSource e.field e.previous))
  else (e :: kept, lanes)

/-- The log and the lanes after every entry of an ending alert is removed, from the top downward (R154). -/
def passUp (id : Byte) (log : List LogEntry) (lanes : Vector Lane 24) : List LogEntry × Vector Lane 24 :=
  log.reverse.foldl (passUpEntry id) ([], lanes)

/-- The place that holds the alert with an id. -/
def placeOf (s : State) (id : Byte) : Option PlaceId :=
  (List.finRange 4).find? fun p => match s.alerts.places[p] with | some a => decide (a.id = id) | none => false

/-- An accepted ALERT_END (R153). -/
def endAlert (r : RecId) (p : PlaceId) (a : Alert) (s : State) : State :=
  let out := passUp a.id s.alerts.log s.lanes
  writeAlertMirror p
    ((s.setLanes out.2).setAlerts
      { s.alerts with log := out.1, places := s.alerts.places.set p (some { a with state := .ending, endRecord := some r }) })

/-- ALERT_END acted on (R153). -/
def actAlertEnd (r : RecId) (w : WorkRecord) (s : State) : State :=
  match placeOf s (w.argByte 0) with
  | none => finish r statusNotFound 0 s
  | some p =>
    match s.alerts.places[p] with
    | none => finish r statusNotFound 0 s
    | some a => if a.state = .onAir then endAlert r p a s else finish r statusBusy 0 s

/-- ALERT_END. -/
def execAlertEnd (s : State) : Host.Outcome State Fault Refusal := .next (alertDispatch .alertEnd actAlertEnd s)

/-! ### At the send of an assembled frame (R66, R149, R156) -/

/-- An alert is in a plan's alert set. -/
def Plan.holds (p : Plan) (a : Alert) : Bool := (p.alert? a.id).isSome

/-- The picture's user and the bank hold of a freed alert released (R156 step 1). -/
def releasePicture (a : Alert) (s : State) : State :=
  match a.picture with
  | none => s
  | some pic =>
    let s1 := retally [pic.1] [] s
    s1.setStore { s1.store with hold := s1.store.hold - 1 }

/-- What the send of a frame with plan `p` and counter `counter` does to the alert of a place: a RAISED alert of the plan
comes on air, an ENDING one outside it is freed (R149, R156). -/
def commitPlace (p : Plan) (counter : Word) (s : State) (i : PlaceId) : State :=
  match s.alerts.places[i] with
  | none => s
  | some a =>
    match a.state with
    | .raised =>
      if p.holds a then
        writeAlertMirror i (setPlace i (some { a with state := .onAir, onAirFrame := some counter }) s)
      else s
    | .onAir => s
    | .ending => if p.holds a then s else writeAlertMirror i (setPlace i none (releasePicture a s))

/-- The slips of the alerts that the send completes: raises that come on air and ends whose alert is freed (R66). -/
def alertCompletions (p : Plan) (s : State) : List RecId :=
  (activeAlerts s).filterMap fun a =>
    match a.state with
    | .raised => if p.holds a then some a.raiseRecord else none
    | .onAir => none
    | .ending => if p.holds a then none else a.endRecord

/-- The alerts' part of a send (R66). -/
def commitAlerts (p : Plan) (counter : Word) (s : State) : State :=
  (List.finRange 4).foldl (commitPlace p counter) s

end Sys2Proof.Machine
end

