-- ==== Sys2Proof/Machine/Feed.lean ====
section
/-! DEFINITION. Feed pages: taking a page, reading a unit, returning a page, and what one fetch yields (02_feed_pages.md). -/

namespace Sys2Proof.Machine

/-- The feed state of a lane replaced. -/
def State.setFeed (s : State) (l : LaneId) (f : Feed) : State := s.setLane l { s.lane l with feed := f }

/-- The event counts of a lane replaced. -/
def State.setCounts (s : State) (l : LaneId) (c : Counts) : State := s.setLane l { s.lane l with counts := c }

/-- The fetch of a lane that an abandoned assembly had begun is no longer under way (R38). -/
def dropStraggler (l : LaneId) (s : State) : State :=
  s.setFrames { s.frames with stragglers := s.frames.stragglers.filter fun g => g.lane ≠ l }

/-- The other page letter. -/
def otherLetter : Letter → Letter
  | .a => .b
  | .b => .a

/-- The host address of a lane's page. -/
def pageAddr (x : Lane) : Letter → Addr
  | .a => x.pageA
  | .b => x.pageB

/-- The cause of a page's return, with the mark written (R28). -/
inductive Return where
  | usedUp | truncated | fault | retired
  deriving DecidableEq, Repr

/-- The return marks byte of a cause (R28, R176). -/
def returnMark : Return → Nat
  | .usedUp => 0
  | .truncated => 1
  | .fault => 2
  | .retired => 4

/-- The expected letter after the return of page `held` (R28). -/
def expectedAfter (c : Return) (held : Letter) : Letter :=
  match c with
  | .retired => .a
  | .usedUp => otherLetter held
  | .truncated => otherLetter held
  | .fault => otherLetter held

/-- The feed state after a return: no page held, byte count, cursor and units taken 0, the sequence kept (R24, R28). -/
def feedReturned (c : Return) (held : Letter) (f : Feed) : Feed :=
  { f with held := none, expected := expectedAfter c held, byteCount := 0, cursor := 0, taken := 0, notify := false }

/-- The two writes of a return: units read and marks, then hand OPEN (R28, R176). -/
def postReturn (l : LaneId) (held : Letter) (taken : Nat) (c : Return) (s : State) : State :=
  let a := tabAddr s.regs.anchor l held
  (s.post (.write [⟨addrAt a 2, leBytes 1 (returnMark c)⟩, ⟨addrAt a 12, leBytes 4 taken⟩])).postRecord a (leBytes 1 0)

/-- The page a lane holds is returned: the two writes, then the lane holds no page, then FEED if the tab had NOTIFY set
when the page was taken (R28). A lane that holds none is left as it is. -/
def returnPage (l : LaneId) (c : Return) (s : State) : State :=
  let f := (s.lane l).feed
  match f.held with
  | none => s
  | some held =>
    let s1 := (postReturn l held f.taken c s).setFeed l (feedReturned c held f)
    if f.notify then raiseNotice .feed s1 else s1

/-- One more fetch fault (R33). -/
def countFetchFault (l : LaneId) (s : State) : State :=
  s.setCounts l { (s.lane l).counts with fetchFault := satInc (s.lane l).counts.fetchFault }

/-- One more oversize unit (R37). -/
def countOversize (l : LaneId) (s : State) : State :=
  s.setCounts l { (s.lane l).counts with oversize := satInc (s.lane l).counts.oversize }

/-- One more displaced unit (R36). -/
def countDisplaced (l : LaneId) (s : State) : State :=
  s.setCounts l { (s.lane l).counts with displaced := satInc (s.lane l).counts.displaced }

/-- One more late drop (R38). -/
def countLateDrop (l : LaneId) (s : State) : State :=
  s.setCounts l { (s.lane l).counts with lateDrop := satInc (s.lane l).counts.lateDrop }

/-- The feed state after a page is taken: `tab` is the tab as read (R25, R26, R176). -/
def feedTaken (x : Lane) (tab : List Byte) : Feed :=
  { held := some x.feed.expected
    expected := x.feed.expected
    byteCount := min (leNat (slice tab 4 4)) x.pageSize
    cursor := 0
    taken := 0
    sequence := BitVec.ofNat 16 (leNat (slice tab 8 2))
    notify := (tab.getD 1 0).getLsbD 0 }

/-- The cursor and the units taken move past a unit of length `len`, and a page that is used up is returned (R29 steps 3
and 4, R32). -/
def advance (l : LaneId) (len : Nat) (s : State) : State :=
  let f := (s.lane l).feed
  let s1 := s.setFeed l { f with cursor := f.cursor + 2 + len, taken := f.taken + 1 }
  if f.cursor + 2 + len = f.byteCount then returnPage l .usedUp s1 else s1

/-- A read of the held page failed: counted, and the page returned with FAULT (R33). -/
def pageFault (l : LaneId) (s : State) : State × FetchOutcome :=
  (returnPage l .fault (countFetchFault l s), .nothing .fetchFault)

/-- Cells of a unit of length `len` (R29). -/
def unitCells (len : Nat) : Nat := ceilDiv (2 + len) 16

/-- A unit of length `len` above 0 offered to its candidate regions, given by the most cells each takes: displaced with
none, oversize when one refuses it, read when one takes it (R35-R37). -/
def offerUnit (l : LaneId) (limits : List Nat) (data : Addr) (len : Nat) (h : HostView) (s : State) : State × FetchOutcome :=
  if limits.isEmpty then (advance l len (countDisplaced l s), .unit len [] false)
  else
    let s1 := if limits.any (fun m => decide (m < unitCells len)) then countOversize l s else s
    if limits.any (fun m => decide (unitCells len ≤ m)) then
      match hostRead h data len with
      | none => pageFault l s1
      | some bytes => (advance l len s1, .unit len bytes true)
    else (advance l len s1, .unit len [] false)

/-- A unit read from the held page `held` (R29-R33). -/
def readUnit (l : LaneId) (held : Letter) (limits : List Nat) (h : HostView) (s : State) : State × FetchOutcome :=
  let x := s.lane l
  let f := x.feed
  let base := pageAddr x held
  if f.byteCount < f.cursor + 2 then (returnPage l .truncated s, .nothing .malformed)
  else
    match hostRead h (addrAt base f.cursor) 2 with
    | none => pageFault l s
    | some lenBytes =>
      let len := leNat lenBytes
      if f.byteCount < f.cursor + 2 + len then (returnPage l .truncated s, .nothing .malformed)
      else if len = 0 then (advance l 0 s, .nothing .silence)
      else offerUnit l limits (addrAt base (f.cursor + 2)) len h s

/-- A lane that holds no page reads the tab of its expected letter (R25, R26, R33), with the anchor that stands when the read
ends (assumption 40). -/
def takePage (l : LaneId) (limits : List Nat) (h : HostView) (s : State) : State × FetchOutcome :=
  let x := s.lane l
  match hostRead h (tabAddr s.regs.anchor l x.feed.expected) 16 with
  | none => (countFetchFault l s, .nothing .fetchFault)
  | some tab =>
    if tab.getD 0 0 = 1 then
      let s1 := s.setFeed l (feedTaken x tab)
      if (feedTaken x tab).byteCount = 0 then (returnPage l .usedUp s1, .nothing .underrun)
      else readUnit l x.feed.expected limits h s1
    else (s, .nothing .underrun)

/-- One fetch for a lane: a page is taken if none is held, and a unit is read (R25, R29). -/
def fetchUnit (l : LaneId) (limits : List Nat) (h : HostView) (s : State) : State × FetchOutcome :=
  match (s.lane l).feed.held with
  | some held => readUnit l held limits h s
  | none => takePage l limits h s

end Sys2Proof.Machine
end

