-- ==== Sys2Proof/Machine/Pool.lean ====
section
/-! DEFINITION. Pool sharing: the four stages of the Pool Scheduler as a computation on the lanes of a plan
(04_pool_sharing.md). -/

namespace Sys2Proof.Machine

/-- A lane in pool sharing: its inputs (R71, R72) and, as the stages run, its grant, credit and saturation mark. -/
structure PoolLane where
  lane      : LaneId
  urgent    : Bool
  demand    : Nat
  share     : Nat
  burst     : Nat
  credit    : Nat
  grant     : Nat
  saturated : Bool
  deriving DecidableEq, Repr

/-- The rotating order: from the lowest lane at or above the cursor, wrapping (R73). -/
def rotating (cursor : LaneId) (ls : List PoolLane) : List PoolLane :=
  (ls.filter fun x => decide (cursor ≤ x.lane)) ++ ls.filter fun x => decide (x.lane < cursor)

/-- The urgent stage (R74): the lanes with their grants, and what is left of the pool. -/
def urgentStage : List PoolLane → Nat → List PoolLane × Nat
  | [], q => ([], q)
  | x :: xs, q =>
    let g := if x.urgent then min x.demand q else 0
    let rest := urgentStage xs (q - g)
    ({ x with grant := g } :: rest.1, rest.2)

/-- The accrual of one lane in a pool of `p` cells (R75). -/
def accrue (p : Nat) (x : PoolLane) : PoolLane :=
  if x.urgent then x
  else if x.demand = 0 then { x with credit := 0 }
  else
    { x with credit := min (x.credit + x.share * p) (x.burst * 1024)
             saturated := decide (x.burst * 1024 < x.credit + x.share * p) }

/-- What the grant stage gives one lane with `q` cells left (R76). -/
def grantOf (x : PoolLane) (q : Nat) : Nat :=
  if x.urgent then 0 else min x.demand (min (x.credit / 1024) q)

/-- The grant stage (R76). -/
def grantStage : List PoolLane → Nat → List PoolLane × Nat
  | [], q => ([], q)
  | x :: xs, q =>
    let g := grantOf x q
    let rest := grantStage xs (q - g)
    ({ x with grant := x.grant + g, credit := x.credit - 1024 * g } :: rest.1, rest.2)

/-- One pass of the spill stage (R77). -/
def spillPass : List PoolLane → Nat → List PoolLane × Nat
  | [], q => ([], q)
  | x :: xs, q =>
    if x.grant < x.demand ∧ 0 < q then
      let rest := spillPass xs (q - 1)
      ({ x with grant := x.grant + 1 } :: rest.1, rest.2)
    else
      let rest := spillPass xs q
      (x :: rest.1, rest.2)

/-- The spill stage as `n` passes. A demand is at most 49, so that 49 passes leave no unmet demand while cells are left;
a pass in which no lane gains a cell changes nothing (R72, R77). -/
def spillStage : Nat → List PoolLane → Nat → List PoolLane × Nat
  | 0, ls, q => (ls, q)
  | n + 1, ls, q => spillStage n (spillPass ls q).1 (spillPass ls q).2

/-- All four stages on the lanes in rotating order, in a pool of `p` cells: the lanes with grants, credits and marks, and
the pool padding (R73-R78). -/
def sharePool (p : Nat) (ls : List PoolLane) : List PoolLane × Nat :=
  let urgent := urgentStage ls p
  let granted := grantStage (urgent.1.map (accrue p)) urgent.2
  spillStage 49 granted.1 granted.2

/-- The pool cursor after the send of a frame whose map has the lanes given, ascending (R79). -/
def nextCursor (cursor : LaneId) (ls : List LaneId) : LaneId :=
  match ls.find? fun l => decide (cursor < l) with
  | some l => l
  | none =>
    match ls with
    | l :: _ => l
    | [] => cursor

end Sys2Proof.Machine
end

