-- ==== Sys2Proof/Machine/Frame.lean ====
section
/-! DEFINITION. The bytes of a frame: header, directories, regions and pool, and the void frame
(03_frame_assembly_and_the_air_link.md, 10_formats.md). -/

namespace Sys2Proof.Machine

/-- Audio cells of a region (R51). -/
def AudioOutcome.cells : AudioOutcome → Nat
  | .unit _ data => unitCells data.length
  | .filler _ => 1
  | .noAudio => 0

/-- Bytes of a region's audio cells (R51, R178). -/
def AudioOutcome.bytes : AudioOutcome → List Byte
  | .unit _ data => padTo (16 * unitCells data.length) (beBytes 2 data.length ++ data)
  | .filler _ => List.replicate 16 0
  | .noAudio => []

/-- Spare cells of a region (R51). -/
def spareCells (e : MapEntry) (a : AudioOutcome) : Nat := e.reserved - a.cells

/-- The items of a lane laid in its side cells, in order: the fragment, then the pieces (R53). -/
def itemBytes (lc : LaneCarriage) : List Byte :=
  (match lc.fragment with | some f => f.bytes | none => []) ++ lc.pieces.flatMap pieceCellsBytes

/-- The bytes of a lane's side cells: its items, then padding (R53, R85). -/
def sideBytes (e : MapEntry) (lc : LaneCarriage) : List Byte :=
  padTo (16 * (spareCells e lc.audio + lc.grant)) (itemBytes lc)

/-- The bytes of a lane's region: audio cells, then its spare cells (R51, R53). -/
def regionBytes (e : MapEntry) (lc : LaneCarriage) : List Byte :=
  lc.audio.bytes ++ (sideBytes e lc).take (16 * spareCells e lc.audio)

/-- The bytes of a lane's granted pool cells (R53, R54). -/
def grantedBytes (e : MapEntry) (lc : LaneCarriage) : List Byte := (sideBytes e lc).drop (16 * spareCells e lc.audio)

/-- The carriage of a lane. -/
def Carriage.lane? (c : Carriage) (l : LaneId) : Option LaneCarriage := c.lanes.find? fun x => x.lane = l

/-- The map entry of a lane in a plan. -/
def Plan.entry? (p : Plan) (l : LaneId) : Option MapEntry :=
  match p.lanes.find? fun pl => pl.entry.lane = l with
  | some pl => some pl.entry
  | none => none

/-- Bytes 0-13 of cell 0 (R55, R178). -/
def headerStart (counter : Word) (generation next : Byte) (announce level : Nat) (isVoid : Bool) (poolStart : Nat) :
    List Byte :=
  [0x4B, 0x58, 0xA6] ++ beBytes 4 counter.toNat ++ [generation, next] ++ beBytes 1 announce ++ beBytes 1 level ++
    [BitVec.ofNat 8 (flagBits [isVoid])] ++ beBytes 2 poolStart

/-- Cells 0-8: the header with its CRC-16, and the directories (R57, R178, R179). -/
def headerRegion (start directories : List Byte) : List Byte :=
  start ++ beBytes 2 (crc16 (start ++ directories)).toNat ++ directories

/-- The lane directory entry of a lane (R56). -/
def laneDirectoryEntry (p : Plan) (c : Carriage) (l : LaneId) : List Byte :=
  match p.entry? l, c.lane? l with
  | some e, some lc => beBytes 2 e.start ++ beBytes 1 e.reserved ++ beBytes 1 lc.audio.cells
  | _, _ => List.replicate 4 0

/-- The pool grant byte of a lane (R56). -/
def grantByte (c : Carriage) (l : LaneId) : Byte :=
  match c.lane? l with
  | some lc => BitVec.ofNat 8 lc.grant
  | none => 0

/-- The alert directory entry of an alert: id, then level in bits 1-0 and take set in bits 4-2 (R56, R178). -/
def alertDirectoryEntry (a : Alert) : List Byte := [a.id, BitVec.ofNat 8 (a.level + 4 * a.take.code)]

/-- Cells 1-8 of an assembled frame (R56, R178). -/
def directoryBytes (p : Plan) (c : Carriage) : List Byte :=
  (List.finRange 24).flatMap (laneDirectoryEntry p c) ++ (List.finRange 24).map (grantByte c) ++
    padTo 8 (p.alerts.flatMap alertDirectoryEntry)

/-- The highest level among alerts; 0 if there is none (R55, R61). -/
def topLevel (as : List Alert) : Nat := (as.map Alert.level).foldl max 0

/-- The bytes of each lane of a plan, taken with its carriage. -/
def overLanes (f : MapEntry → LaneCarriage → List Byte) (p : Plan) (c : Carriage) : List Byte :=
  p.lanes.flatMap fun pl =>
    match c.lane? pl.entry.lane with
    | some lc => f pl.entry lc
    | none => []

/-- The assembled frame (R51-R57). -/
def assembledFrame (p : Plan) (c : Carriage) : List Byte :=
  padTo Config.frameBytes <|
    headerRegion (headerStart p.counter p.generation p.next p.announce (topLevel p.alerts) false p.poolStart)
      (directoryBytes p c) ++
    overLanes regionBytes p c ++ overLanes grantedBytes p c

/-- The announce fields of a frame formed now: next generation and count (R18). -/
def announceNow (s : State) : Byte × Nat :=
  match s.maps.upcoming with
  | some p => (s.maps.generation + 1, p.announce)
  | none => (s.maps.generation, 0)

/-- A void frame formed at the pull (R61). -/
def voidFrame (s : State) : List Byte :=
  padTo Config.frameBytes <|
    headerRegion
      (headerStart s.frames.counter s.maps.generation (announceNow s).1 (announceNow s).2
        (topLevel ((activeAlerts s).filter fun a => a.state = .onAir)) true 0)
      (List.replicate 128 0)

end Sys2Proof.Machine
end

