-- ==== Sys2Proof/Machine/Lanes.lean ====
section
/-! DEFINITION. The lane slips and the map slips (01_lanes_and_the_air_map.md). -/

namespace Sys2Proof.Machine

/-- The LMC acts on the oldest dispatched lane slip, if it is of kind `k` (R4, R164). -/
def laneDispatch (k : Kind) (act : RecId → WorkRecord → LaneId → State → State) (s : State) : State :=
  match s.maps.laneSlips with
  | r :: rest =>
    match s.work r with
    | some w =>
      match w.lane with
      | some l => if kindOf w.kind = some k then act r w l (s.setMaps { s.maps with laneSlips := rest }) else s
      | none => s
    | none => s
  | [] => s

/-- A lane has an entry in the active map or in the pending map (R5, R8). -/
def mapped (s : State) (l : LaneId) : Bool := aired s l || inUpcoming s l

/-! ### LANE_SETUP (R5-R7) -/

/-- The text pace that takes effect: 0 is taken as 1 and a pace above 16 as 16 (R5). -/
def clampPace (n : Nat) : Nat := if n = 0 then 1 else min n 16

/-- A page size LANE_SETUP takes (R5). -/
def pageSizeOk (n : Nat) : Bool := decide (n % 4096 = 0) && decide (4096 ≤ n) && decide (n ≤ 65536)

/-- Pages and pace of a LANE_SETUP stored in a lane record. -/
def withPages (w : WorkRecord) (x : Lane) : Lane :=
  { x with pageA := w.argAddr 8, pageB := w.argAddr 16, pageSize := w.arg 4 4, pace := clampPace (w.arg 1 1) }

/-- The record of an UNUSED lane set up (R6). The source fields, OWN in a lane in neither map, are neither read nor written
(01 1.1 after R3; assumption 24). -/
def setUpLane (w : WorkRecord) (x : Lane) : Lane :=
  withPages w
    { x with state := .ready, credit := 0, saturation := 0, feed := .fresh, text := .fresh, carousel := .fresh,
             counts := .zero }

/-- A READY or HALTED lane reconfigured: its page returned RETIRED, expected letter A, new pages and pace (R7). -/
def reconfigure (w : WorkRecord) (l : LaneId) (s : State) : State :=
  let s1 := returnPage l .retired s
  let x := s1.lane l
  s1.setLane l (withPages w { x with feed := { x.feed with expected := .a } })

/-- LANE_SETUP acted on (R5). -/
def actLaneSetup (r : RecId) (w : WorkRecord) (l : LaneId) (s : State) : State :=
  let x := s.lane l
  let aux := BitVec.ofNat 32 (clampPace (w.arg 1 1))
  if x.state ≠ .unused ∧ mapped s l then finishUnstated r statusLaneState s
  else if !pageSizeOk (w.arg 4 4) then finishUnstated r statusBadArg s
  else if x.state = .unused then
    finish r statusOk aux (writeLaneMirror l s.frames.counter (s.setLane l (setUpLane w x)))
  else finish r statusOk aux (reconfigure w l s)

/-- LANE_SETUP. -/
def execLaneSetup (s : State) : Host.Outcome State Fault Refusal := .next (laneDispatch .laneSetup actLaneSetup s)

/-! ### LANE_RETIRE (R8, R9) -/

/-- A lane is the source lane of an active alert (R8). -/
def alertSource (s : State) (l : LaneId) : Bool := (activeAlerts s).any fun a => decide (a.source = some l)

/-- The slots a lane's carousel references: its entries and its airing in progress (R9, R108). -/
def carouselUses (c : Carousel) : List SlotId :=
  c.entries ++ match c.airing with | some a => [a.slot] | none => []

/-- The record of a retired lane: the event counts stay, and the source fields are not touched (R9, R101, R138; assumption 24). -/
def retiredLane (x : Lane) : Lane :=
  { x with state := .unused, pageA := 0, pageB := 0, pageSize := 0, pace := 0, credit := 0, saturation := 0,
           feed := { x.feed with expected := .a }, text := .fresh, carousel := .fresh }

/-- An accepted LANE_RETIRE, in the order of R9. A fetch of the lane that had begun in an abandoned assembly is given up,
since a retired lane is not fetched (R39). -/
def retireLane (l : LaneId) (s : State) : State :=
  let s1 := dropStraggler l (returnPage l .retired s)
  let x := s1.lane l
  let s2 := retally (carouselUses x.carousel) [] (s1.setLane l (retiredLane x))
  writeLaneMirror l s2.frames.counter s2

/-- LANE_RETIRE acted on (R8). -/
def actLaneRetire (r : RecId) (_ : WorkRecord) (l : LaneId) (s : State) : State :=
  if (s.lane l).state = .unused then finishUnstated r statusLaneState s
  else if mapped s l then finishUnstated r statusLaneState s
  else if alertSource s l then finishUnstated r statusAlertBound s
  else choose (finishUnstated r statusOk (retireLane l s))

/-- LANE_RETIRE. -/
def execLaneRetire (s : State) : Host.Outcome State Fault Refusal := .next (laneDispatch .laneRetire actLaneRetire s)

/-! ### LANE_HALT and LANE_RESUME (R10, R11) -/

/-- LANE_HALT acted on (R10). -/
def actLaneHalt (r : RecId) (_ : WorkRecord) (l : LaneId) (s : State) : State :=
  if (s.lane l).state = .ready then
    finishUnstated r statusOk
      (writeLaneMirror l s.frames.counter (s.setLane l { s.lane l with state := .halted, credit := 0 }))
  else finishUnstated r statusLaneState s

/-- LANE_HALT. -/
def execLaneHalt (s : State) : Host.Outcome State Fault Refusal := .next (laneDispatch .laneHalt actLaneHalt s)

/-- LANE_RESUME acted on (R11). -/
def actLaneResume (r : RecId) (_ : WorkRecord) (l : LaneId) (s : State) : State :=
  if (s.lane l).state = .halted then
    finishUnstated r statusOk
      (writeLaneMirror l s.frames.counter (s.setLane l { s.lane l with state := .ready }))
  else finishUnstated r statusLaneState s

/-- LANE_RESUME. -/
def execLaneResume (s : State) : Host.Outcome State Fault Refusal := .next (laneDispatch .laneResume actLaneResume s)

/-! ### MAP_LOAD (R14) -/

/-- The LMC begins the oldest waiting MAP_LOAD, once none is in its checks: refused with a map pending, else its table
read starts (R14). DESIGN CHOICE: with an entry count of 0, which reads nothing, checks 3 to 5 still wait for the
MAP_TABLE_READ that follows (assumption 37). -/
def mapLoad (s : State) : State :=
  match s.maps.checking with
  | some _ => s
  | none =>
    match s.maps.mapLoads with
    | r :: rest =>
      let s1 := s.setMaps { s.maps with mapLoads := rest }
      match s.maps.upcoming with
      | some _ => finishUnstated r statusMapPending s1
      | none => s.setMaps { s.maps with mapLoads := rest, checking := some r }
    | [] => s

/-- MAP_LOAD. -/
def execMapLoad (s : State) : Host.Outcome State Fault Refusal := .next (mapLoad s)

/-! ### MAP_TABLE_READ (R15-R17) -/

/-- An entry of a map table as read, its lane unchecked (R176). -/
structure RawEntry where
  lane     : Nat
  reserved : Nat
  share    : Nat
  burst    : Nat
  deriving DecidableEq, Repr

/-- The entry at 8-byte step `i` of a table (R176). -/
def rawEntry (table : List Byte) (i : Nat) : RawEntry :=
  { lane := leNat (slice table (8 * i) 1), reserved := leNat (slice table (8 * i + 1) 1),
    share := leNat (slice table (8 * i + 2) 2), burst := leNat (slice table (8 * i + 4) 1) }

/-- Shares and bursts clamped (R15 check 4). -/
def clampEntry (e : RawEntry) : RawEntry := { e with share := min e.share 1023, burst := max e.burst 1 }

/-- Check 3: at most 24 entries, lanes 0-23, none twice, none UNUSED (R15). -/
def entriesOk (s : State) (count : Nat) (es : List RawEntry) : Bool :=
  decide (count ≤ 24) && decide ((es.map RawEntry.lane).Nodup) &&
    es.all fun e => match laneOf e.lane with | some l => decide ((s.lane l).state ≠ .unused) | none => false

/-- Check 4, on the clamped entries: reserved cells at most 1191, shares at most 1024 (R15). -/
def sumsOk (es : List RawEntry) : Bool :=
  decide ((es.map RawEntry.reserved).sum ≤ 1191) && decide ((es.map RawEntry.share).sum ≤ 1024)

/-- Map entries in ascending lane order, with start cells from cell `at_` (R17). -/
def placeEntries (es : List RawEntry) : Nat → List LaneId → List MapEntry
  | _, [] => []
  | at_, l :: ls =>
    match es.find? fun e => e.lane = l.val with
    | none => placeEntries es at_ ls
    | some e =>
      { lane := l, reserved := e.reserved, share := e.share, burst := e.burst,
        start := if e.reserved = 0 then 0 else at_ } :: placeEntries es (at_ + e.reserved) ls

/-- The map that a checked table forms (R17). -/
def formMap (es : List RawEntry) : AirMap :=
  let sum := (es.map RawEntry.reserved).sum
  { entries := placeEntries es 9 (List.finRange 24), poolStart := 9 + sum, poolSize := 1191 - sum }

/-- Check 5 on one target of one alert (R16). -/
def targetFault (m : AirMap) (a : Alert) (t : LaneId) : Option Nat :=
  match m.entry? t with
  | none => some statusAlertBound
  | some e => if a.take.audio && decide (e.reserved < a.width) then some statusAlertTooWide else none

/-- The active alerts in ascending order of id. -/
def alertsById (s : State) : List Alert :=
  (List.range 256).flatMap fun n => (activeAlerts s).filter fun a => a.id.toNat = n

/-- Check 5: the active alerts by id, the targets of each by lane; the first test that fails decides (R16). -/
def alertsFault (s : State) (m : AirMap) : Option Nat :=
  (alertsById s).findSome? fun a => a.targets.findSome? (targetFault m a)

/-- The checks of a table that was read (R15, R16): the status of the first that fails. -/
def tableFault (s : State) (count : Nat) (es : List RawEntry) : Option Nat :=
  if !entriesOk s count es then some statusMapInvalid
  else if !sumsOk (es.map clampEntry) then some statusMapInvalid
  else alertsFault s (formMap (es.map clampEntry))

/-- The map table read ends (R14-R17). -/
def mapTableRead (h : HostView) (s : State) : State :=
  match s.maps.checking with
  | none => s
  | some r =>
    let s1 := s.setMaps { s.maps with checking := none }
    match s.work r with
    | none => s1
    | some w =>
      let count := w.arg 0 1
      match hostRead h (w.argAddr 8) (8 * min count 24) with
      | none => finishUnstated r statusFetchFault s1
      | some table =>
        let es := (List.range (min count 24)).map (rawEntry table)
        match tableFault s count es with
        | some status => finishUnstated r status s1
        | none =>
          s.setMaps { s.maps with checking := none,
                                  upcoming := some ⟨formMap (es.map clampEntry), Config.announceStart, r⟩ }

/-- MAP_TABLE_READ. -/
def execMapTableRead (h : HostView) (s : State) : Host.Outcome State Fault Refusal := .next (mapTableRead h s)

/-! ### The switch-over (R19, R20) -/

/-- A lane's credit at the switch-over (R20). -/
def switchCredit (old new : Option MapEntry) (credit : Nat) : Nat :=
  match old, new with
  | some _, some e => min credit (e.burst * 1024)
  | none, some _ => 0
  | some _, none => 0
  | none, none => credit

/-- The lane records brought into line with the new active map (R20). -/
def switchLanes (old new : AirMap) (lanes : Vector Lane 24) : Vector Lane 24 :=
  Vector.ofFn fun l : LaneId =>
    { lanes[l] with credit := switchCredit (old.entry? l) (new.entry? l) lanes[l].credit }

/-- The switch-over, made when the announce count is 0 (R19). -/
def switchOver (s : State) : State :=
  match s.maps.upcoming with
  | some p =>
    if p.announce = 0 then
      (s.setLanes (switchLanes s.maps.active p.map s.lanes)).setMaps
        { s.maps with active := p.map, generation := s.maps.generation + 1, upcoming := none,
                      switched := some p.record }
    else s
  | none => s

end Sys2Proof.Machine
end

