-- ==== Sys2Proof/Machine/Assembly.lean ====
section
/-! DEFINITION. An assembly from its beginning to its end: the plan, the fetch stage, wants and grants, side items, the
finished frame, and what an abandonment leaves (03_frame_assembly_and_the_air_link.md, 02, 04). -/

namespace Sys2Proof.Machine

/-- The assembler replaced. -/
def setAssembler (a : Assembler) (s : State) : State := s.setFrames { s.frames with assembler := a }

/-! ### The plan (R48) -/

/-- A lane of the plan as captured. -/
def planLane (s : State) (e : MapEntry) : PlanLane :=
  let x := s.lane e.lane
  { entry := e, halted := decide (x.state = .halted), audio := x.audioFrom, text := x.textFrom, picture := x.pictureFrom }

/-- The frame plan captured from the state as it stands; its alerts stand in ascending order of id (R48, R56). -/
def capturePlan (s : State) : Plan :=
  { counter := s.frames.counter
    generation := s.maps.generation
    next := (announceNow s).1
    announce := (announceNow s).2
    poolStart := s.maps.active.poolStart
    poolSize := s.maps.active.poolSize
    lanes := s.maps.active.entries.map (planLane s)
    alerts := (alertsById s).filter fun a => a.state ≠ .ending }

/-- A lane of the plan's map. -/
def Plan.lane? (p : Plan) (l : LaneId) : Option PlanLane := p.lanes.find? fun pl => pl.entry.lane = l

/-- A lane is the source of an alert of the plan that takes AUDIO (R34). -/
def Plan.isSource (p : Plan) (l : LaneId) : Bool := p.alerts.any fun a => a.take.audio && decide (a.source = some l)

/-- A lane the FF is asked for (R34). A source lane that is not aired is asked for, and judged when its fetch begins. -/
def inFetchSet (p : Plan) (l : LaneId) : Bool :=
  match p.lane? l with
  | some pl => !pl.halted && (decide (0 < pl.entry.reserved) || p.isSource l)
  | none => p.isSource l

/-- The fetch set of a plan (R34). -/
def fetchSet (p : Plan) : List LaneId := (List.finRange 24).filter (inFetchSet p)

/-- The most cells each candidate region takes of a unit from lane `l` (R35). -/
def candidateLimits (p : Plan) (l : LaneId) : List Nat :=
  p.lanes.filterMap fun pl =>
    match pl.audio with
    | .own =>
      if pl.entry.lane = l ∧ pl.halted = false ∧ 0 < pl.entry.reserved then some pl.entry.reserved else none
    | .alert id =>
      match p.alert? id with
      | some a => if a.take.audio && decide (a.source = some l) then some a.width else none
      | none => none

/-! ### Audio outcomes (R50, R150) -/

/-- What the fetch of a lane yielded, if it was fetched. -/
def Carriage.fetchOf (c : Carriage) (l : LaneId) : Option FetchOutcome :=
  match c.fetched.find? fun f => f.lane = l with
  | some f => some f.outcome
  | none => none

/-- A region that takes units of at most `limit` cells from lane `l`'s fetch. -/
def regionOutcome (c : Carriage) (l : LaneId) (limit : Nat) (tooBig : Filler) (noUnit : FetchOutcome → Filler) :
    AudioOutcome :=
  match c.fetchOf l with
  | none => .filler .noSource
  | some (.nothing cause) => .filler (noUnit (.nothing cause))
  | some (.unit len data _) => if unitCells len ≤ limit then .unit l data else .filler tooBig

/-- The cause of filler in a lane's own region when its fetch yielded no unit. -/
def ownCause : FetchOutcome → Filler
  | .nothing cause => cause
  | .unit _ _ _ => .noSource

/-- The audio outcome of a lane's region (R12, R50, R150). -/
def audioOutcome (p : Plan) (c : Carriage) (pl : PlanLane) : AudioOutcome :=
  if pl.entry.reserved = 0 then .noAudio
  else
    match pl.audio with
    | .own =>
      if pl.halted then .filler .halted
      else regionOutcome c pl.entry.lane pl.entry.reserved .oversize ownCause
    | .alert id =>
      match p.alert? id with
      | none => .filler .noSource
      | some a =>
        match a.source with
        | none => .filler .noSource
        | some l => regionOutcome c l a.width .tooWide fun _ => .noSource

/-! ### Wants, sharing and side items (R52, R53, R71-R82) -/

/-- The TE and CE reach a lane of the plan's map (R93, R136, R127). -/
def reachLane (s : State) (pl : PlanLane) : State :=
  let l := pl.entry.lane
  reachCarousel pl (s.setTextState l (changeTextSource pl.text (s.lane l).text))

/-- What a lane brings into pool sharing and side items. -/
structure LaneWants where
  planned  : PlanLane
  audio    : AudioOutcome
  fragment : Option Fragment
  picture  : Option PictureChoice
  deriving DecidableEq, Repr

/-- The wants of a lane as the TE and CE state them (R52). -/
def laneWants (p : Plan) (c : Carriage) (s : State) (pl : PlanLane) : LaneWants :=
  { planned := pl, audio := audioOutcome p c pl, fragment := textWant p pl (s.lane pl.entry.lane),
    picture := pictureChoice p pl s }

/-- The text want t (R95). -/
def LaneWants.textWant (w : LaneWants) : Nat := w.fragment.isSome.toNat

/-- The spare cells S (R51, R71). -/
def LaneWants.spare (w : LaneWants) : Nat := spareCells w.planned.entry w.audio

/-- A lane is urgent when the plan's text_from or picture_from holds an alert (R72). -/
def PlanLane.urgent (pl : PlanLane) : Bool := decide (pl.text ≠ .own) || decide (pl.picture ≠ .own)

/-- A lane's inputs to pool sharing; the credit is read now (R71, R72, R80). -/
def poolLane (s : State) (w : LaneWants) : PoolLane :=
  let e := w.planned.entry
  { lane := e.lane, urgent := w.planned.urgent, demand := w.textWant + pictureWant w.picture - w.spare,
    share := e.share, burst := e.burst, credit := (s.lane e.lane).credit, grant := 0, saturated := false }

/-- The cells left for pictures of `a` side cells (R82). DESIGN CHOICE: spare cells beyond a picture want that the cap of 48
bounds are left for pictures too, and filled with pieces (R83; R72 and R85 call them padding; assumption 41). -/
def pictureCells (w : LaneWants) (a : Nat) : Nat := a - w.textWant

/-- A lane's carriage once its grant is known: the fragment laid if a side cell is left for it (R78, R82). -/
def layLane (w : LaneWants) (x : PoolLane) : LaneCarriage :=
  let a := w.spare + x.grant
  { lane := w.planned.entry.lane, audio := w.audio, grant := x.grant, credit := x.credit, saturated := x.saturated,
    fragment := if a = 0 then none else w.fragment, picture := w.picture, pictureCells := pictureCells w a,
    pieces := [], stalled := false }

/-- A lane whose pictures are to be read: it wants some and has cells for them (R129). -/
def wantsRead (lc : LaneCarriage) : Bool := decide (0 < pictureWant lc.picture) && decide (0 < lc.pictureCells)

/-- The carriage of the lanes of a plan, given their wants and the pool lanes after sharing. -/
def layLanes (ws : List LaneWants) (pool : List PoolLane) : List LaneCarriage :=
  ws.filterMap fun w =>
    match pool.find? fun x => x.lane = w.planned.entry.lane with
    | some x => some (layLane w x)
    | none => none

/-- The carriage record after the wants have been stated and the pool shared (R52, R53, R78). -/
def shareItems (p : Plan) (c : Carriage) (s : State) : Carriage :=
  let ws := p.lanes.map (laneWants p c s)
  let lanes := layLanes ws (sharePool p.poolSize (rotating s.cursor (ws.map (poolLane s)))).1
  { stage := .items, toFetch := [], fetched := c.fetched, lanes := lanes,
    toRead := (lanes.filter wantsRead).map LaneCarriage.lane,
    cursorNext := nextCursor s.cursor (p.lanes.map fun pl => pl.entry.lane) }

/-- The fetch stage has ended: source changes, airings started, wants, sharing, and the fragments laid (R51-R53). -/
def layItems (p : Plan) (c : Carriage) (s : State) : State :=
  let s1 := p.lanes.foldl reachLane s
  setAssembler (.assembling p (shareItems p c s1)) s1

/-- An assembly at its fetch stage with carriage `c`: with no fetch left to make, the stage ends at once (R50). -/
def goOnFetching (p : Plan) (c : Carriage) (s : State) : State :=
  if c.toFetch.isEmpty then layItems p c s else setAssembler (.assembling p c) s

/-- The carriage record an assembly starts with. -/
def startCarriage (p : Plan) (s : State) : Carriage :=
  { stage := .fetching, toFetch := fetchSet p, fetched := [], lanes := [], toRead := [], cursorNext := s.cursor }

/-- An assembly begins: any due switch-over, the plan, a new carriage record, and the fetch stage (R48, R50). -/
def beginAssembly (s : State) : State :=
  let s1 := switchOver s
  let p := capturePlan s1
  goOnFetching p (startCarriage p s1) s1

/-! ### LANE_FETCH -/

/-- A straggler's unit that some region of its abandoned frame had taken is a late drop (R38). -/
def countStraggler (l : LaneId) (r : State × FetchOutcome) : State :=
  match r.2 with
  | .unit _ _ true => countLateDrop l r.1
  | .unit _ _ false => r.1
  | .nothing _ => r.1

/-- A fetch begun in an abandoned assembly runs to its end (R38; assumptions 17 and 40). -/
def straggle (g : Straggler) (h : HostView) (s : State) : State :=
  countStraggler g.lane (fetchUnit g.lane g.regions h (dropStraggler g.lane s))

/-- A source lane that is not aired is fetched only if it is READY when its fetch begins (R34). -/
def fetchAllowed (p : Plan) (l : LaneId) (s : State) : Bool :=
  match p.lane? l with
  | some _ => true
  | none => decide ((s.lane l).state = .ready)

/-- A fetch of the assembly in flight (R34, R35, R50). -/
def assemblyFetch (p : Plan) (c : Carriage) (l : LaneId) (h : HostView) (s : State) : State :=
  let left := c.toFetch.filter fun x => x ≠ l
  if fetchAllowed p l s then
    let r := fetchUnit l (candidateLimits p l) h s
    goOnFetching p { c with toFetch := left, fetched := c.fetched ++ [⟨l, r.2⟩] } r.1
  else goOnFetching p { c with toFetch := left } s

/-- LANE_FETCH for lane `l`: a straggler of an abandoned assembly first, else a fetch the assembly has still to make. -/
def laneFetch (l : LaneId) (h : HostView) (s : State) : State :=
  match s.frames.stragglers.find? fun g => g.lane = l with
  | some g => straggle g h s
  | none =>
    match s.frames.assembler with
    | .assembling p c => if c.stage = .fetching ∧ c.toFetch.contains l then assemblyFetch p c l h s else s
    | .stopped => s
    | .ready _ _ _ => s

/-- LANE_FETCH. -/
def execLaneFetch (l : LaneId) (h : HostView) (s : State) : Host.Outcome State Fault Refusal := .next (laneFetch l h s)

/-! ### PICTURE_DATA_READ (R129) -/

/-- A lane's carriage after its picture read is answered: stalled with its bank busy, else the pieces laid (R129). DESIGN
CHOICE: the read is of the blocks chosen with the want, and returns what they then hold, though the slot may have lost its last
user since and been erased (assumption 42). -/
def answerRead (s : State) (lc : LaneCarriage) : LaneCarriage :=
  match lc.picture with
  | none => lc
  | some ch =>
    if bankBusy s (bankOf (blockOf ch.base)) then { lc with stalled := true }
    else
      { lc with pieces := fillPieces s.store.contents ch.base ch.slot ch.version lc.pictureCells lc.pictureCells
                            ch.remaining ch.offset }

/-- The carriage record after the picture read of lane `l` is answered. -/
def answerLane (s : State) (l : LaneId) (c : Carriage) : Carriage :=
  { c with
    lanes := c.lanes.map fun lc => if lc.lane = l then answerRead s lc else lc
    toRead := c.toRead.filter fun x => x ≠ l }

/-- The CE's read of picture data for a lane is answered (R129). -/
def pictureDataRead (l : LaneId) (s : State) : State :=
  match s.frames.assembler with
  | .assembling p c =>
    if c.stage = .items ∧ c.toRead.contains l then setAssembler (.assembling p (answerLane s l c)) s else s
  | .stopped => s
  | .ready _ _ _ => s

/-- PICTURE_DATA_READ. -/
def execPictureDataRead (l : LaneId) (s : State) : Host.Outcome State Fault Refusal := .next (pictureDataRead l s)

/-! ### ASSEMBLY_COMPLETE (R55-R57) -/

/-- The header and directories are formed and the CRC-16 written, once every item is laid (R57). -/
def assemblyComplete (s : State) : State :=
  match s.frames.assembler with
  | .assembling p c =>
    if c.stage = .items ∧ c.toRead.isEmpty then setAssembler (.ready p c (assembledFrame p c)) s else s
  | .stopped => s
  | .ready _ _ _ => s

/-- ASSEMBLY_COMPLETE. -/
def execAssemblyComplete (s : State) : Host.Outcome State Fault Refusal := .next (assemblyComplete s)

/-! ### Abandonment and discard (R38, R44) -/

/-- A unit that some region carried counts as a late drop of the lane that supplied it (R38, R44). -/
def dropFetched (s : State) (f : Fetched) : State :=
  match f.outcome with
  | .unit _ _ true => countLateDrop f.lane s
  | .unit _ _ false => s
  | .nothing _ => s

/-- The fetches of an abandoned assembly that have begun and not ended (R38). -/
def stragglersOf (p : Plan) (c : Carriage) (begun : List LaneId) (old : List Straggler) : List Straggler :=
  (c.toFetch.filter fun l => begun.contains l && !(old.any fun g => decide (g.lane = l))).map fun l =>
    ⟨l, candidateLimits p l⟩

/-- The assembly in flight, or the finished frame, is thrown away, and the assembler is STOPPED (R38, R44). -/
def dropAssembly (begun : List LaneId) (s : State) : State :=
  match s.frames.assembler with
  | .stopped => s
  | .assembling p c =>
    let s1 := c.fetched.foldl dropFetched s
    s1.setFrames { s1.frames with
      assembler := .stopped, stragglers := s1.frames.stragglers ++ stragglersOf p c begun s1.frames.stragglers }
  | .ready _ c _ => setAssembler .stopped (c.fetched.foldl dropFetched s)

end Sys2Proof.Machine
end

