-- ==== Sys2Proof/Machine/AirLink.lean ====
section
/-! DEFINITION. The air link: pulls, void frames, the send of a frame and its commits
(03_frame_assembly_and_the_air_link.md). -/

namespace Sys2Proof.Machine

/-! ### Every send (R18, R21, R62) -/

/-- AIR_DATA set. -/
def setAirData (x : AirData) (s : State) : State := s.setLink { s.link with airData := x }

/-- The announce count of the pending map after the send of a frame that carried the count `k` (R18). -/
def announceSent (k : Nat) (s : State) : State :=
  match s.maps.upcoming with
  | none => s
  | some p =>
    if 0 < k then s.setMaps { s.maps with upcoming := some { p with announce := k - 1 } } else s

/-- The slips of a list completed OK at the send of the frame with a counter, with aux and done frame the counter (R66). -/
def completeAt (counter : Word) (rs : List RecId) (s : State) : State :=
  rs.foldl (fun s r => complete r statusOk counter counter s) s

/-- The MAP_LOAD whose switch-over is made and which waits for a send (R21). -/
def switchedSlip (s : State) : List RecId :=
  match s.maps.switched with
  | some r => [r]
  | none => []

/-- A MAP_LOAD whose switch-over is made completes at the send (R21). -/
def completeSwitched (counter : Word) (s : State) : State :=
  completeAt counter (switchedSlip s) (s.setMaps { s.maps with switched := none })

/-! ### Void frames (R59-R62) -/

/-- A void frame sent: the frame on AIR_DATA, both counters raised, the announcement counted down, every lane's pacing
counted, the frame mirror written, and a MAP_LOAD that waited completed (R60, R62, R67). -/
def sendVoid (s : State) : State :=
  let counter := s.frames.counter
  let s1 := setAirData (.sending (voidFrame s)) s
  let s2 := s1.setFrames { s1.frames with counter := counter + 1, voidCount := s1.frames.voidCount + 1 }
  let s3 := announceSent (announceNow s).2 s2
  let s4 := s3.setLanes (s3.lanes.map fun x => { x with text := paceOn x.text })
  completeSwitched counter (writeFrameMirror counter s4)

/-- A late pull (R59). -/
def latePull (begun : List LaneId) (s : State) : State :=
  beginAssembly (raiseNotice .void (dropAssembly begun (sendVoid s)))

/-! ### The send of an assembled frame (R58, R62-R68) -/

/-- The supplier of a unit that some region carried has one more unit aired (R40). -/
def countAired (s : State) (f : Fetched) : State :=
  match f.outcome with
  | .unit _ _ true =>
    let x := s.lane f.lane
    s.setLane f.lane { x with counts := { x.counts with unitsAired := x.counts.unitsAired + 1 } }
  | .unit _ _ false => s
  | .nothing _ => s

/-- A lane whose region carried filler has one more filler (R40). -/
def countFiller (s : State) (lc : LaneCarriage) : State :=
  match lc.audio with
  | .filler _ =>
    let x := s.lane lc.lane
    s.setLane lc.lane { x with counts := { x.counts with filler := satInc x.counts.filler } }
  | .unit _ _ => s
  | .noAudio => s

/-- The credit and saturation commit of a lane (R63, R79). -/
def commitCredit (s : State) (lc : LaneCarriage) : State :=
  let x := s.lane lc.lane
  s.setLane lc.lane
    { x with
      credit := if x.state = .halted then 0 else lc.credit
      saturation := if lc.saturated then satInc x.saturation else x.saturation }

/-- The fragment a frame carried for a lane. -/
def Carriage.fragmentOf (c : Carriage) (l : LaneId) : Option Fragment :=
  match c.lane? l with
  | some lc => lc.fragment
  | none => none

/-- The text commit of every lane (R62, R64, R94). -/
def commitTexts (c : Carriage) (s : State) : State :=
  s.setLanes (Vector.ofFn fun l : LaneId => { s.lanes[l] with text := commitText (c.fragmentOf l) s.lanes[l].text })

/-- The commits of the blocks from the carriage record (R62-R66). -/
def commitFrame (p : Plan) (c : Carriage) (s : State) : State :=
  let s1 := c.fetched.foldl countAired s
  let s2 := c.lanes.foldl countFiller s1
  let s3 := (c.lanes.foldl commitCredit s2).setCursor c.cursorNext
  let s4 := commitTexts c s3
  let s5 := c.lanes.foldl commitPicture s4
  commitAlerts p p.counter s5

/-- The lanes whose mirrors a send writes: those of the plan's map, and the unaired sources that were fetched (R68). -/
def mirroredLanes (p : Plan) (c : Carriage) : List LaneId :=
  (p.lanes.map fun pl => pl.entry.lane) ++
    (c.fetched.map Fetched.lane).filter fun l => (p.lane? l).isNone

/-- The mirrors of the send of an assembled frame (R67, R68). DESIGN CHOICE: the frame mirror comes first, after the
directory and alert mirrors of the commits, then the lanes of the plan ascending, then the unaired sources in fetch order
(assumption 38). -/
def writeSendMirrors (p : Plan) (c : Carriage) (s : State) : State :=
  (mirroredLanes p c).foldl (fun s l => writeLaneMirror l p.counter s) (writeFrameMirror p.counter s)

/-- The finished frame sent: commits, mirrors, completions; the store chooses once; a new assembly begins (R58, R62-R68,
R111). -/
def sendFrame (p : Plan) (c : Carriage) (frame : List Byte) (s : State) : State :=
  let ends := alertCompletions p s
  let s1 := setAirData (.sending frame) s
  let s2 := announceSent p.announce (s1.setFrames { s1.frames with counter := s1.frames.counter + 1 })
  let s3 := writeSendMirrors p c (commitFrame p c s2)
  let s4 := completeSwitched p.counter (completeAt p.counter ends s3)
  beginAssembly (choose s4)

/-! ### AIR_PULL (R43, R45) -/

/-- A transmission is in progress (R46). -/
def transmitting (s : State) : Bool :=
  match s.link.airData with
  | .sending _ => true
  | .heldLow => false
  | .idle => false

/-- A pull taken, answered by the assembler's state (R43, R58-R60). -/
def answerPull (begun : List LaneId) (s : State) : State :=
  match s.frames.assembler with
  | .stopped => sendVoid s
  | .assembling _ _ => latePull begun s
  | .ready p c frame => sendFrame p c frame s

/-- A rising edge of AIR_PULL: ignored with the link DOWN or a transmission in progress (R45). -/
def airPull (begun : List LaneId) (s : State) : State :=
  if s.link.airRstN && !transmitting s then answerPull begun s else s

/-- AIR_PULL. -/
def execAirPull (begun : List LaneId) (s : State) : Host.Outcome State Fault Refusal := .next (airPull begun s)

/-! ### The link (R45, R46) -/

/-- AIR_RST_N goes low: the link is DOWN, and a transmission stops with AIR_DATA held low (R45, R46). -/
def airRstFall (s : State) : State :=
  if s.link.airRstN then
    s.setLink { airRstN := false, airData := if transmitting s then .heldLow else s.link.airData }
  else s

/-- AIR_RST_FALL. -/
def execAirRstFall (s : State) : Host.Outcome State Fault Refusal := .next (airRstFall s)

/-- AIR_RST_RISE: the link is UP (R45). -/
def execAirRstRise (s : State) : Host.Outcome State Fault Refusal := .next (s.setLink { s.link with airRstN := true })

/-- The last bit has gone: the transmission is no longer in progress (R46). -/
def transmissionEnd (s : State) : State := if transmitting s then setAirData .idle s else s

/-- TRANSMISSION_END. -/
def execTransmissionEnd (s : State) : Host.Outcome State Fault Refusal := .next (transmissionEnd s)

end Sys2Proof.Machine
end

