-- ==== Sys2Proof/Machine/SlipReader.lean ====
section
/-! DEFINITION. The Slip Reader: sweeps, visits, guards and takes (09_the_slip_table.md). -/

namespace Sys2Proof.Machine

/-- The sweep state set. -/
def setSweep (x : Sweep) (s : State) : State := s.setReader { s.reader with sweep := x }

/-- The sweep cursor set. -/
def setSweepCursor (i : SlipId) (s : State) : State := s.setReader { s.reader with cursor := i }

/-- The sweep-pending flag set. -/
def setOwed (b : Bool) (s : State) : State := s.setReader { s.reader with owed := b }

/-- The work record that a visit in progress reads into. -/
def Sweep.record? : Sweep → Option RecId
  | .visiting r _ _ _ => some r
  | .idle => none
  | .readingHands => none

/-- A work record is free: it holds no slip, and no visit reads into it (R161, R167). -/
def recordFree (s : State) (r : RecId) : Bool :=
  (s.work r).isNone && decide (s.reader.sweep.record? ≠ some r)

/-- The lowest-numbered free work record (assumption 12). -/
def freeRecord? (s : State) : Option RecId := (List.finRange 16).find? fun r => recordFree s r

/-- A sweep begins: the hands of all 128 slips are read (R163). -/
def beginSweep (s : State) : State := setSweep .readingHands s

/-- A sweep ends: with RUN 1 and the sweep-pending flag set, the flag is cleared and the next sweep begins; else the SR
becomes IDLE (R162). -/
def endSweep (s : State) : State :=
  if s.regs.run && s.reader.owed then beginSweep (setOwed false s) else setSweep .idle s

/-- The sweep goes on to its next visit: with none left it ends; with no work record free it ends, the cursor at that
slip; else the slip is read into a free record (R163, R164 steps 1 and 2). -/
def nextVisit (rest : List SlipId) (s : State) : State :=
  match rest with
  | [] => endSweep s
  | i :: is =>
    let s1 := setSweep .idle s
    match freeRecord? s1 with
    | none => endSweep (setSweepCursor i s1)
    | some r => setSweep (.visiting r i is false) s1

/-- A visit has ended: a sweep whose last visit it was ends (R168), another goes on. -/
def afterVisit (rest : List SlipId) (last : Bool) (s : State) : State :=
  if last then endSweep s else nextVisit rest s

/-- A sweep trigger: a sweep begins with RUN 1 and the SR IDLE, else the sweep-pending flag is set (R162). -/
def triggerSweep (s : State) : State :=
  if s.regs.run && decide (s.reader.sweep = .idle) then beginSweep s else setOwed true s

/-! ### The hands (R163) -/

/-- The slips in the order a sweep visits them: ascending from the cursor, wrapping (R163). -/
def sweepOrder (cursor : SlipId) : List SlipId :=
  ((List.finRange 128).filter fun i => decide (cursor ≤ i)) ++ (List.finRange 128).filter fun i => decide (i < cursor)

/-- The slips to visit, of hands as read in the order of the slips (R163, R176). -/
def givenSlips (hands : List Byte) (cursor : SlipId) : List SlipId :=
  (sweepOrder cursor).filter fun i => decide (hands.getD i.val 0 = 1)

/-- The read of the hands ends (R163). -/
def sweepHandRead (h : HostView) (s : State) : State :=
  match s.reader.sweep with
  | .readingHands =>
    match hostGather h (handAddrs s.regs.anchor) with
    | none => raiseNotice .fault (endSweep s)
    | some hands => nextVisit (givenSlips hands s.reader.cursor) s
  | .idle => s
  | .visiting _ _ _ _ => s

/-- SWEEP_HAND_READ. -/
def execSweepHandRead (h : HostView) (s : State) : Host.Outcome State Fault Refusal := .next (sweepHandRead h s)

/-! ### Visits (R164-R166) -/

/-- A work record already holds a slip of this index (R164 step 3). -/
def slipHeld (s : State) (i : SlipId) : Bool :=
  s.reader.records.toList.any fun w => match w with | some w => decide (w.slip = i) | none => false

/-- Entries of the store job queue in use: dispatched slips and jobs (R110). -/
def storeEntries (s : State) : Nat := s.store.queue.length + s.store.jobs.length

/-- The kind byte is that of a kind that names a lane (R165). -/
def kindNamesLane (b : Byte) : Bool :=
  match kindOf b with
  | some k => namesLane k
  | none => false

/-- A lane is a target of an active alert (R165). -/
def isTarget (s : State) (l : LaneId) : Bool := (activeAlerts s).any fun a => a.targets.contains l

/-- LANE_CLEAR (R165). -/
def laneClear (s : State) (w : WorkRecord) : Bool :=
  if kindNamesLane w.kind then
    match w.lane with
    | some l => !isTarget s l
    | none => true
  else true

/-- The guard of a slip: none for a guard code that is not defined (R164 step 5, R165). -/
def guardHolds (s : State) (w : WorkRecord) : Option Bool :=
  match w.guard.toNat with
  | 0 => some true
  | 1 => some (!anyAlert s)
  | 2 => some (anyAlert s)
  | 3 => some (laneClear s w)
  | _ => none

/-- A slip dispatched to its owner: it joins the owner's dispatched slips (R166). -/
def dispatchTo (o : Owner) (r : RecId) (s : State) : State :=
  match o with
  | .lane => s.setMaps { s.maps with laneSlips := s.maps.laneSlips ++ [r] }
  | .map => s.setMaps { s.maps with mapLoads := s.maps.mapLoads ++ [r] }
  | .text => s.setText { s.text with queue := s.text.queue ++ [r] }
  | .carousel => s.setCarousels (s.carousels ++ [r])
  | .store => s.setStore { s.store with queue := s.store.queue ++ [r] }
  | .alert => s.setAlerts { s.alerts with queue := s.alerts.queue ++ [r] }

/-- A taken slip decided at its take (R166). -/
def decideTake (r : RecId) (w : WorkRecord) (s : State) : State :=
  if 3 < w.guard.toNat then finish r statusBadArg 0 s
  else
    match kindOf w.kind with
    | none => finish r statusBadKind 0 s
    | some k =>
      if namesLane k && w.lane.isNone then finish r statusBadLane 0 s
      else dispatchTo (ownerOf k) r s

/-- A slip is taken: hand TAKEN, the cursor at the slip after it, and the decision (R166). -/
def takeSlip (r : RecId) (i : SlipId) (w : WorkRecord) (s : State) : State :=
  decideTake r w
    (setSweepCursor (i + 1) ((fillRecord r w s).postRecord (slipAddr s.regs.anchor i) (leBytes 1 2)))

/-- A slip whose guard is false with SKIP_ON_FALSE completes SKIPPED without a TAKEN write (R164 step 5, R169). -/
def skipSlip (r : RecId) (i : SlipId) (w : WorkRecord) (s : State) : State :=
  setSweepCursor (i + 1) (finish r statusSkipped 0 (fillRecord r w s))

/-- Steps 3 to 6 of a visit, on the slip as read (R164). -/
def visitSlip (r : RecId) (i : SlipId) (slip : List Byte) (s : State) : State :=
  let w := parseSlip i slip
  if slip.getD 0 0 ≠ 1 ∨ slipHeld s i then s
  else if isPicture w.kind && decide (Config.storeQueue ≤ storeEntries s) then s
  else
    match guardHolds s w with
    | none => takeSlip r i w s
    | some true => takeSlip r i w s
    | some false => if w.skipOnFalse then skipSlip r i w s else s

/-- The read of the slip being visited ends (R164). DESIGN CHOICE: the access is made at its end, with the anchor that
stands then (R159; assumption 40). -/
def slipVisit (h : HostView) (s : State) : State :=
  match s.reader.sweep with
  | .visiting r i rest last =>
    match hostRead h (slipAddr s.regs.anchor i) 64 with
    | none => raiseNotice .fault (endSweep (setSweepCursor i s))
    | some slip => afterVisit rest last (visitSlip r i slip s)
  | .idle => s
  | .readingHands => s

/-- SLIP_VISIT. -/
def execSlipVisit (h : HostView) (s : State) : Host.Outcome State Fault Refusal := .next (slipVisit h s)

end Sys2Proof.Machine
end

