-- ==== Sys2Proof/Machine/Store.lean ====
section
/-! DEFINITION. The picture slips, the ends of store operations, directory writes and recovery (06_the_picture_store.md). -/

namespace Sys2Proof.Machine

/-- The PST handles the dispatch of the oldest dispatched picture slip, if it is of kind `k`; before the stored directory
has been read, the dispatch waits (R113, R123). -/
def picDispatch (k : Kind) (act : RecId → WorkRecord → State → State) (s : State) : State :=
  if s.store.loaded then
    match s.store.queue with
    | r :: rest =>
      match s.work r with
      | some w => if kindOf w.kind = some k then act r w (s.setStore { s.store with queue := rest }) else s
      | none => s
    | [] => s
  else s

/-! ### PIC_OPEN (R107, R114, R115) -/

/-- Blocks `first` to `first + count - 1` belong to no slot that is not EMPTY (R107). -/
def runFree (s : State) (first count : Nat) : Bool :=
  s.store.slots.toList.all fun x =>
    match x.record.extent with
    | some e => decide (first + count ≤ e.first) || decide (e.first + e.count ≤ first)
    | none => true

/-- The lowest run of `count` free blocks in blocks `lo` to `hi - 1`. -/
def runIn (s : State) (lo hi count : Nat) : Option Nat :=
  (List.range' lo (hi - lo)).find? fun f => decide (f + count ≤ hi) && runFree s f count

/-- The run a PIC_OPEN takes: in blocks 0-63 with the alert flag; else within 64-511, or else within 512-1015 (R107). -/
def findRun (s : State) (alertFlag : Bool) (count : Nat) : Option Nat :=
  if alertFlag then runIn s 0 64 count
  else (runIn s 64 512 count).orElse fun _ => runIn s 512 1016 count

/-- An accepted PIC_OPEN (R115). -/
def openSlot (r : RecId) (i : SlotId) (length : Nat) (alertFlag : Bool) (first : Nat) (s : State) : State :=
  let e : Extent := { first := first, count := ceilDiv length Config.blockBytes, length := length }
  let d := (s.slot i).record
  choose (enterJob
    { record := r, kind := .opening, slot := i, bank := e.bank, state := .queued, work := .erases e.blocks, made := 0, cut := 0 }
    (recordSlot i { d with state := .erasing, alertFlag := alertFlag, extent := some e, crc := none } s))

/-- PIC_OPEN at its dispatch (R114). -/
def actPicOpen (r : RecId) (w : WorkRecord) (s : State) : State :=
  let length := w.arg 4 4
  let alertFlag := (w.argByte 1).getLsbD 0
  match w.slot with
  | none => finish r statusBadArg 0 s
  | some i =>
    if (s.slot i).record.state ≠ .empty then finish r statusSlotState 0 s
    else if length = 0 ∨ 262144 < length then finish r statusBadArg 0 s
    else if alertFlag && anyAlert s then finish r statusProtected 0 s
    else
      match findRun s alertFlag (ceilDiv length Config.blockBytes) with
      | none => finish r statusNoSpace 0 s
      | some first => openSlot r i length alertFlag first s

/-- PIC_OPEN. -/
def execPicOpen (s : State) : Host.Outcome State Fault Refusal := .next (picDispatch .picOpen actPicOpen s)

/-! ### PIC_WRITE (R116, R117) -/

/-- How many bytes repetition bytes from slot offset `start` write: up to the end of its `len` bytes, the end of the
page, or the end of the picture (R116). -/
def repLength (start len size : Nat) : Nat := min (start + len) (min (256 * (start / 256) + 256) size) - start

/-- The repetitions of a PIC_WRITE that write, in order (R116). -/
def writeReps (host : Addr) (base offset len n size : Nat) : List Program :=
  (List.range (n + 1)).filterMap fun k =>
    let start := offset + k * len
    if repLength start len size = 0 then none
    else some { host := addrAt host (k * len), dest := base + start, length := repLength start len size }

/-- The bytes that a PIC_WRITE cuts off, summed over its repetitions (R116, R117). -/
def cutBytes (offset len n size : Nat) : Nat :=
  ((List.range (n + 1)).map fun k => len - repLength (offset + k * len) len size).sum

/-- PIC_WRITE at its dispatch (R116). -/
def actPicWrite (r : RecId) (w : WorkRecord) (s : State) : State :=
  let n := w.arg 1 1
  let len := w.arg 2 2
  let offset := w.arg 4 4
  match w.slot with
  | none => finish r statusBadArg 0 s
  | some i =>
    if (s.slot i).record.state ≠ .filling then finish r statusSlotState 0 s
    else if len = 0 ∨ 256 < len then finish r statusBadArg 0 s
    else
      choose (enterJob
        { record := r, kind := .writing, slot := i, bank := slotBank s i, state := .queued,
          work := .programs (writeReps (w.argAddr 8) (slotBase s i) offset len n (slotLength s i)), made := 0,
          cut := cutBytes offset len n (slotLength s i) } s)

/-- PIC_WRITE. -/
def execPicWrite (s : State) : Host.Outcome State Fault Refusal := .next (picDispatch .picWrite actPicWrite s)

/-! ### PIC_SEAL (R118) -/

/-- PIC_SEAL at its dispatch (R118). -/
def actPicSeal (r : RecId) (w : WorkRecord) (s : State) : State :=
  match w.slot with
  | none => finish r statusBadArg 0 s
  | some i =>
    let d := (s.slot i).record
    if d.state ≠ .filling then finish r statusSlotState 0 s
    else
      choose (enterJob
        { record := r, kind := .seal, slot := i, bank := slotBank s i, state := .queued,
          work := .sealRead (BitVec.ofNat 32 (w.arg 4 4)), made := 0, cut := 0 }
        (recordSlot i { d with state := .sealing } s))

/-- PIC_SEAL. -/
def execPicSeal (s : State) : Host.Outcome State Fault Refusal := .next (picDispatch .picSeal actPicSeal s)

/-! ### PIC_DROP (R120, R121, R134) -/

/-- The index of an entry after the entries naming slot `i` are gone: the kept entries before it. -/
def keptBefore (i : SlotId) (entries : List SlotId) (e : Nat) : Nat := (entries.take e).countP fun x => x ≠ i

/-- A position after the removal of the entries naming slot `i` (R134). -/
def movePosition (i : SlotId) (entries : List SlotId) (p : Position) : Position :=
  let f := keptBefore i entries p.entry
  if entries[p.entry]? = some i then
    ⟨.next, if f < entries.countP (fun x => x ≠ i) then f else 0⟩
  else ⟨p.mark, f⟩

/-- A pending jump after the removal of the entries naming slot `i` (R134). -/
def moveJump (i : SlotId) (entries : List SlotId) (jump : Option Nat) : Option Nat :=
  match jump with
  | none => none
  | some e => if entries[e]? = some i then none else some (keptBefore i entries e)

/-- A lane's carousel after every entry naming slot `i` is removed; a list that names it nowhere is not changed (R134). -/
def dropEntries (i : SlotId) (c : Carousel) : Carousel :=
  if c.entries.contains i then
    { c with
      entries := c.entries.filter fun x => x ≠ i
      position := movePosition i c.entries c.position
      jump := moveJump i c.entries c.jump }
  else c

/-- The carousel entries of all lanes that name slot `i`. -/
def entriesNaming (s : State) (i : SlotId) : List SlotId :=
  s.lanes.toList.flatMap fun x => x.carousel.entries.filter fun e => e = i

/-- Every entry naming a newly CONDEMNED slot is removed from every list, and its user count falls by them (R134). -/
def removeCondemned (i : SlotId) (s : State) : State :=
  retally (entriesNaming s i) []
    (s.setLanes (s.lanes.map fun x => { x with carousel := dropEntries i x.carousel }))

/-- The drop job of a slot (R121). -/
def dropJob (r : RecId) (i : SlotId) (s : State) (state : JobState) : Job :=
  { record := r, kind := .drop, slot := i, bank := slotBank s i, state := state,
    work := .erases (match (s.slot i).record.extent with | some e => e.blocks | none => []), made := 0, cut := 0 }

/-- An accepted PIC_DROP (R121). -/
def dropSlot (r : RecId) (i : SlotId) (s : State) : State :=
  let x := s.slot i
  if x.record.state = .ready ∧ 0 < x.users then
    choose (removeCondemned i
      (enterJob (dropJob r i s .waiting) (recordSlot i { x.record with state := .condemned } s)))
  else
    choose (enterJob (dropJob r i s .queued) (recordSlot i (DirChange.apply .toDropping x.record) s))

/-- Slot `i` is the picture of an active alert (R120). -/
def alertPicture (s : State) (i : SlotId) : Bool :=
  (activeAlerts s).any fun a => match a.picture with | some p => decide (p.1 = i) | none => false

/-- PIC_DROP at its dispatch (R120). -/
def actPicDrop (r : RecId) (w : WorkRecord) (s : State) : State :=
  match w.slot with
  | none => finish r statusBadArg 0 s
  | some i =>
    let d := (s.slot i).record
    if d.state ≠ .filling ∧ d.state ≠ .ready then finish r statusSlotState 0 s
    else if alertPicture s i then finish r statusInAlert 0 s
    else if d.alertFlag && anyAlert s then finish r statusProtected 0 s
    else dropSlot r i s

/-- PIC_DROP. -/
def execPicDrop (s : State) : Host.Outcome State Fault Refusal := .next (picDispatch .picDrop actPicDrop s)

/-! ### Ends of operations -/

/-- The erase in progress ends: the block reads 0xFF, and the job or the recovery goes on (R111, R115, R122, R124). -/
def blockEraseEnd (s : State) : State :=
  match s.store.running with
  | some ⟨worker, .erase b⟩ =>
    let s1 := s.setStore { s.store with contents := storeErase s.store.contents b }
    match worker with
    | .job r =>
      match jobOf s1 r with
      | some j => afterJobErase j s1
      | none => setRunning none s1
    | .recovery i =>
      match s1.store.recovery.find? (fun e => e.slot = i) with
      | some e => afterRecoveryErase e s1
      | none => setRunning none s1
  | _ => s

/-- BLOCK_ERASE_END. -/
def execBlockEraseEnd (s : State) : Host.Outcome State Fault Refusal := .next (blockEraseEnd s)

/-- A job whose bank came to be held while its host bytes were read starts no program (R109): it waits as QUEUED if none
of its operations has run, else as PAUSED (R110), and the store chooses again (assumption 11). -/
def holdWrite (j : Job) (s : State) : State :=
  choose (setRunning none
    (updateJob j.record (fun j => { j with state := if j.made = 0 then .queued else .paused }) s))

/-- The host read of a repetition ends: the page program starts, or on a PCIe error the job ends and its slip completes
with FETCH_FAULT and the repetitions written before (R117). -/
def writeHostRead (h : HostView) (s : State) : State :=
  match s.store.running with
  | some ⟨.job r, .hostRead p⟩ =>
    match jobOf s r with
    | some j =>
      match hostRead h p.host p.length with
      | none => choose (finish r statusFetchFault (BitVec.ofNat 32 j.made) (setRunning none s))
      | some data =>
        if bankHeld s j.bank then holdWrite j s else setRunning (some ⟨.job r, .program p.dest data⟩) s
    | none => setRunning none s
  | _ => s

/-- WRITE_HOST_READ. -/
def execWriteHostRead (h : HostView) (s : State) : Host.Outcome State Fault Refusal := .next (writeHostRead h s)

/-- The page program in progress ends: each byte is its old value AND the byte read (R117). -/
def pageProgramEnd (s : State) : State :=
  match s.store.running with
  | some ⟨.job r, .program dest data⟩ =>
    let s1 := s.setStore { s.store with contents := storeProgram s.store.contents dest data }
    match jobOf s1 r with
    | some j => afterProgram j s1
    | none => setRunning none s1
  | _ => s

/-- PAGE_PROGRAM_END. -/
def execPageProgramEnd (s : State) : Host.Outcome State Fault Refusal := .next (pageProgramEnd s)

/-- The CRC-32 of a slot's picture as stored (R119, R180). -/
def slotCrc (s : State) (i : SlotId) : Word := crc32 (storeRead s.store.contents (slotBase s i) (slotLength s i))

/-- The directory write that a seal's comparison leads to, with the completion it carries (R119). -/
def sealWrite (s : State) (j : Job) (expected : Word) : DirWrite :=
  if slotCrc s j.slot = expected then
    ⟨j.slot, .toReady (slotCrc s j.slot),
      some ⟨j.record, statusOk, BitVec.ofNat 32 ((s.slot j.slot).record.version + 1).toNat⟩⟩
  else ⟨j.slot, .toFilling, some ⟨j.record, statusCheckFailed, slotCrc s j.slot⟩⟩

/-- The seal read ends and its CRC-32 is compared with the one expected (R119). -/
def sealReadEnd (s : State) : State :=
  match s.store.running with
  | some ⟨.job r, .sealRead⟩ =>
    match jobOf s r with
    | some j =>
      match j.work with
      | .sealRead expected =>
        choose (beginDirWrite (sealWrite s j expected)
          (setRunning none (updateJob r (fun j => { j with state := .ended }) s)))
      | _ => setRunning none s
    | none => setRunning none s
  | _ => s

/-- SEAL_READ_END. -/
def execSealReadEnd (s : State) : Host.Outcome State Fault Refusal := .next (sealReadEnd s)

/-! ### Directory writes and recovery -/

/-- The slip that a directory write completes, completed (R106, R169). -/
def finishWith (c : Option Completion) (s : State) : State :=
  match c with
  | some c => finish c.record c.status c.aux s
  | none => s

/-- The oldest directory write under way ends: the change of state takes effect, the mirror entry is written, and the
slip it completes is completed (R106). -/
def directoryWriteEnd (s : State) : State :=
  match s.store.dirWrites with
  | [] => s
  | w :: ws =>
    let s1 := s.setStore { s.store with dirWrites := ws }
    choose (finishWith w.completes (recordSlot w.slot (w.change.apply (s1.slot w.slot).record) s1))

/-- DIRECTORY_WRITE_END. -/
def execDirectoryWriteEnd (s : State) : Host.Outcome State Fault Refusal := .next (directoryWriteEnd s)

/-- Recovery's act on a slot as found (R124). -/
def recoverSlot (s : State) (i : SlotId) : State :=
  let d := (s.slot i).record
  let listed (s : State) : State :=
    match d.extent with
    | some e => s.setStore { s.store with recovery := s.store.recovery ++ [⟨i, e.bank, e.blocks⟩] }
    | none => s
  match d.state with
  | .empty => s
  | .filling => s
  | .ready => s
  | .sealing => beginDirWrite ⟨i, .toFilling, none⟩ s
  | .erasing => listed s
  | .dropping => listed s
  | .condemned => listed (beginDirWrite ⟨i, .toDropping, none⟩ s)

/-- The working copy as the stored directory gives it, no slot having a user (R123). -/
def loadDirectory (s : State) : State :=
  s.setStore { s.store with slots := s.store.stored.map fun d => ⟨d, 0⟩, loaded := true }

/-- The mirror entries of the slots that the load changed, ascending (R106; assumptions 5 and 38). -/
def mirrorLoaded (s : State) : State :=
  (List.finRange 64).foldl (fun s i => if s.slot i = .vacant then s else writeDirectoryMirror i s) s

/-- The read of the stored directory after a reset ends, and recovery begins (R123, R124). -/
def storedDirectoryRead (s : State) : State :=
  if s.store.loaded then s
  else choose ((List.finRange 64).foldl recoverSlot (mirrorLoaded (loadDirectory s)))

/-- STORED_DIRECTORY_READ. -/
def execStoredDirectoryRead (s : State) : Host.Outcome State Fault Refusal := .next (storedDirectoryRead s)

/-! ### What a reset leaves of the store (R123) -/

/-- `n` bytes of a block whose erase was cut short, from store address `a`: undefined bytes. -/
def scrambleErase (draw : Nat) (m : List Host.Cell) (a : Nat) : Nat → List Host.Cell
  | 0 => m
  | n + 1 => scrambleErase draw (storePut m a (Config.brokenErase draw a)) (a + 1) n

/-- A program cut short: each byte holds its old value or its programmed value. -/
def scrambleProgram (draw : Nat) (m : List Host.Cell) (a : Nat) : List Byte → List Host.Cell
  | [] => m
  | b :: bs =>
    let m' := if Config.brokenProgram draw a then storePut m a (storeByte m a &&& b) else m
    scrambleProgram draw m' (a + 1) bs

/-- The store contents after a reset (R123). -/
def contentsAfterReset (s : State) : List Host.Cell :=
  match s.store.running with
  | some ⟨_, .erase b⟩ => scrambleErase s.draws s.store.contents (b * Config.blockBytes) Config.blockBytes
  | some ⟨_, .program dest data⟩ => scrambleProgram s.draws s.store.contents dest data
  | some ⟨_, .hostRead _⟩ => s.store.contents
  | some ⟨_, .sealRead⟩ => s.store.contents
  | none => s.store.contents

/-- The stored directory after a reset: as last written; the write in progress, the oldest, was made or was not (R106). -/
def storedAfterReset (s : State) : Vector DirRecord 64 :=
  match s.store.dirWrites with
  | [] => s.store.stored
  | w :: _ =>
    if Config.directoryWriteLands s.draws then s.store.stored.set w.slot (w.change.apply s.store.stored[w.slot])
    else s.store.stored

end Sys2Proof.Machine
end

