-- ==== Sys2Proof/Machine/Registers.lean ====
section
/-! DEFINITION. The registers: reads, writes, RUN, the interval timer and the two resets (09_the_slip_table.md 9.6-9.8). -/

namespace Sys2Proof.Machine

/-! ### Reads (R171, R175) -/

/-- A 32-bit read of the register window (R171, R175). A read changes nothing. -/
def readRegister (s : State) (offset : Word) : Word :=
  if offset = 0x00 then s.regs.anchor.extractLsb' 0 32
  else if offset = 0x04 then s.regs.anchor.extractLsb' 32 32
  else if offset = 0x08 then BitVec.ofNat 32 (s.regs.run.toNat + 256 * s.regs.sweepMs.toNat)
  else if offset = 0x10 then s.regs.notice.zeroExtend 32
  else if offset = 0x14 then s.regs.noticeEn.zeroExtend 32
  else 0

/-! ### The anchor (R159) -/

/-- The anchor with its lower half replaced, its lowest 12 bits 0 (R159). -/
def withAnchorLo (anchor : Addr) (value : Word) : Addr := anchor.extractLsb' 32 32 ++ (value &&& 0xFFFFF000)

/-- The anchor with its upper half replaced (R159). -/
def withAnchorHi (anchor : Addr) (value : Word) : Addr := value ++ anchor.extractLsb' 0 32

/-- The anchor replaced while RUN is 0; a write while RUN is 1 is ignored (R159). -/
def writeAnchor (anchor : Addr) (s : State) : State :=
  if s.regs.run then s else s.setRegs { s.regs with anchor := anchor }

/-- ANCHOR_LO_WRITE. -/
def execAnchorLoWrite (value : Word) (s : State) : Host.Outcome State Fault Refusal :=
  .next (writeAnchor (withAnchorLo s.regs.anchor value) s)

/-- ANCHOR_HI_WRITE. -/
def execAnchorHiWrite (value : Word) (s : State) : Host.Outcome State Fault Refusal :=
  .next (writeAnchor (withAnchorHi s.regs.anchor value) s)

/-! ### RUNCTL (R43, R162, R168, R171) -/

/-- The interval timer set: running with an interval of 1-255 ms, or stopped for 0 (R162). -/
def setTimer (ms : Byte) (s : State) : State :=
  s.setReader { s.reader with timer := if ms = 0 then none else some ms }

/-- The interval timer stopped (R162). -/
def stopTimer (s : State) : State := s.setReader { s.reader with timer := none }

/-- The mirrors written when RUN first becomes 1 after a reset: the whole directory mirror, and the four alert mirror
records as FREE (R106, R157). DESIGN CHOICE: the 64 directory entries ascending come before the four alert records
(R171; assumption 38). -/
def writeFirstMirrors (s : State) : State :=
  let s1 := (List.finRange 64).foldl (fun s i => postDirectoryEntry i s) s
  (List.finRange 4).foldl
    (fun s p => s.postRecord (addrAt s.regs.anchor (Config.alertMirrorOffset + 32 * p.val)) (List.replicate 32 0)) s1

/-- The first RUN after a reset (R106, R157). -/
def firstRun (s : State) : State := if s.ran then s else writeFirstMirrors (s.setRan true)

/-- A sweep that is owed begins when RUN becomes 1 with the SR IDLE (R162). -/
def owedSweep (s : State) : State :=
  if s.reader.owed && decide (s.reader.sweep = .idle) then beginSweep (setOwed false s) else s

/-- RUN becomes 1 (R43, R106, R157, R162). -/
def runBecomesSet (s : State) : State := beginAssembly (setTimer s.regs.sweepMs (owedSweep (firstRun s)))

/-- A sweep when RUN becomes 0: one in a visit ends after that visit, one still reading the hands makes no visit and ends
(R168; assumption 13). -/
def haltSweep (s : State) : State :=
  match s.reader.sweep with
  | .idle => s
  | .readingHands => setSweep .idle s
  | .visiting r i rest _ => setSweep (.visiting r i rest true) s

/-- RUN becomes 0 (R43, R44, R162, R168). -/
def runBecomesClear (begun : List LaneId) (s : State) : State := dropAssembly begun (haltSweep (stopTimer s))

/-- The interval timer at a write of SWEEP_MS while RUN is and stays 1: restarted, or stopped for 0, when the value
changes (R162). -/
def retime (old : Byte) (s : State) : State :=
  if s.regs.run && decide (s.regs.sweepMs ≠ old) then setTimer s.regs.sweepMs s else s

/-- A RUNCTL write with SOFT_RESET 0: RUN and SWEEP_MS are written, and a change of RUN is the event of RUN becoming 1 or
0 (R171). -/
def writeRunctl (run : Bool) (ms : Byte) (begun : List LaneId) (s : State) : State :=
  let s1 := s.setRegs { s.regs with run := run, sweepMs := ms }
  if s.regs.run = run then retime s.regs.sweepMs s1
  else if run then runBecomesSet s1 else runBecomesClear begun s1

/-- RUN_SET. -/
def execRunSet (ms : Byte) (s : State) : Host.Outcome State Fault Refusal := .next (writeRunctl true ms [] s)

/-- RUN_CLEAR. -/
def execRunClear (ms : Byte) (begun : List LaneId) (s : State) : Host.Outcome State Fault Refusal :=
  .next (writeRunctl false ms begun s)

/-- SWEEP_MS_WRITE: RUN keeps its value. -/
def execSweepMsWrite (ms : Byte) (s : State) : Host.Outcome State Fault Refusal :=
  .next (writeRunctl s.regs.run ms [] s)

/-! ### PROMPT, the timer and the notices (R162, R171, R172) -/

/-- PROMPT: any value is a sweep trigger (R162, R171). -/
def execPrompt (_ : Word) (s : State) : Host.Outcome State Fault Refusal := .next (triggerSweep s)

/-- The interval timer expires and restarts, and triggers a sweep; a stopped timer does not expire (R162). -/
def timerExpiry (s : State) : State :=
  match s.reader.timer with
  | some _ => triggerSweep (setTimer s.regs.sweepMs s)
  | none => s

/-- SWEEP_TIMER_EXPIRY. -/
def execSweepTimerExpiry (s : State) : Host.Outcome State Fault Refusal := .next (timerExpiry s)

/-- NOTICE_WRITE: each cause written 1 is cleared (R171). -/
def execNoticeWrite (value : Word) (s : State) : Host.Outcome State Fault Refusal :=
  .next (s.setRegs { s.regs with notice := s.regs.notice &&& ~~~ (value.extractLsb' 0 4) })

/-- NOTICE_EN_WRITE: the enables are written, and each enable that goes from clear to set while its cause is set sends an
interrupt message (R171, R172). -/
def execNoticeEnWrite (value : Word) (s : State) : Host.Outcome State Fault Refusal :=
  .next (postInterrupts (newlyEnabled s.regs.notice s.regs.noticeEn (value.extractLsb' 0 4)).length
    (s.setRegs { s.regs with noticeEn := value.extractLsb' 0 4 }))

/-- REGISTER_WRITE_OTHER: ignored (R171). -/
def execRegisterWriteOther (_ _ : Word) (s : State) : Host.Outcome State Fault Refusal := .next s

/-! ### Resets (R22, R41, R69, R102, R123, R140, R158, R173) -/

/-- The registers after soft reset: the anchor and NOTICE_EN are kept (R173). -/
def softRegisters (r : Registers) : Registers := { r with run := false, sweepMs := 0, notice := 0 }

/-- The machine after a reset: as `State.reset`, but for what outlasts it: the store's contents and directory (R123), the
level of AIR_RST_N (R69), what has been posted, and the commands that wait. AIR_DATA is held low (R69). -/
def resetKeeping (regs : Registers) (s : State) : State :=
  { State.reset with
    regs := regs
    link := { airRstN := s.link.airRstN, airData := .heldLow }
    store := { State.reset.store with contents := contentsAfterReset s, stored := storedAfterReset s }
    posted := s.posted
    draws := s.draws + 1
    pending := s.pending }

/-- POWER_ON_RESET (R173). -/
def execPowerOnReset (s : State) : Host.Outcome State Fault Refusal := .next (resetKeeping State.reset.regs s)

/-- SOFT_RESET: the other fields of the write are discarded (R171, R173). -/
def execSoftReset (_ : Bool) (_ : Byte) (s : State) : Host.Outcome State Fault Refusal :=
  .next (resetKeeping (softRegisters s.regs) s)

end Sys2Proof.Machine
end

