-- ==== Sys2Proof/Machine/Dispatch.lean ====
section
/-! DEFINITION. The effect of each command on everything but the queue of waiting commands: one arm per row of
spec/opcode_table.json, in the table's order. -/

namespace Sys2Proof.Machine

def exec (i : Instr) (s : State) : Host.Outcome State Fault Refusal :=
  match i with
  | .powerOnReset => Sys2Proof.Machine.execPowerOnReset s
  | .softReset run ms => Sys2Proof.Machine.execSoftReset run ms s
  | .runSet ms => Sys2Proof.Machine.execRunSet ms s
  | .runClear ms begun => Sys2Proof.Machine.execRunClear ms begun s
  | .sweepMsWrite ms => Sys2Proof.Machine.execSweepMsWrite ms s
  | .anchorLoWrite value => Sys2Proof.Machine.execAnchorLoWrite value s
  | .anchorHiWrite value => Sys2Proof.Machine.execAnchorHiWrite value s
  | .prompt value => Sys2Proof.Machine.execPrompt value s
  | .noticeWrite value => Sys2Proof.Machine.execNoticeWrite value s
  | .noticeEnWrite value => Sys2Proof.Machine.execNoticeEnWrite value s
  | .registerWriteOther offset value => Sys2Proof.Machine.execRegisterWriteOther offset value s
  | .sweepTimerExpiry => Sys2Proof.Machine.execSweepTimerExpiry s
  | .sweepHandRead host => Sys2Proof.Machine.execSweepHandRead host s
  | .slipVisit host => Sys2Proof.Machine.execSlipVisit host s
  | .laneSetup => Sys2Proof.Machine.execLaneSetup s
  | .laneRetire => Sys2Proof.Machine.execLaneRetire s
  | .laneHalt => Sys2Proof.Machine.execLaneHalt s
  | .laneResume => Sys2Proof.Machine.execLaneResume s
  | .mapLoad => Sys2Proof.Machine.execMapLoad s
  | .mapTableRead host => Sys2Proof.Machine.execMapTableRead host s
  | .textPut => Sys2Proof.Machine.execTextPut s
  | .textPutApply host => Sys2Proof.Machine.execTextPutApply host s
  | .textDrop => Sys2Proof.Machine.execTextDrop s
  | .textClear => Sys2Proof.Machine.execTextClear s
  | .carSet => Sys2Proof.Machine.execCarSet s
  | .carJump => Sys2Proof.Machine.execCarJump s
  | .picOpen => Sys2Proof.Machine.execPicOpen s
  | .picWrite => Sys2Proof.Machine.execPicWrite s
  | .picSeal => Sys2Proof.Machine.execPicSeal s
  | .picDrop => Sys2Proof.Machine.execPicDrop s
  | .alertRaise => Sys2Proof.Machine.execAlertRaise s
  | .alertRaiseApply host => Sys2Proof.Machine.execAlertRaiseApply host s
  | .alertEnd => Sys2Proof.Machine.execAlertEnd s
  | .blockEraseEnd => Sys2Proof.Machine.execBlockEraseEnd s
  | .writeHostRead host => Sys2Proof.Machine.execWriteHostRead host s
  | .pageProgramEnd => Sys2Proof.Machine.execPageProgramEnd s
  | .sealReadEnd => Sys2Proof.Machine.execSealReadEnd s
  | .directoryWriteEnd => Sys2Proof.Machine.execDirectoryWriteEnd s
  | .storedDirectoryRead => Sys2Proof.Machine.execStoredDirectoryRead s
  | .airRstFall => Sys2Proof.Machine.execAirRstFall s
  | .airRstRise => Sys2Proof.Machine.execAirRstRise s
  | .airPull begun => Sys2Proof.Machine.execAirPull begun s
  | .transmissionEnd => Sys2Proof.Machine.execTransmissionEnd s
  | .laneFetch lane host => Sys2Proof.Machine.execLaneFetch lane host s
  | .pictureDataRead lane => Sys2Proof.Machine.execPictureDataRead lane s
  | .assemblyComplete => Sys2Proof.Machine.execAssemblyComplete s

end Sys2Proof.Machine
end

