-- ==== Sys2Proof/Machine/Step.lean ====
section
/-! DEFINITION. One step: the command at the front of the queue is taken and executed; with none waiting the block idles
(assumption 14). -/

namespace Sys2Proof.Machine

/-- The queue of waiting commands replaced. -/
def State.withPending (s : State) (cs : List Instr) : State := { s with pending := cs }

/-- One step of the machine. -/
def step (s : State) : Host.Outcome State Fault Refusal :=
  match s.pending with
  | [] => .next s
  | c :: rest => exec c (s.withPending rest)

/-- The command that a word spells put at the front of the queue; unchanged where the word spells none, which is every
word, since the table gives no bits. -/
def State.withFetchWord (s : State) (nbits w : Nat) : State :=
  match Sys2Proof.decodeTableWord nbits w with
  | some c => s.withPending (c :: s.pending)
  | none => s

end Sys2Proof.Machine
end

