-- ==== Sys2Proof/Safety.lean ====
section
/-! DEFINITION. What counts as a sound state of the KX24, in the terms that the statements use: which parts of the state a
command may change, what a slip's completion leaves, and the properties that hold between any two commands. -/

namespace Sys2Proof.Machine

/-! ### Frames: which parts of the state a step changes -/

/-- The parts of the state, one per field of `State`. -/
inductive Part where
  | regs | reader | lanes | maps | frames | link | cursor | text | carousels | store | alerts | posted | ran | draws | pending
  deriving DecidableEq, Repr

/-- Two states agree on a part. -/
def Part.same (s t : State) : Part → Prop
  | .regs => t.regs = s.regs
  | .reader => t.reader = s.reader
  | .lanes => t.lanes = s.lanes
  | .maps => t.maps = s.maps
  | .frames => t.frames = s.frames
  | .link => t.link = s.link
  | .cursor => t.cursor = s.cursor
  | .text => t.text = s.text
  | .carousels => t.carousels = s.carousels
  | .store => t.store = s.store
  | .alerts => t.alerts = s.alerts
  | .posted => t.posted = s.posted
  | .ran => t.ran = s.ran
  | .draws => t.draws = s.draws
  | .pending => t.pending = s.pending

/-- Every part outside the list is unchanged from `s` to `t`. -/
def changesOnly (parts : List Part) (s t : State) : Prop := ∀ p : Part, p ∉ parts → p.same s t

/-- Every lane record but lane `l`'s is unchanged. -/
def otherLanesKept (l : LaneId) (s t : State) : Prop := ∀ k : LaneId, k ≠ l → t.lane k = s.lane k

/-- Of the store nothing but the job entries is changed. -/
def onlyJobs (s t : State) : Prop := t.store = { s.store with jobs := t.store.jobs }

/-- Of the store nothing but user counts, job entries and begun directory writes is changed: every stored byte, every
record of the directory and the operation in progress are kept. -/
def onlyUsers (s t : State) : Prop :=
  t.store = { s.store with slots := t.store.slots, jobs := t.store.jobs, dirWrites := t.store.dirWrites } ∧
    ∀ i : SlotId, (t.slot i).record = (s.slot i).record

/-- Every byte of the picture store reads as before. -/
def bytesKept (s t : State) : Prop := ∀ a : Nat, storeByte t.store.contents a = storeByte s.store.contents a

/-! ### The completion of a slip (R169) -/

/-- The two posted writes of a completion: status, aux, done frame and tag, then hand DONE (R169 steps 1 and 2). -/
def completionWrites (anchor : Addr) (w : WorkRecord) (status : Nat) (aux frame : Word) : List Posted :=
  [.write [⟨addrAt (slipAddr anchor w.slip) 8, leBytes 2 status⟩, ⟨addrAt (slipAddr anchor w.slip) 12, leBytes 4 aux.toNat⟩,
     ⟨addrAt (slipAddr anchor w.slip) 16, leBytes 4 frame.toNat⟩, ⟨addrAt (slipAddr anchor w.slip) 4, leBytes 4 w.tag.toNat⟩],
   .write [⟨slipAddr anchor w.slip, leBytes 1 3⟩]]

/-- The interrupt message of an event of a cause: one, when the cause is clear and its enable set (R172). -/
def messageFor (c : Cause) (r : Registers) : List Posted :=
  if !hasCause r.notice c && hasCause r.noticeEn c then [.interrupt] else []

/-- The registers with a cause set. -/
def withCause (c : Cause) (r : Registers) : Registers := { r with notice := r.notice ||| (1#4 <<< causeBit c) }

/-- Between `s` and `t` the slip of work record `r`, with contents `w`, has been written back with a status, an aux value and
a done frame, after the writes `before` and with the registers `regs` just before it: its record is free, the completion
writes are posted in order, and with NOTIFY set SLIP is set and its message sent (R169 steps 1, 2 and 4). -/
def slipWritten (s t : State) (r : RecId) (w : WorkRecord) (before : List Posted) (regs : Registers) (status : Nat)
    (aux frame : Word) : Prop :=
  t.reader.records = s.reader.records.set r none ∧
  t.regs = (if w.wantsNotice then withCause .slip regs else regs) ∧
  t.posted = s.posted ++ before ++ completionWrites s.regs.anchor w status aux frame ++
    (if w.wantsNotice then messageFor .slip regs else [])

/-- As `slipWritten`, with the slip's entry of the store job queue freed and every other job kept (R169 step 3). -/
def slipReported (s t : State) (r : RecId) (w : WorkRecord) (before : List Posted) (regs : Registers) (status : Nat)
    (aux frame : Word) : Prop :=
  slipWritten s t r w before regs status aux frame ∧ t.store.jobs = s.store.jobs.filter fun j => j.record ≠ r

/-- As `slipReported`, with no other register and nothing else of the Slip Reader changed, and with the frame counter as
it stands for the done frame: the completion of a slip at an event other than a send. -/
def slipCompleted (s t : State) (r : RecId) (w : WorkRecord) (before : List Posted) (status : Nat) (aux : Word) : Prop :=
  slipReported s t r w before s.regs status aux s.frames.counter ∧
    t.reader = { s.reader with records := t.reader.records }

/-- The two writes of a page's return: units read and marks, then hand OPEN (R28). -/
def returnWrites (anchor : Addr) (l : LaneId) (page : Letter) (taken : Nat) (c : Return) : List Posted :=
  [.write [⟨addrAt (tabAddr anchor l page) 2, leBytes 1 (returnMark c)⟩,
     ⟨addrAt (tabAddr anchor l page) 12, leBytes 4 taken⟩],
   .write [⟨tabAddr anchor l page, leBytes 1 0⟩]]

/-- What the return of a lane's held page posts: the two writes, then FEED's message if the tab had NOTIFY set; nothing
for a lane that holds no page. -/
def returnPosts (s : State) (l : LaneId) (c : Return) : List Posted :=
  match (s.lane l).feed.held with
  | none => []
  | some page =>
    returnWrites s.regs.anchor l page (s.lane l).feed.taken c ++
      if (s.lane l).feed.notify then messageFor .feed s.regs else []

/-- The registers after the return of a lane's held page. -/
def returnRegs (s : State) (l : LaneId) : Registers :=
  if (s.lane l).feed.held.isSome && (s.lane l).feed.notify then withCause .feed s.regs else s.regs

/-- A lane's feed state after a RETIRED return, or with no page held: no page, expected letter A, the sequence kept. -/
def retiredFeed (f : Feed) : Feed :=
  match f.held with
  | none => { f with expected := .a }
  | some _ => { f with held := none, expected := .a, byteCount := 0, cursor := 0, taken := 0, notify := false }

/-- The posted write of a lane's mirror record as state `t` holds the lane. -/
def laneMirrorWrite (t : State) (l : LaneId) (counter : Word) : Posted :=
  .write [⟨addrAt t.regs.anchor (Config.laneMirrorOffset + 64 * l.val), laneMirror t l counter⟩]

/-- The posted write of a slot's directory mirror entry as state `t` holds the slot, once RUN has been 1. -/
def slotMirrorWrite (t : State) (i : SlotId) : List Posted :=
  if t.ran then [.write [⟨addrAt t.regs.anchor (Config.directoryMirrorOffset + 16 * i.val), directoryMirror (t.slot i)⟩]]
  else []

/-- The posted write of a place's alert mirror record as state `t` holds the place. -/
def alertMirrorWrite (t : State) (p : PlaceId) : Posted :=
  .write [⟨addrAt t.regs.anchor (Config.alertMirrorOffset + 32 * p.val), alertMirror t p⟩]

/-- The mirrors posted when RUN first becomes 1 after a reset: every directory entry, then the four alert records as FREE, all
zeros (R106, R157; their order is assumption 38). -/
def firstMirrors (s : State) : List Posted :=
  ((List.finRange 64).map fun i : SlotId =>
    .write [⟨addrAt s.regs.anchor (Config.directoryMirrorOffset + 16 * i.val), directoryMirror (s.slot i)⟩]) ++
  (List.finRange 4).map fun p : PlaceId =>
    .write [⟨addrAt s.regs.anchor (Config.alertMirrorOffset + 32 * p.val), List.replicate 32 0⟩]

/-! ### Dispatched slips -/

/-- The dispatched slips of an owner, in dispatch order (R166). -/
def owed : Owner → State → List RecId
  | .lane, s => s.maps.laneSlips
  | .map, s => s.maps.mapLoads
  | .text, s => s.text.queue
  | .carousel, s => s.carousels
  | .store, s => s.store.queue
  | .alert, s => s.alerts.queue

/-- Of the owning blocks nothing but the dispatched slips is changed. -/
def onlyOwed (s t : State) : Prop :=
  t.maps = { s.maps with laneSlips := t.maps.laneSlips, mapLoads := t.maps.mapLoads } ∧
  t.text = { s.text with queue := t.text.queue } ∧
  t.store = { s.store with queue := t.store.queue, jobs := t.store.jobs } ∧
  t.alerts = { s.alerts with queue := t.alerts.queue }

/-- The oldest dispatched slip of an owner is that of work record `r`, with contents `w` of kind `k`, and `rest` follow. -/
def slipAt (o : Owner) (k : Kind) (s : State) (r : RecId) (rest : List RecId) (w : WorkRecord) : Prop :=
  owed o s = r :: rest ∧ s.work r = some w ∧ kindOf w.kind = some k

/-- As `slipAt`, for a slip that names lane `l`. -/
def laneSlipAt (o : Owner) (k : Kind) (s : State) (r : RecId) (rest : List RecId) (w : WorkRecord) (l : LaneId) : Prop :=
  slipAt o k s r rest w ∧ w.lane = some l

/-! ### Sweeps (R162-R165) -/

/-- A sweep has ended: with RUN 1 and a sweep owed the next has begun and the flag is clear, else the reader is IDLE. -/
def sweepEnded (regs : Registers) (a b : Reader) : Prop :=
  if regs.run = true ∧ a.owed = true then b.sweep = .readingHands ∧ b.owed = false
  else b.sweep = .idle ∧ b.owed = a.owed

/-- After a visit that leaves the cursor at `cursor`, with `rest` to visit: the next slip is read into a free record; or no
record is free and the sweep ends with the cursor at that slip; or the sweep ends at its end or, with `last`, for RUN. -/
def sweepGoesOn (regs : Registers) (cursor : SlipId) (rest : List SlipId) (last : Bool) (a b : Reader) : Prop :=
  b.timer = a.timer ∧
  match last, rest with
  | false, j :: js =>
    (∃ q : RecId, b.records[q] = none ∧ b.sweep = .visiting q j js false ∧ b.cursor = cursor ∧ b.owed = a.owed) ∨
    ((∀ q : RecId, b.records[q] ≠ none) ∧ b.cursor = j ∧ sweepEnded regs a b)
  | _, _ => b.cursor = cursor ∧ sweepEnded regs a b

/-- The guard of a slip is true (R165). -/
def guardTrue (s : State) (w : WorkRecord) : Prop :=
  w.guard = 0 ∨ (w.guard = 1 ∧ activeAlerts s = []) ∨ (w.guard = 2 ∧ activeAlerts s ≠ []) ∨
  (w.guard = 3 ∧ ∀ k l, kindOf w.kind = some k → namesLane k = true → w.lane = some l →
    ∀ a ∈ activeAlerts s, l ∉ a.targets)

/-- A slip that a visit passes over, whatever its guard: its hand is not GIVEN, a record already holds it, or it is a
picture slip and all 8 store entries are in use (R164 steps 3 and 4). -/
def passedOver (s : State) (i : SlipId) (slip : List Byte) : Prop :=
  slip.getD 0 0 ≠ 1 ∨ (∃ r v, s.work r = some v ∧ v.slip = i) ∨
  ((∃ k, kindOf (parseSlip i slip).kind = some k ∧ ownerOf k = .store) ∧ 8 ≤ s.store.queue.length + s.store.jobs.length)

/-- The posted write of hand TAKEN. -/
def takenWrite (anchor : Addr) (i : SlipId) : Posted := .write [⟨slipAddr anchor i, leBytes 1 2⟩]

/-! ### The frame being built -/

/-- The plan and the carriage record of an assembly in flight or of a finished frame. -/
def Assembler.held : Assembler → Option (Plan × Carriage)
  | .stopped => none
  | .assembling p c => some (p, c)
  | .ready p c _ => some (p, c)

/-- The fetches of an assembly in flight that have begun and not ended, each with the regions its unit is offered to; a lane
for which a fetch of an earlier assembly is still to end has begun no other (R38). -/
def fetchesBegun (s : State) (begun : List LaneId) : List Straggler :=
  match s.frames.assembler with
  | .assembling p c =>
    (c.toFetch.filter fun l => decide (l ∈ begun) && decide (∀ g ∈ s.frames.stragglers, g.lane ≠ l)).map fun l =>
      ⟨l, candidateLimits p l⟩
  | .stopped => []
  | .ready _ _ _ => []

/-- How many units that lane `l`'s feed supplied some region of the frame has taken. -/
def Assembler.carriedUnits (a : Assembler) (l : LaneId) : Nat :=
  match a.held with
  | none => 0
  | some (_, c) =>
    c.fetched.countP fun f => decide (f.lane = l) && (match f.outcome with | .unit _ _ carried => carried | .nothing _ => false)

/-- The assembly with plan `p` and carriage record `c` is at its fetch stage, has lane `l` and some other lane still to
fetch, lane `l` may be fetched, and no fetch of an abandoned assembly is still to end for it. -/
def fetchUnderWay (s : State) (p : Plan) (c : Carriage) (l : LaneId) : Prop :=
  s.frames.assembler = .assembling p c ∧ c.stage = .fetching ∧ l ∈ c.toFetch ∧ (∃ k ∈ c.toFetch, k ≠ l) ∧
    (∀ g ∈ s.frames.stragglers, g.lane ≠ l) ∧ fetchAllowed p l s = true

/-- The Frame Assembler after a fetch of lane `l` with other lanes still to fetch. -/
def afterFetch (f : FrameControl) (p : Plan) (c : Carriage) (l : LaneId) (o : FetchOutcome) : FrameControl :=
  { f with assembler :=
      .assembling p { c with toFetch := c.toFetch.filter (fun x => x ≠ l), fetched := c.fetched ++ [⟨l, o⟩] } }

/-- A lane's feed state after the return of a page used up, malformed or failed: the other letter is expected (R28). -/
def passedFeed (f : Feed) (page : Letter) : Feed :=
  { f with held := none, expected := otherLetter page, byteCount := 0, cursor := 0, taken := 0, notify := false }

/-- The message of FEED at a return, for a page whose tab had NOTIFY set. -/
def feedMessage (notify : Bool) (r : Registers) : List Posted := if notify then messageFor .feed r else []

/-- The registers after a return, for a page whose tab had NOTIFY set. -/
def feedRegs (notify : Bool) (r : Registers) : Registers := if notify then withCause .feed r else r

/-! ### The beginning of an assembly and its side items (3.4, 3.5, 4.2-4.5) -/

/-- `p` is the frame plan captured from `s` (R48): the counter and the generation; the announce fields of R18; the pool and the
entries of the active map; for each of its lanes whether it is HALTED and its three source fields; and the active alerts but
for the ENDING ones, in ascending order of id. -/
def planCaptured (s : State) (p : Plan) : Prop :=
  p.counter = s.frames.counter ∧ p.generation = s.maps.generation ∧
  (match s.maps.upcoming with
   | none => p.next = s.maps.generation ∧ p.announce = 0
   | some m => p.next = s.maps.generation + 1 ∧ p.announce = m.announce) ∧
  p.poolStart = s.maps.active.poolStart ∧ p.poolSize = s.maps.active.poolSize ∧
  p.lanes.map PlanLane.entry = s.maps.active.entries ∧
  (∀ pl ∈ p.lanes,
    let x := s.lane pl.entry.lane
    (pl.halted = true ↔ x.state = .halted) ∧ pl.audio = x.audioFrom ∧ pl.text = x.textFrom ∧
      pl.picture = x.pictureFrom) ∧
  (∀ a, a ∈ p.alerts ↔ a ∈ activeAlerts s ∧ a.state ≠ .ending) ∧
  p.alerts.Pairwise fun a b => a.id.toNat ≤ b.id.toNat

/-- A lane is in the fetch set of a plan (R34): a lane of its map that is not HALTED and has reserved cells or is the source
of an alert of the plan that takes AUDIO; or a lane outside its map that is such a source. -/
def toBeFetched (p : Plan) (l : LaneId) : Prop :=
  let source := ∃ a ∈ p.alerts, a.take.audio = true ∧ a.source = some l
  match p.lane? l with
  | some pl => pl.halted = false ∧ (0 < pl.entry.reserved ∨ source)
  | none => source

/-- A lane's text state after the TE has taken in the plan's text source (R93). -/
def textReached (planned : Source) (t : TextState) : TextState :=
  if t.source = planned then t
  else
    match planned with
    | .alert id => { t with toggle := !t.toggle, alertPosition := 0, source := .alert id }
    | .own => { t with toggle := !t.toggle, position := 0, pacing := 16, source := .own }

/-- The entry, and its slot, whose airing starts when the CE reaches a lane of the plan, if one does (R127): that of the
pending jump, else that of the position. -/
def airingStart (pl : PlanLane) (x : Lane) : Option (Nat × SlotId) :=
  let e := x.carousel.jump.getD x.carousel.position.entry
  if pl.halted = false ∧ pl.picture = .own ∧ x.pictureFrom = .own ∧ x.carousel.airing = none then
    x.carousel.entries[e]?.map fun i => (e, i)
  else none

/-- The alert showing of a lane after the CE has taken in the plan's picture source (R136). -/
def showingReached (planned : Source) (old : Option Showing) : Option Showing :=
  match planned with
  | .own => none
  | .alert id => if old.map Showing.alert = some id then old else some ⟨id, 0⟩

/-- A lane of the plan after the TE and the CE have reached it in state `s`: nothing but its text source, its alert showing
and the start of an airing is changed (R93, R136, R127). -/
def laneReached (s : State) (pl : PlanLane) (x : Lane) : Lane :=
  { x with
    text := textReached pl.text x.text
    carousel := match airingStart pl x with
      | none => { x.carousel with showing := showingReached pl.picture x.carousel.showing }
      | some (e, i) =>
        { x.carousel with showing := showingReached pl.picture x.carousel.showing
                          airing := some ⟨i, (s.slot i).record.version, 0⟩, position := ⟨.on, e⟩, jump := none } }

/-- The picture that a lane of the plan shows in the frame (R128): its own airing unless HALTED, or the alert's picture at the
offset of the showing. -/
def pictureShown (p : Plan) (pl : PlanLane) (t : State) : Option PictureChoice :=
  match pl.picture with
  | .own =>
    if pl.halted then none
    else (t.lane pl.entry.lane).carousel.airing.map fun a =>
      { alert := none, slot := a.slot, version := a.version, base := slotBase t a.slot, offset := a.offset,
        remaining := slotLength t a.slot - a.offset }
  | .alert id =>
    (p.alert? id).bind fun a => (t.lane pl.entry.lane).carousel.showing.bind fun sh => a.picture.map fun v =>
      { alert := some id, slot := v.1, version := v.2, base := slotBase t v.1, offset := sh.offset,
        remaining := slotLength t v.1 - sh.offset }

/-- What a lane of the plan, reached in `t`, brings into pool sharing (R71, R72, R80): it is urgent when its text or its picture
is an alert's, and its demand is its text want and its picture want less its spare cells. -/
def sharingInput (p : Plan) (c : Carriage) (t : State) (pl : PlanLane) : PoolLane :=
  { lane := pl.entry.lane
    urgent := decide (pl.text ≠ .own) || decide (pl.picture ≠ .own)
    demand := (textWant p pl (t.lane pl.entry.lane)).isSome.toNat + pictureWant (pictureShown p pl t) -
      spareCells pl.entry (audioOutcome p c pl)
    share := pl.entry.share, burst := pl.entry.burst, credit := (t.lane pl.entry.lane).credit, grant := 0,
    saturated := false }

/-- The carriage of a lane of the plan once side items are under way: the audio outcome of R50; the grant, credit and mark that
pool sharing gives (R78); the fragment due, if a side cell is left for it, and the cells left for pictures (R82); the picture
chosen, with no piece laid yet. -/
def laneShared (p : Plan) (c : Carriage) (cursor : LaneId) (t : State) (pl : PlanLane) (lc : LaneCarriage) : Prop :=
  let side := spareCells pl.entry lc.audio + lc.grant
  let due := textWant p pl (t.lane pl.entry.lane)
  lc.lane = pl.entry.lane ∧ lc.audio = audioOutcome p c pl ∧
  (∃ z ∈ (sharePool p.poolSize (rotating cursor (p.lanes.map (sharingInput p c t)))).1, z.lane = pl.entry.lane ∧
    lc.grant = z.grant ∧ lc.credit = z.credit ∧ lc.saturated = z.saturated) ∧
  lc.fragment = (if side = 0 then none else due) ∧ lc.pictureCells = side - due.isSome.toNat ∧
  lc.picture = pictureShown p pl t ∧ lc.pieces = [] ∧ lc.stalled = false

/-- Between `u` and `t` the fetch stage of an assembly has ended and its side items are under way with carriage record `c`:
lanes outside the plan are kept, each lane of the plan has been reached, each airing that starts is one more user of its slot,
and the wants are stated and the pool shared (R50, R52, R53, R78, R79). The lanes of the plan are distinct in every plan
captured from a map. -/
def sideItemsLaid (p : Plan) (c : Carriage) (u t : State) : Prop :=
  c.stage = .items ∧ c.toFetch = [] ∧ c.lanes.map LaneCarriage.lane = p.lanes.map (fun pl => pl.entry.lane) ∧
  c.cursorNext = nextCursor u.cursor (p.lanes.map fun pl => pl.entry.lane) ∧
  c.toRead = (c.lanes.filter fun lc =>
    decide (0 < pictureWant lc.picture) && decide (0 < lc.pictureCells)).map LaneCarriage.lane ∧
  (∀ l, (∀ pl ∈ p.lanes, pl.entry.lane ≠ l) → t.lane l = u.lane l) ∧
  t.store = { u.store with slots := t.store.slots } ∧ (∀ i, (t.slot i).record = (u.slot i).record) ∧
  (∃ mirrors, t.posted = u.posted ++ mirrors) ∧
  ((p.lanes.map fun pl => pl.entry.lane).Nodup →
    (∀ pl ∈ p.lanes, t.lane pl.entry.lane = laneReached u pl (u.lane pl.entry.lane) ∧
      ∃ lc ∈ c.lanes, laneShared p c u.cursor t pl lc) ∧
    ∀ i, (t.slot i).users = (u.slot i).users +
      p.lanes.countP fun pl => decide ((airingStart pl (u.lane pl.entry.lane)).map Prod.snd = some i))

/-- Between `u`, in which any due switch-over is made, and `t` an assembly has begun with plan `p` and carriage record `c`
(R48, R50): the plan is captured, and the lanes of its fetch set are to be fetched in ascending order; with none, its side
items are under way at once (assumption 16). -/
def assemblyBegun (u t : State) (p : Plan) (c : Carriage) : Prop :=
  t.frames = { u.frames with assembler := .assembling p c } ∧ t.maps = u.maps ∧ planCaptured u p ∧
  ∃ lanes : List LaneId, lanes.Pairwise (· < ·) ∧ (∀ l, l ∈ lanes ↔ toBeFetched p l) ∧
    (lanes ≠ [] →
      c = { stage := .fetching, toFetch := lanes, fetched := [], lanes := [], toRead := [], cursorNext := u.cursor } ∧
        t.lanes = u.lanes ∧ t.store = u.store ∧ t.posted = u.posted) ∧
    (lanes = [] → c.fetched = [] ∧ sideItemsLaid p c u t)

/-- `n` is the highest level of some alerts, 0 for none (R55, R61). -/
def highestLevel (as : List Alert) (n : Nat) : Prop :=
  (∀ a ∈ as, a.level ≤ n) ∧ (n = 0 ∨ ∃ a ∈ as, a.level = n)

/-- The pool cells granted to a lane of the plan. -/
def grantAt (c : Carriage) (pl : PlanLane) : Nat :=
  match c.lane? pl.entry.lane with
  | some lc => lc.grant
  | none => 0

/-- A carriage record fits its plan: the audio cells of each lane of the plan lie within its region and its items within its
side cells; regions and grants fit the payload; and the alert directory has room for the plan's alerts. -/
def carriageFits (p : Plan) (c : Carriage) : Prop :=
  (∀ pl ∈ p.lanes, ∃ lc, c.lane? pl.entry.lane = some lc ∧ lc.audio.cells ≤ pl.entry.reserved ∧
    (itemBytes lc).length ≤ 16 * (pl.entry.reserved - lc.audio.cells + lc.grant)) ∧
  (p.lanes.map fun pl => pl.entry.reserved + grantAt c pl).sum ≤ 1191 ∧
  p.alerts.length ≤ 4

/-! ### Commits (3.7, 7.2) -/

/-- A lane's own airing ends at the send of its carriage: a LAST piece of the airing in progress was carried (R130). -/
def airingEnds (lc : LaneCarriage) (c : Carousel) : Option SlotId :=
  match lc.picture, c.airing with
  | some ch, some a =>
    if ch.alert = none ∧ a.slot = ch.slot ∧ a.version = ch.version ∧ anyLast lc.pieces = true then some a.slot else none
  | _, _ => none

/-- A lane's carousel after the send of its carriage (R65, R130, R137). With no piece it is kept. Own pieces of the airing in
progress advance its offset by their data; with LAST the airing ends, the position becomes NEXT of the pending jump or else,
an ON position, of the entry after it, wrapping to 0, and the jump is used. Alert pieces advance the offset of the showing of
that alert, to 0 with LAST. -/
def carouselSent (lc : LaneCarriage) (c : Carousel) : Carousel :=
  let data := (lc.pieces.map fun q => q.data.length).sum
  match lc.pieces, lc.picture with
  | [], _ => c
  | _, none => c
  | _, some ch =>
    match ch.alert, c.airing, c.showing with
    | none, none, _ => c
    | none, some a, _ =>
      if a.slot = ch.slot ∧ a.version = ch.version then
        if anyLast lc.pieces then
          { c with
            airing := none
            position := match c.jump, c.position.mark with
              | some e, _ => ⟨.next, e⟩
              | none, .on => ⟨.next, if c.position.entry + 1 < c.entries.length then c.position.entry + 1 else 0⟩
              | none, .next => c.position
            jump := none }
        else { c with airing := some { a with offset := a.offset + data } }
      else c
    | some _, _, none => c
    | some id, _, some sh =>
      if sh.alert = id then { c with showing := some ⟨id, if anyLast lc.pieces then 0 else sh.offset + data⟩ } else c

/-- The send of a frame with plan `p` frees an alert: it is ENDING and the plan does not hold it (R156). -/
def freedBy (p : Plan) (a : Alert) : Bool := decide (a.state = .ending) && !p.alerts.any fun b => decide (b.id = a.id)

/-- Between `s` and `t` a void frame has been sent (R60, R62, R67, R18, R21): it is in transmission; frame counter and void
count rise by one; the announce count it carried falls; every lane's pacing count rises up to 16; the frame mirror is written;
and a MAP_LOAD whose switch-over was made completes OK with the counter it carried. -/
def voidSent (s t : State) : Prop :=
  let n := s.frames.counter
  let mirror : Posted := .write [⟨addrAt s.regs.anchor 0x2400, frameMirror t n⟩]
  t.link = { s.link with airData := .sending (voidFrame s) } ∧
  t.frames = { s.frames with counter := n + 1, voidCount := s.frames.voidCount + 1 } ∧
  (∀ l, t.lane l = { s.lane l with text := { (s.lane l).text with pacing := min ((s.lane l).text.pacing + 1) 16 } }) ∧
  t.maps = { s.maps with upcoming := s.maps.upcoming.map fun p => { p with announce := p.announce - 1 }, switched := none } ∧
  (s.maps.switched = none → t.posted = s.posted ++ [mirror] ∧ changesOnly [.lanes, .maps, .frames, .link, .posted] s t) ∧
  (∀ r w, s.maps.switched = some r → s.work r = some w → slipReported s t r w [mirror] s.regs 0 n n ∧ onlyJobs s t ∧
    changesOnly [.regs, .reader, .lanes, .maps, .frames, .link, .store, .posted] s t)

/-! ### Store jobs (6.3, 6.4) -/

/-- The first operation of a job, if it has one to make. -/
def Job.firstOperation (j : Job) : Option Operation :=
  match j.work with
  | .erases (b :: _) => some (.erase b)
  | .erases [] => none
  | .programs (p :: _) => some (.hostRead p)
  | .programs [] => none
  | .sealRead _ => some .sealRead

/-- No job is RUNNING, and none of those in the store, nor a slot of the recovery list, could be chosen. -/
def storeIdle (s : State) : Prop :=
  s.store.running = none ∧ (∀ e ∈ s.store.recovery, recoveryReady s e = false) ∧
    ∀ j ∈ s.store.jobs, eligible s j = false

/-- The store's choice (R111), from its state in `u` to that in `t`. With an operation in progress nothing is chosen. Else the
first slot of the recovery list whose bank is not held starts its next erase; with none, the oldest QUEUED or PAUSED job whose
bank is not held becomes RUNNING with its first operation; with none of either, nothing. A job with no operation to make, which
ends at once, is left open here. -/
def storeChose (u t : State) : Prop :=
  t.store = { u.store with slots := t.store.slots, jobs := t.store.jobs, running := t.store.running,
                           dirWrites := t.store.dirWrites } ∧
  (u.store.running ≠ none →
    t.store.running = u.store.running ∧ t.store.jobs = u.store.jobs ∧ t.store.dirWrites = u.store.dirWrites) ∧
  (u.store.running = none →
    (∀ e, u.store.recovery.find? (recoveryReady u) = some e →
      t.store.jobs = u.store.jobs ∧ t.store.dirWrites = u.store.dirWrites ∧
        ∀ b bs, e.blocks = b :: bs → t.store.running = some ⟨.recovery e.slot, .erase b⟩) ∧
    (u.store.recovery.find? (recoveryReady u) = none → u.store.jobs.find? (eligible u) = none →
      t.store.running = none ∧ t.store.jobs = u.store.jobs ∧ t.store.dirWrites = u.store.dirWrites) ∧
    (∀ j op, u.store.recovery.find? (recoveryReady u) = none → u.store.jobs.find? (eligible u) = some j →
      j.firstOperation = some op →
      t.store.running = some ⟨.job j.record, op⟩ ∧ t.store.dirWrites = u.store.dirWrites ∧
        t.store.jobs = u.store.jobs.map fun k => if k.record = j.record then { k with state := .running } else k))

/-- Between `s` and `v` nothing of the store but user counts has changed, and what the fall of a CONDEMNED slot's count to 0
leads to: its directory write to DROPPING begins and its WAITING job becomes QUEUED (R108). -/
def droppingBegun (s v : State) : Prop :=
  (∀ i, (v.slot i).record = (s.slot i).record) ∧
  ∃ begun : List SlotId,
    v.store = { s.store with
      slots := v.store.slots
      dirWrites := s.store.dirWrites ++ begun.map fun i => ⟨i, .toDropping, none⟩
      jobs := s.store.jobs.map fun j =>
        if j.slot ∈ begun ∧ j.state = .waiting then { j with state := .queued } else j } ∧
    (∀ i ∈ begun, (s.slot i).record.state = .condemned ∧ (v.slot i).users = 0) ∧
    ∀ i, (s.slot i).record.state = .condemned → 0 < (s.slot i).users → (v.slot i).users = 0 → i ∈ begun

/-- The jobs of a work record are gone from a state's store job queue. -/
def withoutJob (r : RecId) (s : State) : State :=
  s.setStore { s.store with jobs := s.store.jobs.filter fun j => j.record ≠ r }

/-- Between `s` and `t` the job `j` has entered the queue behind the others, after the writes `writes`. With a job RUNNING
it waits; on an idle store whose jobs are of other slips it starts its first operation, or waits when its bank is held or
its state is WAITING (R110, R111). -/
def jobEntered (s t : State) (j : Job) (writes : List Posted) : Prop :=
  (s.store.running.isSome = true →
    t.store.jobs = s.store.jobs ++ [j] ∧ t.store.running = s.store.running ∧ t.posted = s.posted ++ writes ∧
      t.reader = s.reader ∧ t.regs = s.regs) ∧
  (storeIdle s → (∀ k ∈ s.store.jobs, k.record ≠ j.record) → ∀ op, j.firstOperation = some op →
    (if bankHeld s j.bank = true ∨ j.state = .waiting then
      t.store.jobs = s.store.jobs ++ [j] ∧ t.store.running = none
    else
      t.store.jobs = s.store.jobs ++ [{ j with state := .running }] ∧ t.store.running = some ⟨.job j.record, op⟩) ∧
      t.posted = s.posted ++ writes ∧ t.reader = s.reader ∧ t.regs = s.regs)

/-- Of the store's slots nothing but slot `i` is changed, in the working copy and in the stored directory, and `i`'s record
is `d` in both. -/
def slotRecorded (s t : State) (i : SlotId) (d : DirRecord) : Prop :=
  (t.slot i).record = d ∧ (∀ k, k ≠ i → t.slot k = s.slot k) ∧ t.store.stored = s.store.stored.set i d

/-- Blocks `first` to `first + count - 1` qualify for a slot with the given alert flag (R107): they lie in its region and in
one bank, and no slot that has blocks has any of them. -/
def runFits (s : State) (alertFlag : Bool) (first count : Nat) : Prop :=
  (if alertFlag then first + count ≤ 64
    else (64 ≤ first ∧ first + count ≤ 512) ∨ (512 ≤ first ∧ first + count ≤ 1016)) ∧
  ∀ (i : SlotId) (e : Extent), (s.slot i).record.extent = some e →
    first + count ≤ e.first ∨ e.first + e.count ≤ first

/-! ### Alerts (8.1-8.5) -/

/-- Whether a raise takes a field. -/
def Raise.takes (q : Raise) : Field → Bool
  | .audio => q.take.audio
  | .text => q.take.text
  | .picture => q.take.picture

/-- Command `c` decides the ALERT_RAISE of work record `r`, with contents `w`, in state `s` (R144, R145): its dispatch, when it
has no text to read, or the end of its text read. `rest` are the alert slips then left dispatched. -/
def decidesRaise (c : Instr) (s : State) (r : RecId) (rest : List RecId) (w : WorkRecord) : Prop :=
  (c = .alertRaise ∧ slipAt .alert .alertRaise s r rest w ∧ s.alerts.checking = none ∧
    ((raiseOf w).take.text = false ∨ (raiseOf w).textLength = 0 ∨ 128 < (raiseOf w).textLength)) ∨
  ∃ h, c = .alertRaiseApply h ∧ s.alerts.checking = some r ∧ s.work r = some w ∧ s.alerts.queue = rest

/-- What the text read of a raise comes to at the command that decides it. -/
def textAt (c : Instr) (q : Raise) : TextRead :=
  match c with
  | .alertRaiseApply h => readAlertText h q
  | _ => .notMade

/-- What the send of a frame with plan `p` and counter `counter` makes of an alert record place (R142, R149, R156). -/
def placeAfterSend (p : Plan) (counter : Word) (x : Option Alert) : Option Alert :=
  match x with
  | none => none
  | some a =>
    match a.state, (p.alerts.any fun b => b.id = a.id) with
    | .raised, true => some { a with state := .onAir, onAirFrame := some counter }
    | .ending, false => none
    | _, _ => some a

/-! ### Properties of every state between commands -/

/-- RUN is 0 exactly when the assembler is STOPPED, and then the interval timer is stopped (R42, R43, R162). -/
def RunSound (s : State) : Prop :=
  (s.regs.run = false ↔ s.frames.assembler = .stopped) ∧ (s.regs.run = false → s.reader.timer = none)

/-- A transmission is in progress only on a link that is UP (R45, R46). -/
def LinkSound (s : State) : Prop := ∀ f, s.link.airData = .sending f → s.link.airRstN = true

/-- The anchor is a multiple of 4096 (R159). -/
def AnchorSound (s : State) : Prop := s.regs.anchor.toNat % 4096 = 0

/-- The list of the store's bytes is in its canonical form. -/
def StoreSound (s : State) : Prop := storeWf s.store.contents = true

/-- A map as R13 and R17 give it: lanes in ascending order, at most 1191 reserved cells and shares of at most 1024 in all,
fields within their ranges, the pool start and size that the sum of reserved cells gives, and each lane with reserved cells
starting at the cell after the regions of the lanes below it, from cell 9. -/
def AirMap.Sound (m : AirMap) : Prop :=
  (m.entries.map MapEntry.lane).Pairwise (· < ·) ∧
  (m.entries.map MapEntry.reserved).sum ≤ 1191 ∧
  (m.entries.map MapEntry.share).sum ≤ 1024 ∧
  (∀ e ∈ m.entries, e.reserved ≤ 255 ∧ e.share ≤ 1023 ∧ 1 ≤ e.burst ∧ e.burst ≤ 255) ∧
  m.poolStart = 9 + (m.entries.map MapEntry.reserved).sum ∧
  m.poolSize = 1191 - (m.entries.map MapEntry.reserved).sum ∧
  ∀ before e after, m.entries = before ++ e :: after →
    e.start = if e.reserved = 0 then 0 else 9 + (before.map MapEntry.reserved).sum

/-- A map has room for an active alert: every target has an entry, with reserved cells for the alert's width when it takes
AUDIO (R16, R145, R146). -/
def AirMap.carries (m : AirMap) (a : Alert) : Prop :=
  ∀ l ∈ a.targets, ∃ e, m.entry? l = some e ∧ (a.take.audio = true → a.width ≤ e.reserved)

/-- The active map and any pending map are as R13 gives them and have room for every active alert, and the announce count is at
most 16, in the pending map and in the plan of a held frame (R18, R48). -/
def MapsSound (s : State) : Prop :=
  s.maps.active.Sound ∧ (∀ p, s.maps.upcoming = some p → p.map.Sound ∧ p.announce ≤ 16) ∧
  (∀ a ∈ activeAlerts s, s.maps.active.carries a ∧ ∀ p, s.maps.upcoming = some p → p.map.carries a) ∧
  ∀ p c, s.frames.assembler.held = some (p, c) → p.announce ≤ 16

/-- The value a source field has by the restore log: the alert of the topmost entry for the lane and field, else OWN; the
log stands oldest first (R143). -/
def logSource : List LogEntry → LaneId → Field → Source
  | [], _, _ => .own
  | e :: es, l, f =>
    match logSource es l f with
    | .alert id => .alert id
    | .own => if e.lane = l ∧ e.field = f then .alert e.alert else .own

/-- Every entry's previous value is what the entries below it give for its lane and field (R143); `below` are the entries
already passed, oldest first. -/
def logChained : List LogEntry → List LogEntry → Prop
  | _, [] => True
  | below, e :: es => e.previous = logSource below e.lane e.field ∧ logChained (below ++ [e]) es

/-- The alert of a log entry is RAISED or ON_AIR, and takes that field of that lane. -/
def holdsField (s : State) (e : LogEntry) : Prop :=
  ∃ a ∈ activeAlerts s, a.id = e.alert ∧ a.state ≠ .ending ∧ e.lane ∈ a.targets ∧ e.field ∈ a.take.fields

/-- The restore log, the alert records and the crosspoint agree (R143): at most 64 entries, no two for one alert, lane and
field, each of a RAISED or ON_AIR alert that takes that field of that lane; no two active alerts with one id, and the
targets of each in ascending order; every source field as the log gives it, and every previous value as the entries below
give it. -/
def LogSound (s : State) : Prop :=
  s.alerts.log.length ≤ 64 ∧
  (s.alerts.log.map fun e => (e.alert, e.lane, e.field)).Nodup ∧
  (∀ e ∈ s.alerts.log, holdsField s e) ∧
  ((activeAlerts s).map Alert.id).Nodup ∧
  (∀ a ∈ activeAlerts s, a.targets.Pairwise (· < ·)) ∧
  (∀ (l : LaneId) (f : Field), (s.lane l).sourceOf f = logSource s.alerts.log l f) ∧
  logChained [] s.alerts.log

/-- A lane's credit ceiling in a map: its burst times 1024, and 0 for a lane without an entry (R70). -/
def creditCap (m : AirMap) (l : LaneId) : Nat :=
  match m.entry? l with
  | some e => e.burst * 1024
  | none => 0

/-- Every credit lies within its lane's ceiling in the active map (R70). While a frame is held, its plan's map is the active
map, and every credit it would commit lies within the same ceiling. -/
def CreditSound (s : State) : Prop :=
  (∀ l, (s.lane l).credit ≤ creditCap s.maps.active l) ∧
  ∀ p c, s.frames.assembler.held = some (p, c) →
    p.lanes.map PlanLane.entry = s.maps.active.entries ∧ ∀ lc ∈ c.lanes, lc.credit ≤ creditCap s.maps.active lc.lane

/-- Every slot's user count is the number of references to it (R108): carousel entries that name it, airings of it in
progress, and active alerts with it as their picture; and the hold count is the number of active alerts with a picture (R109).
With it, what makes it hold: an UNUSED lane references no slot; and until the stored directory has been read the working copy
holds no slot and the store has nothing to do (assumption 5). -/
def UsersSound (s : State) : Prop :=
  (∀ i, (s.slot i).users = (s.lanes.toList.map fun x => (carouselUses x.carousel).count i).sum +
    (activeAlerts s).countP fun a => decide (a.picture.map Prod.fst = some i)) ∧
  s.store.hold = ((activeAlerts s).countP fun a => a.picture.isSome) ∧
  (∀ l, (s.lane l).state = .unused → (s.lane l).carousel.entries = [] ∧ (s.lane l).carousel.airing = none) ∧
  (s.store.loaded = false → (∀ i, s.slot i = .vacant) ∧ s.store.jobs = [] ∧ s.store.running = none ∧
    s.store.recovery = [] ∧ s.store.dirWrites = [])

/-- The work record of the slip that an active alert has still to complete: its ALERT_RAISE while it is RAISED, its ALERT_END
while it is ENDING (R149, R156). -/
def Alert.waiting (a : Alert) : Option RecId :=
  match a.state with
  | .raised => some a.raiseRecord
  | .onAir => none
  | .ending => a.endRecord

/-- The work records that the blocks hold: of dispatched slips, of slips in their checks or in a read, of a MAP_LOAD whose map is
pending or switched over, of store jobs, and of the slips that alerts have still to complete (R166, R167). -/
def heldRecords (s : State) : List RecId :=
  s.maps.laneSlips ++ s.maps.mapLoads ++ s.maps.checking.toList ++ (s.maps.upcoming.map PendingMap.record).toList ++
  s.maps.switched.toList ++ s.text.queue ++ s.text.putting.toList ++ s.carousels ++ s.store.queue ++
  s.store.jobs.map Job.record ++ s.alerts.queue ++ s.alerts.checking.toList ++ (activeAlerts s).filterMap Alert.waiting

/-- The work records of the slips that directory writes under way will complete. -/
def writingRecords (s : State) : List RecId := (s.store.dirWrites.filterMap DirWrite.completes).map Completion.record

/-- Every work record that a block holds is in use and is held once, so that a slip has at most one job (R110, R166, R167); a
visit reads into a record that holds no slip (R164). With it, what makes it hold: a directory write completes the slip of a job
that is at its end, no two the same, and the store is at work for none of these (assumption 10). -/
def RecordsSound (s : State) : Prop :=
  (heldRecords s).Nodup ∧ (∀ r ∈ heldRecords s, s.work r ≠ none) ∧
  (∀ r i rest last, s.reader.sweep = .visiting r i rest last → s.work r = none) ∧
  (writingRecords s).Nodup ∧ (∀ r ∈ writingRecords s, ∃ j ∈ s.store.jobs, j.record = r ∧ j.state = .ended) ∧
  ∀ r op, s.store.running = some ⟨.job r, op⟩ → r ∉ writingRecords s

/-- A lane's carriage keeps within its lane of the plan: its audio cells in its region, its fragment of one cell and its pieces
in its side cells, each piece in its own cells (R51, R53, R82, R83). -/
def laneFits (e : MapEntry) (lc : LaneCarriage) : Prop :=
  lc.audio.cells ≤ e.reserved ∧ (∀ f, lc.fragment = some f → f.bytes.length = 16) ∧
  lc.fragment.isSome.toNat + lc.pictureCells ≤ spareCells e lc.audio + lc.grant ∧
  (lc.pieces.map Piece.cells).sum ≤ lc.pictureCells ∧ ∀ q ∈ lc.pieces, q.data.length + 8 ≤ 16 * q.cells

/-- What holds of a held frame: its plan has the pool of the active map and at most 4 alerts; an alert's width lies within each
region whose audio it takes; a unit fetched has at most the data its length says; once side items are under way the carriage
fits the plan, as a whole and lane by lane; and a finished frame is the one formed from its plan and carriage. -/
def FrameSound (s : State) : Prop :=
  ∀ p c, s.frames.assembler.held = some (p, c) →
    p.poolStart = s.maps.active.poolStart ∧ p.poolSize = s.maps.active.poolSize ∧ p.alerts.length ≤ 4 ∧
    (∀ pl ∈ p.lanes, ∀ id a l, pl.audio = .alert id → p.alert? id = some a → a.source = some l →
      a.width ≤ pl.entry.reserved) ∧
    (∀ f ∈ c.fetched, ∀ len data carried, f.outcome = .unit len data carried → data.length ≤ len) ∧
    (c.stage = .items → carriageFits p c ∧ c.lanes.map LaneCarriage.lane = p.lanes.map (fun pl => pl.entry.lane) ∧
      ∀ pl ∈ p.lanes, ∀ lc, c.lane? pl.entry.lane = some lc → laneFits pl.entry lc) ∧
    ∀ frame, s.frames.assembler = .ready p c frame → c.stage = .items ∧ c.toRead = [] ∧ frame = assembledFrame p c

/-- What holds between any two commands. -/
structure Sound (s : State) : Prop where
  run    : RunSound s
  link   : LinkSound s
  anchor : AnchorSound s
  store  : StoreSound s
  work   : RecordsSound s
  maps   : MapsSound s
  credit : CreditSound s
  log    : LogSound s
  users  : UsersSound s
  frame  : FrameSound s

end Sys2Proof.Machine
end

