-- ==== Sys2Proof/Certificates/Slice0/Obligations.lean ====
section
/-! DEFINITION. The statements for the provers. Each says what a command or an operation does on every state that meets its
hypotheses, and what it leaves unchanged. -/

open Sys2Proof Sys2Proof.Machine

/-! ### The queue of commands -/

/-- A step takes the command at the front of the queue and executes it on the state with the queue's rest. The queue is the
model's own (assumption 14). -/
def Obligations.StepExecutesTheFrontCommand : Prop :=
  ∀ (c : Instr) (rest : List Instr) (s : State), step (s.withPending (c :: rest)) = exec c (s.withPending rest)

/-- Every command answers a next state on every state, leaves the queue of waiting commands alone, and takes back nothing
of what the part has posted: it only posts more behind it. That no command ends in a fault or a refusal is assumption 2. -/
def Obligations.EveryCommandAnswersAndOnlyAppends : Prop :=
  ∀ (c : Instr) (s : State), ∃ t, exec c s = .next t ∧ t.pending = s.pending ∧ ∃ more, t.posted = s.posted ++ more

/-- An event that cannot occur in a state changes nothing there, by the model's choice (assumption 1): a slip's dispatch with
no such slip at the front of its owner's dispatched slips, or while its owner is still busy with one whose read has not
ended; the end of a read, of an erase, of a program or of a directory write that is not under way; a fetch or a picture
answer that no assembly awaits; the expiry of a stopped timer; the fall of a low AIR_RST_N; the end of no transmission. -/
def Obligations.EventsThatCannotOccurChangeNothing : Prop :=
  ∀ (s : State) (h : HostView) (l : LaneId),
    (∀ q ∈ [(Instr.laneSetup, Owner.lane, Kind.laneSetup), (.laneRetire, .lane, .laneRetire), (.laneHalt, .lane, .laneHalt),
        (.laneResume, .lane, .laneResume), (.textPut, .text, .textPut), (.textDrop, .text, .textDrop),
        (.textClear, .text, .textClear), (.carSet, .carousel, .carSet), (.carJump, .carousel, .carJump)],
      (∀ r rest w k, ¬ laneSlipAt q.2.1 q.2.2 s r rest w k) → exec q.1 s = .next s) ∧
    (∀ q ∈ [(Instr.picOpen, Owner.store, Kind.picOpen), (.picWrite, .store, .picWrite), (.picSeal, .store, .picSeal),
        (.picDrop, .store, .picDrop), (.alertRaise, .alert, .alertRaise), (.alertEnd, .alert, .alertEnd)],
      (∀ r rest w, ¬ slipAt q.2.1 q.2.2 s r rest w) → exec q.1 s = .next s) ∧
    (s.text.putting ≠ none → ∀ c ∈ [Instr.textPut, .textDrop, .textClear], exec c s = .next s) ∧
    (s.store.loaded = false → ∀ c ∈ [Instr.picOpen, .picWrite, .picSeal, .picDrop], exec c s = .next s) ∧
    (s.alerts.checking ≠ none → ∀ c ∈ [Instr.alertRaise, .alertEnd], exec c s = .next s) ∧
    ((s.maps.mapLoads = [] ∨ s.maps.checking ≠ none) → exec .mapLoad s = .next s) ∧
    (s.maps.checking = none → exec (.mapTableRead h) s = .next s) ∧
    (s.text.putting = none → exec (.textPutApply h) s = .next s) ∧
    (s.alerts.checking = none → exec (.alertRaiseApply h) s = .next s) ∧
    (s.reader.sweep ≠ .readingHands → exec (.sweepHandRead h) s = .next s) ∧
    ((∀ r i rest last, s.reader.sweep ≠ .visiting r i rest last) → exec (.slipVisit h) s = .next s) ∧
    (s.reader.timer = none → exec .sweepTimerExpiry s = .next s) ∧
    ((∀ x b, s.store.running ≠ some ⟨x, .erase b⟩) → exec .blockEraseEnd s = .next s) ∧
    ((∀ r p, s.store.running ≠ some ⟨.job r, .hostRead p⟩) → exec (.writeHostRead h) s = .next s) ∧
    ((∀ r a d, s.store.running ≠ some ⟨.job r, .program a d⟩) → exec .pageProgramEnd s = .next s) ∧
    ((∀ r, s.store.running ≠ some ⟨.job r, .sealRead⟩) → exec .sealReadEnd s = .next s) ∧
    (s.store.dirWrites = [] → exec .directoryWriteEnd s = .next s) ∧
    ((∀ g ∈ s.frames.stragglers, g.lane ≠ l) →
      (∀ p c, s.frames.assembler = .assembling p c → c.stage = .fetching → l ∉ c.toFetch) →
      exec (.laneFetch l h) s = .next s) ∧
    ((∀ p c, s.frames.assembler = .assembling p c → c.stage = .items → l ∉ c.toRead) →
      exec (.pictureDataRead l) s = .next s) ∧
    ((∀ p c, s.frames.assembler = .assembling p c → c.stage = .items → c.toRead ≠ []) →
      exec .assemblyComplete s = .next s) ∧
    (s.link.airRstN = false → exec .airRstFall s = .next s) ∧
    ((∀ f, s.link.airData ≠ .sending f) → exec .transmissionEnd s = .next s)

/-! ### Registers (9.6, 9.7, 10.2) -/

/-- While RUN is 0 a write of ANCHOR_LO replaces bits 31-12 of the anchor, its lowest 12 bits becoming 0, and a write of
ANCHOR_HI replaces bits 63-32; while RUN is 1 both are ignored. A write of NOTICE clears each cause written 1 and keeps the
others. A write of NOTICE_EN writes the four enables, and sends one interrupt message for each enable that it changes from
clear to set while its cause is set. A write above offset 0x14 is ignored. -/
def Obligations.RegisterWritesActOnTheirFields : Prop :=
  (∀ (v : Word) (s : State),
     (s.regs.run = false →
       (∃ t, exec (.anchorLoWrite v) s = .next t ∧ changesOnly [.regs] s t ∧ t.regs = { s.regs with anchor := t.regs.anchor } ∧
         ∀ i < 64, t.regs.anchor.getLsbD i =
           if i < 12 then false else if i < 32 then v.getLsbD i else s.regs.anchor.getLsbD i) ∧
       (∃ t, exec (.anchorHiWrite v) s = .next t ∧ changesOnly [.regs] s t ∧ t.regs = { s.regs with anchor := t.regs.anchor } ∧
         ∀ i < 64, t.regs.anchor.getLsbD i = if i < 32 then s.regs.anchor.getLsbD i else v.getLsbD (i - 32))) ∧
     (s.regs.run = true → exec (.anchorLoWrite v) s = .next s ∧ exec (.anchorHiWrite v) s = .next s)) ∧
  (∀ (v : Word) (s : State),
     (∃ t, exec (.noticeWrite v) s = .next t ∧ changesOnly [.regs] s t ∧ t.regs = { s.regs with notice := t.regs.notice } ∧
       ∀ c, hasCause t.regs.notice c = (hasCause s.regs.notice c && !v.getLsbD (causeBit c))) ∧
     (∃ t, exec (.noticeEnWrite v) s = .next t ∧ changesOnly [.regs, .posted] s t ∧
       t.regs = { s.regs with noticeEn := t.regs.noticeEn } ∧ (∀ c, hasCause t.regs.noticeEn c = v.getLsbD (causeBit c)) ∧
       t.posted = s.posted ++ List.replicate
         (allCauses.countP fun c => hasCause s.regs.notice c && !hasCause s.regs.noticeEn c && v.getLsbD (causeBit c))
         .interrupt)) ∧
  (∀ (offset value : Word) (s : State), exec (.registerWriteOther offset value) s = .next s)

/-- A write that changes RUN from 0 to 1 sets RUN and SWEEP_MS, starts the timer for an interval above 0, begins a sweep that is
owed to an idle reader, and begins an assembly: any due switch-over is made, the plan is captured, and the lanes of its fetch
set are to be fetched. At the first such write after a reset the directory mirror entries and the alert mirror records are
posted before it. No frame is sent and no store byte changes. A write that leaves RUN at 1 is no event: it writes SWEEP_MS and
restarts the timer if the value changes. That an assembly with nothing to fetch goes straight to its side items is assumption
16, and the order of the first mirrors assumption 38. -/
def Obligations.RunSetBeginsAnAssembly : Prop :=
  ∀ (ms : Byte) (s : State),
    (s.regs.run = false → ∃ t p c, exec (.runSet ms) s = .next t ∧
      t.regs = { s.regs with run := true, sweepMs := ms } ∧
      t.reader.timer = (if ms = 0 then none else some ms) ∧
      t.reader.sweep = (if s.reader.owed = true ∧ s.reader.sweep = .idle then .readingHands else s.reader.sweep) ∧
      t.reader.owed = (s.reader.owed && decide (s.reader.sweep ≠ .idle)) ∧
      t.reader.records = s.reader.records ∧ t.reader.cursor = s.reader.cursor ∧ t.ran = true ∧
      assemblyBegun (switchOver { s with
        regs := t.regs, reader := t.reader, ran := true,
        posted := s.posted ++ if s.ran then [] else firstMirrors s }) t p c ∧
      p.counter = s.frames.counter ∧ p.lanes.map PlanLane.entry = t.maps.active.entries ∧
      onlyUsers s t ∧ changesOnly [.regs, .reader, .lanes, .maps, .frames, .store, .posted, .ran] s t) ∧
    (s.regs.run = true → ∃ t, exec (.runSet ms) s = .next t ∧ t.regs = { s.regs with sweepMs := ms } ∧
      t.reader = { s.reader with
        timer := if s.regs.sweepMs = ms then s.reader.timer else if ms = 0 then none else some ms } ∧
      changesOnly [.regs, .reader] s t)

/-- A write that changes RUN from 1 to 0 throws away the assembly in flight or the finished frame: the assembler becomes
STOPPED, each unit that a region had taken is a late drop of the lane that supplied it, and nothing else of any lane
changes. A fetch of the assembly that has begun and not ended is kept, to run to its end (assumption 17). No frame is sent,
nothing is posted and no notice raised; the timer stops, and a sweep ends: at once before its visits (assumption 13), else
after the visit it is making. A write that leaves RUN at 0 writes SWEEP_MS alone. -/
def Obligations.RunClearThrowsTheFrameAway : Prop :=
  ∀ (ms : Byte) (begun : List LaneId) (s : State),
    (s.regs.run = false →
      ∃ t, exec (.runClear ms begun) s = .next t ∧ t.regs = { s.regs with sweepMs := ms } ∧ changesOnly [.regs] s t) ∧
    (s.regs.run = true → ∃ t, exec (.runClear ms begun) s = .next t ∧
      t.regs = { s.regs with run := false, sweepMs := ms } ∧
      t.frames = { s.frames with assembler := .stopped, stragglers := s.frames.stragglers ++ fetchesBegun s begun } ∧
      t.reader = { s.reader with timer := none, sweep := t.reader.sweep } ∧
      t.reader.sweep = (match s.reader.sweep with
        | .visiting r i rest _ => .visiting r i rest true
        | _ => .idle) ∧
      (∀ l, t.lane l = { s.lane l with counts := { (s.lane l).counts with lateDrop := (t.lane l).counts.lateDrop } } ∧
        (t.lane l).counts.lateDrop.toNat =
          min 65535 ((s.lane l).counts.lateDrop.toNat + s.frames.assembler.carriedUnits l)) ∧
      changesOnly [.regs, .reader, .lanes, .frames] s t)

/-- A write of SWEEP_MS with RUN as it stands stores the value; while RUN is 1 a changed value restarts the timer, or stops
it for 0, and nothing else changes. A write of PROMPT, and an expiry of a running interval timer, begin a sweep with RUN 1
and the reader IDLE, and set the sweep-pending flag otherwise; the timer restarts at its expiry. -/
def Obligations.SweepTriggersBeginOrOweASweep : Prop :=
  (∀ (ms : Byte) (s : State), ∃ t, exec (.sweepMsWrite ms) s = .next t ∧ t.regs = { s.regs with sweepMs := ms } ∧
     t.reader = { s.reader with
       timer := if s.regs.run = true ∧ s.regs.sweepMs ≠ ms then (if ms = 0 then none else some ms) else s.reader.timer } ∧
     changesOnly [.regs, .reader] s t) ∧
  (∀ (v : Word) (s : State),
     (∃ t, exec (.prompt v) s = .next t ∧ changesOnly [.reader] s t ∧
       t.reader = (if s.regs.run = true ∧ s.reader.sweep = .idle then { s.reader with sweep := .readingHands }
         else { s.reader with owed := true })) ∧
     (∀ ms, s.reader.timer = some ms → ∃ t, exec .sweepTimerExpiry s = .next t ∧ changesOnly [.reader] s t ∧
       t.reader.timer = (if s.regs.sweepMs = 0 then none else some s.regs.sweepMs) ∧
       { t.reader with timer := s.reader.timer } =
         (if s.regs.run = true ∧ s.reader.sweep = .idle then { s.reader with sweep := .readingHands }
           else { s.reader with owed := true })))

/-! ### Sweeps and visits (9.3) -/

/-- The slips to visit are exactly those whose hand read GIVEN, each once, in circular ascending order from the cursor. -/
def Obligations.GivenSlipsAreVisitedInCircularOrder : Prop :=
  ∀ (hands : List Byte) (cursor : SlipId),
    (∀ i : SlipId, i ∈ givenSlips hands cursor ↔ hands.getD i.val 0 = 1) ∧
    (givenSlips hands cursor).Pairwise fun i j => (i.val + 128 - cursor.val) % 128 < (j.val + 128 - cursor.val) % 128

/-- When the read of the 128 hands ends, the sweep goes on to the first GIVEN slip, or ends with none; when the read ends
in a PCIe error, the sweep ends with the cursor unchanged and FAULT is raised. No slip is written and no record filled. -/
def Obligations.HandReadChoosesTheVisits : Prop :=
  ∀ (h : HostView) (s : State), s.reader.sweep = .readingHands →
    (∀ hands, hostGather h (handAddrs s.regs.anchor) = some hands →
      ∃ t, exec (.sweepHandRead h) s = .next t ∧ changesOnly [.reader] s t ∧ t.reader.records = s.reader.records ∧
        sweepGoesOn s.regs s.reader.cursor (givenSlips hands s.reader.cursor) false s.reader t.reader) ∧
    (hostGather h (handAddrs s.regs.anchor) = none →
      ∃ t, exec (.sweepHandRead h) s = .next t ∧ changesOnly [.reader, .regs, .posted] s t ∧
        sweepEnded s.regs s.reader t.reader ∧ t.reader.cursor = s.reader.cursor ∧ t.reader.records = s.reader.records ∧
        t.reader.timer = s.reader.timer ∧ t.regs = withCause .fault s.regs ∧
        t.posted = s.posted ++ messageFor .fault s.regs)

/-- A visited slip that is not passed over and whose guard is true is taken and, being of a known kind with a lane in
range, dispatched: its record holds it as read, hand TAKEN is written, the cursor moves past it, and it joins the
dispatched slips of the block that owns its kind; the sweep then goes on. -/
def Obligations.VisitTakesAndDispatchesASlip : Prop :=
  ∀ (h : HostView) (s : State) (r : RecId) (i : SlipId) (rest : List SlipId) (last : Bool) (slip : List Byte) (k : Kind),
    s.reader.sweep = .visiting r i rest last → hostRead h (slipAddr s.regs.anchor i) 64 = some slip →
    ¬ passedOver s i slip → guardTrue s (parseSlip i slip) → kindOf (parseSlip i slip).kind = some k →
    (namesLane k = true → (parseSlip i slip).arg 0 1 < 24) →
    ∃ t, exec (.slipVisit h) s = .next t ∧
      t.work r = some (parseSlip i slip) ∧ (∀ q, q ≠ r → t.work q = s.work q) ∧
      t.posted = s.posted ++ [takenWrite s.regs.anchor i] ∧
      owed (ownerOf k) t = owed (ownerOf k) s ++ [r] ∧ (∀ o, o ≠ ownerOf k → owed o t = owed o s) ∧
      onlyOwed s t ∧ t.store.jobs = s.store.jobs ∧ sweepGoesOn s.regs (i + 1) rest last s.reader t.reader ∧
      changesOnly [.reader, .posted, .maps, .text, .carousels, .store, .alerts] s t

/-- A visited slip that completes at the visit: with an undefined guard code BAD_ARG, else with its guard true and an
unknown kind BAD_KIND, or a lane field above 23 in a kind that names a lane BAD_LANE, all three after hand TAKEN; with a
false guard and SKIP_ON_FALSE, SKIPPED with no TAKEN write. The aux is 0, the cursor moves past the slip, its record is
free for the visit that follows, and nothing is dispatched. A visit that passes its slip over, or finds its guard false
without SKIP_ON_FALSE, writes nothing, fills no record, and the sweep goes on with the cursor as it is; one whose read ends
in a PCIe error ends the sweep with the cursor at the slip and raises FAULT. -/
def Obligations.VisitCompletesOrLeavesItsSlip : Prop :=
  (∀ (h : HostView) (s : State) (r : RecId) (i : SlipId) (rest : List SlipId) (last : Bool) (slip : List Byte),
     s.reader.sweep = .visiting r i rest last → hostRead h (slipAddr s.regs.anchor i) 64 = some slip →
     ¬ passedOver s i slip →
     let w := parseSlip i slip
     let completes (before : List Posted) (status : Nat) : Prop :=
       ∃ t, exec (.slipVisit h) s = .next t ∧ t.work r = none ∧ (∀ q, q ≠ r → t.work q = s.work q) ∧
         t.regs = (if w.wantsNotice then withCause .slip s.regs else s.regs) ∧
         t.posted = s.posted ++ before ++ completionWrites s.regs.anchor w status 0 s.frames.counter ++
           (if w.wantsNotice then messageFor .slip s.regs else []) ∧
         sweepGoesOn s.regs (i + 1) rest last s.reader t.reader ∧ onlyJobs s t ∧
         t.store.jobs = (s.store.jobs.filter fun j => j.record ≠ r) ∧ changesOnly [.reader, .regs, .posted, .store] s t
     (3 < w.guard.toNat → completes [takenWrite s.regs.anchor i] 5) ∧
     (guardTrue s w → kindOf w.kind = none → completes [takenWrite s.regs.anchor i] 3) ∧
     (guardTrue s w → (∃ k, kindOf w.kind = some k ∧ namesLane k = true) → 23 < w.arg 0 1 →
       completes [takenWrite s.regs.anchor i] 4) ∧
     (w.guard.toNat ≤ 3 → ¬ guardTrue s w → w.flags.getLsbD 1 = true → completes [] 2)) ∧
  (∀ (h : HostView) (s : State) (r : RecId) (i : SlipId) (rest : List SlipId) (last : Bool),
     s.reader.sweep = .visiting r i rest last →
     (∀ slip, hostRead h (slipAddr s.regs.anchor i) 64 = some slip →
       (passedOver s i slip ∨ ((parseSlip i slip).guard.toNat ≤ 3 ∧ ¬ guardTrue s (parseSlip i slip) ∧
         (parseSlip i slip).flags.getLsbD 1 = false)) →
       ∃ t, exec (.slipVisit h) s = .next t ∧ changesOnly [.reader] s t ∧ t.reader.records = s.reader.records ∧
         sweepGoesOn s.regs s.reader.cursor rest last s.reader t.reader) ∧
     (hostRead h (slipAddr s.regs.anchor i) 64 = none →
       ∃ t, exec (.slipVisit h) s = .next t ∧ changesOnly [.reader, .regs, .posted] s t ∧
         sweepEnded s.regs s.reader t.reader ∧ t.reader.cursor = i ∧ t.reader.records = s.reader.records ∧
         t.reader.timer = s.reader.timer ∧ t.regs = withCause .fault s.regs ∧
         t.posted = s.posted ++ messageFor .fault s.regs))

/-! ### Lane slips (1.2, 1.3) -/

/-- An accepted LANE_SETUP of an UNUSED lane makes it READY with the slip's pages, page size and pace (0 taken as 1, above
16 as 16), no page held and letter A expected, text, carousel, credit and counts as after a reset and the source fields
untouched (they are OWN in a lane in neither map); its mirror is written and the slip completes OK with the pace as aux.
One of a READY or HALTED lane in neither map returns a held page RETIRED, makes A the expected letter, replaces pages, page
size and pace, and keeps everything else of the lane; the slip completes OK with the pace. That the source fields are not
written is assumption 24. -/
def Obligations.LaneSetupFillsOrReconfiguresALane : Prop :=
  (∀ (s : State) (r : RecId) (rest : List RecId) (w : WorkRecord) (l : LaneId),
     laneSlipAt .lane .laneSetup s r rest w l → (s.lane l).state = .unused →
     w.arg 4 4 % 4096 = 0 → 4096 ≤ w.arg 4 4 → w.arg 4 4 ≤ 65536 →
     ∃ t pace, exec .laneSetup s = .next t ∧ pace = (if w.arg 1 1 = 0 then 1 else min (w.arg 1 1) 16) ∧
       t.lane l =
         { state := .ready, pageA := w.argAddr 8, pageB := w.argAddr 16, pageSize := w.arg 4 4, pace := pace,
           audioFrom := (s.lane l).audioFrom, textFrom := (s.lane l).textFrom, pictureFrom := (s.lane l).pictureFrom,
           credit := 0, saturation := 0, feed := .fresh, text := .fresh, carousel := .fresh, counts := .zero } ∧
       otherLanesKept l s t ∧ t.maps = { s.maps with laneSlips := rest } ∧ onlyJobs s t ∧
       slipCompleted s t r w [laneMirrorWrite t l s.frames.counter] 0 (BitVec.ofNat 32 pace) ∧
       changesOnly [.regs, .reader, .lanes, .maps, .store, .posted] s t) ∧
  (∀ (s : State) (r : RecId) (rest : List RecId) (w : WorkRecord) (l : LaneId),
     laneSlipAt .lane .laneSetup s r rest w l → (s.lane l).state ≠ .unused → mapped s l = false →
     w.arg 4 4 % 4096 = 0 → 4096 ≤ w.arg 4 4 → w.arg 4 4 ≤ 65536 →
     ∃ t pace, exec .laneSetup s = .next t ∧ pace = (if w.arg 1 1 = 0 then 1 else min (w.arg 1 1) 16) ∧
       t.lane l =
         { s.lane l with pageA := w.argAddr 8, pageB := w.argAddr 16, pageSize := w.arg 4 4, pace := pace,
                         feed := retiredFeed (s.lane l).feed } ∧
       otherLanesKept l s t ∧ t.maps = { s.maps with laneSlips := rest } ∧ onlyJobs s t ∧
       slipReported s t r w (returnPosts s l .retired) (returnRegs s l) 0 (BitVec.ofNat 32 pace) s.frames.counter ∧
       changesOnly [.regs, .reader, .lanes, .maps, .store, .posted] s t)

/-- An accepted LANE_RETIRE makes the lane UNUSED: a held page is returned RETIRED, a fetch of the lane still to end is given up,
the text and the carousel are emptied, the user count of each slot falls by the entries and the airing that named it, pages,
pace, credit and saturation become 0, and the event counts, the sequence and the source fields are kept; the slip completes OK.
A CONDEMNED slot whose count falls to 0 begins its directory write to DROPPING and its job becomes QUEUED, and the store chooses.
No store byte and no slot record changes. That the sequence and the source fields are kept is assumption 24, and that an
abandoned fetch of the lane is given up assumption 17; the aux is a free value (assumption 6). -/
def Obligations.LaneRetireMakesALaneUnused : Prop :=
  ∀ (s : State) (r : RecId) (rest : List RecId) (w : WorkRecord) (l : LaneId),
    laneSlipAt .lane .laneRetire s r rest w l → (s.lane l).state ≠ .unused → mapped s l = false →
    (∀ a ∈ activeAlerts s, a.source ≠ some l) →
    ∃ t v aux before after, exec .laneRetire s = .next t ∧
      t.lane l =
        { s.lane l with state := .unused, pageA := 0, pageB := 0, pageSize := 0, pace := 0, credit := 0, saturation := 0,
                        feed := retiredFeed (s.lane l).feed, text := .fresh, carousel := .fresh } ∧
      otherLanesKept l s t ∧ t.maps = { s.maps with laneSlips := rest } ∧ t.work r = none ∧
      t.frames = { s.frames with stragglers := s.frames.stragglers.filter fun g => g.lane ≠ l } ∧
      (∀ i, (t.slot i).users = (s.slot i).users - (carouselUses (s.lane l).carousel).count i ∧
        (t.slot i).record = (s.slot i).record) ∧
      v.store.slots = t.store.slots ∧ droppingBegun s v ∧ storeChose (withoutJob r v) t ∧
      t.posted = s.posted ++ returnPosts s l .retired ++ before ++ [laneMirrorWrite t l s.frames.counter] ++
        completionWrites s.regs.anchor w 0 aux s.frames.counter ++ after ∧
      t.regs = { s.regs with notice := t.regs.notice } ∧ bytesKept s t ∧
      changesOnly [.regs, .reader, .lanes, .maps, .frames, .store, .posted, .draws] s t

/-- LANE_HALT of a READY lane makes it HALTED with credit 0, LANE_RESUME of a HALTED lane makes it READY, and each keeps
everything else of every lane, writes the lane's mirror and completes OK. The aux is a free value (assumption 6). -/
def Obligations.LaneHaltAndResumeChangeTheStateAlone : Prop :=
  ∀ (s : State) (r : RecId) (rest : List RecId) (w : WorkRecord) (l : LaneId),
    (laneSlipAt .lane .laneHalt s r rest w l → (s.lane l).state = .ready →
      ∃ t aux, exec .laneHalt s = .next t ∧ t.lane l = { s.lane l with state := .halted, credit := 0 } ∧
        otherLanesKept l s t ∧ t.maps = { s.maps with laneSlips := rest } ∧ onlyJobs s t ∧
        slipCompleted s t r w [laneMirrorWrite t l s.frames.counter] 0 aux ∧
        changesOnly [.regs, .reader, .lanes, .maps, .store, .posted, .draws] s t) ∧
    (laneSlipAt .lane .laneResume s r rest w l → (s.lane l).state = .halted →
      ∃ t aux, exec .laneResume s = .next t ∧ t.lane l = { s.lane l with state := .ready } ∧
        otherLanesKept l s t ∧ t.maps = { s.maps with laneSlips := rest } ∧ onlyJobs s t ∧
        slipCompleted s t r w [laneMirrorWrite t l s.frames.counter] 0 aux ∧
        changesOnly [.regs, .reader, .lanes, .maps, .store, .posted, .draws] s t)

/-- The refusals of the lane slips: LANE_STATE in a state that gives no move or for a mapped lane, then BAD_ARG for a page
size, ALERT_BOUND for the source of an active alert; no lane changes. The aux is a free value (assumption 6). -/
def Obligations.LaneSlipsAreRefusedInOrder : Prop :=
  ∀ (s : State) (r : RecId) (rest : List RecId) (w : WorkRecord) (l : LaneId),
    let refused (c : Instr) (status : Nat) : Prop :=
      ∃ t aux, exec c s = .next t ∧ t.maps = { s.maps with laneSlips := rest } ∧ onlyJobs s t ∧
        slipCompleted s t r w [] status aux ∧ changesOnly [.regs, .reader, .maps, .store, .posted, .draws] s t
    let badSize := ¬ (w.arg 4 4 % 4096 = 0 ∧ 4096 ≤ w.arg 4 4 ∧ w.arg 4 4 ≤ 65536)
    (laneSlipAt .lane .laneSetup s r rest w l →
      ((s.lane l).state ≠ .unused → mapped s l = true → refused .laneSetup 6) ∧
      (((s.lane l).state = .unused ∨ mapped s l = false) → badSize → refused .laneSetup 5)) ∧
    (laneSlipAt .lane .laneRetire s r rest w l →
      (((s.lane l).state = .unused ∨ mapped s l = true) → refused .laneRetire 6) ∧
      ((s.lane l).state ≠ .unused → mapped s l = false → (∃ a ∈ activeAlerts s, a.source = some l) →
        refused .laneRetire 19)) ∧
    (laneSlipAt .lane .laneHalt s r rest w l → (s.lane l).state ≠ .ready → refused .laneHalt 6) ∧
    (laneSlipAt .lane .laneResume s r rest w l → (s.lane l).state ≠ .halted → refused .laneResume 6)

/-! ### Maps (1.4, 1.5) -/

/-- A MAP_LOAD begins once none is in its checks: with no map pending its table read starts and nothing else changes, and
with a map pending it is refused with MAP_PENDING. A map table that fails a check forms no map and refuses the slip:
FETCH_FAULT for a failed read, MAP_INVALID for too many entries, a bad, doubled or UNUSED lane, too many reserved cells or
too many shares; and when it fails an active alert, by the first that it fails, the alerts in ascending order of id and the
targets of each by lane: ALERT_BOUND for a target without an entry, ALERT_TOO_WIDE for one with too few reserved cells. The aux
is a free value (assumption 6). A table of no entries makes no read; that its MAP_LOAD is then checked at the MAP_TABLE_READ, and
not at its dispatch, is the model's choice (assumption 37). -/
def Obligations.MapLoadStartsItsReadOrIsRefused : Prop :=
  (∀ (s : State) (r : RecId) (rest : List RecId) (w : WorkRecord),
     slipAt .map .mapLoad s r rest w → s.maps.checking = none →
     (s.maps.upcoming = none → ∃ t, exec .mapLoad s = .next t ∧
       t.maps = { s.maps with mapLoads := rest, checking := some r } ∧ changesOnly [.maps] s t) ∧
     (s.maps.upcoming ≠ none → ∃ t aux, exec .mapLoad s = .next t ∧ t.maps = { s.maps with mapLoads := rest } ∧
       onlyJobs s t ∧ slipCompleted s t r w [] 7 aux ∧ changesOnly [.regs, .reader, .maps, .store, .posted, .draws] s t)) ∧
  (∀ (h : HostView) (s : State) (r : RecId) (w : WorkRecord),
     s.maps.checking = some r → s.work r = some w →
     let refused (ok : Nat → Prop) : Prop :=
       ∃ t aux status, ok status ∧ exec (.mapTableRead h) s = .next t ∧ t.maps = { s.maps with checking := none } ∧
         onlyJobs s t ∧ slipCompleted s t r w [] status aux ∧ changesOnly [.regs, .reader, .maps, .store, .posted, .draws] s t
     (hostRead h (w.argAddr 8) (8 * min (w.arg 0 1) 24) = none → refused (· = 23)) ∧
     (∀ table, hostRead h (w.argAddr 8) (8 * min (w.arg 0 1) 24) = some table →
       let es := (List.range (min (w.arg 0 1) 24)).map (rawEntry table)
       let bad := 24 < w.arg 0 1 ∨ ¬ (es.map RawEntry.lane).Nodup ∨
         (∃ e ∈ es, ∀ l, laneOf e.lane = some l → (s.lane l).state = .unused) ∨
         1191 < (es.map RawEntry.reserved).sum ∨ 1024 < (es.map fun e => min e.share 1023).sum
       let fails (a : Alert) (l : LaneId) := ∀ e ∈ es, e.lane = l.val → a.take.audio = true ∧ e.reserved < a.width
       (bad → refused (· = 8)) ∧
       (¬ bad → (∃ a ∈ activeAlerts s, ∃ l ∈ a.targets, fails a l) → refused fun st => st = 18 ∨ st = 19) ∧
       (¬ bad → ((activeAlerts s).map Alert.id).Nodup → (∀ a ∈ activeAlerts s, a.targets.Pairwise (· < ·)) →
         ∀ a ∈ activeAlerts s, ∀ l ∈ a.targets, fails a l →
           (∀ b ∈ activeAlerts s, b.id.toNat < a.id.toNat → ∀ k ∈ b.targets, ¬ fails b k) →
           (∀ k ∈ a.targets, k < l → ¬ fails a k) →
           refused (· = if ∀ e ∈ es, e.lane ≠ l.val then 19 else 18))))

/-- A map table that passes the five checks becomes the pending map with announce count 16: each lane named has its
reserved cells, its share clamped to 1023 and its burst raised to 1, and starts at the cell after the regions of the lower
lanes, the first at cell 9 (0 for a lane with none reserved); the pool takes the rest. The slip stays TAKEN. That the map of a
table of no entries is formed at the MAP_TABLE_READ, though nothing is read, is the model's choice (assumption 37). -/
def Obligations.CheckedMapTableFormsThePendingMap : Prop :=
  ∀ (h : HostView) (s : State) (r : RecId) (w : WorkRecord) (table : List Byte),
    s.maps.checking = some r → s.work r = some w → w.arg 0 1 ≤ 24 →
    hostRead h (w.argAddr 8) (8 * w.arg 0 1) = some table →
    let es := (List.range (w.arg 0 1)).map (rawEntry table)
    (es.map RawEntry.lane).Nodup → (∀ e ∈ es, ∃ l, laneOf e.lane = some l ∧ (s.lane l).state ≠ .unused) →
    (es.map RawEntry.reserved).sum ≤ 1191 → (es.map fun e => min e.share 1023).sum ≤ 1024 →
    (∀ a ∈ activeAlerts s, ∀ l ∈ a.targets, ∃ e ∈ es, e.lane = l.val ∧ (a.take.audio = true → a.width ≤ e.reserved)) →
    ∃ t m, exec (.mapTableRead h) s = .next t ∧
      t.maps = { s.maps with checking := none, upcoming := some ⟨m, 16, r⟩ } ∧ changesOnly [.maps] s t ∧
      (m.entries.map MapEntry.lane).Pairwise (· < ·) ∧
      (∀ l : LaneId, m.entry? l = (es.find? fun e => e.lane = l.val).map fun e =>
        { lane := l, reserved := e.reserved, share := min e.share 1023, burst := max e.burst 1,
          start := if e.reserved = 0 then 0
            else 9 + ((es.filter fun x => x.lane < l.val).map RawEntry.reserved).sum }) ∧
      m.poolStart = 9 + (es.map RawEntry.reserved).sum ∧ m.poolSize = 1191 - (es.map RawEntry.reserved).sum

/-- The switch-over, made with the announce count at 0, makes the pending map active and raises the generation by one; a
lane that joins or leaves the map has credit 0, one in both keeps its credit up to its new ceiling, and nothing else of any
lane changes. With no pending map, or a count above 0, nothing happens. -/
def Obligations.SwitchOverAdoptsThePendingMap : Prop :=
  ∀ (s : State),
    ((∀ p, s.maps.upcoming = some p → 0 < p.announce) → switchOver s = s) ∧
    (∀ p, s.maps.upcoming = some p → p.announce = 0 →
      (switchOver s).maps = { s.maps with active := p.map, generation := s.maps.generation + 1, upcoming := none,
                                          switched := some p.record } ∧
      (∀ l, (switchOver s).lane l = { s.lane l with credit := ((switchOver s).lane l).credit } ∧
        (∀ e, p.map.entry? l = some e → aired s l = true →
          ((switchOver s).lane l).credit = min (s.lane l).credit (e.burst * 1024)) ∧
        ((p.map.entry? l).isSome ≠ aired s l → ((switchOver s).lane l).credit = 0) ∧
        (p.map.entry? l = none → aired s l = false → ((switchOver s).lane l).credit = (s.lane l).credit)) ∧
      changesOnly [.lanes, .maps] s (switchOver s))

/-! ### Feed pages (2.2-2.6) -/

/-- A fetch for a lane that holds a page with a whole unit at its cursor: the cursor and the units taken pass the unit. A
silence unit (length 0) yields no unit; another is offered to its candidate regions, is displaced with none, oversize when
one refuses it for its size, and its data is read exactly when one takes it. A page then used up is returned with no mark,
and the other letter is expected. The fetch is recorded in the carriage record, and nothing else changes. -/
def Obligations.LaneFetchReadsTheNextUnit : Prop :=
  ∀ (l : LaneId) (h : HostView) (s : State) (p : Plan) (c : Carriage) (page : Letter) (lenBytes data : List Byte),
    fetchUnderWay s p c l →
    let x := s.lane l
    let f := x.feed
    let len := leNat lenBytes
    let limits := candidateLimits p l
    let taken := limits.any fun m => decide (2 + len ≤ 16 * m)
    let refused := limits.any fun m => decide (16 * m < 2 + len)
    f.held = some page → f.cursor + 2 + len ≤ f.byteCount →
    hostRead h (addrAt (pageAddr x page) f.cursor) 2 = some lenBytes →
    (if 0 < len ∧ taken = true then hostRead h (addrAt (pageAddr x page) (f.cursor + 2)) len = some data else data = []) →
    ∃ t, exec (.laneFetch l h) s = .next t ∧
      t.frames = afterFetch s.frames p c l (if len = 0 then .nothing .silence else .unit len data taken) ∧
      t.lane l = { x with
        feed := if f.cursor + 2 + len = f.byteCount then passedFeed f page
          else { f with cursor := f.cursor + 2 + len, taken := f.taken + 1 }
        counts := { x.counts with
          oversize := if 0 < len ∧ refused = true then satInc x.counts.oversize else x.counts.oversize
          displaced := if 0 < len ∧ limits = [] then satInc x.counts.displaced else x.counts.displaced } } ∧
      otherLanesKept l s t ∧
      (if f.cursor + 2 + len = f.byteCount then
        t.regs = feedRegs f.notify s.regs ∧
        t.posted = s.posted ++ returnWrites s.regs.anchor l page (f.taken + 1) .usedUp ++ feedMessage f.notify s.regs
      else t.regs = s.regs ∧ t.posted = s.posted) ∧
      changesOnly [.regs, .lanes, .frames, .posted] s t

/-- A fetch that finds the held page damaged yields no unit and returns the page with the units taken before: with TRUNCATED
when fewer than 2 bytes remain or the length overruns the byte count, and with FAULT, one fetch fault counted, when the read
of the length or of the data ends in a PCIe error. The other letter is then expected. That a unit refused by one region
counts as oversize although the read of its data for another fails is assumption 21. -/
def Obligations.LaneFetchReturnsADamagedPage : Prop :=
  ∀ (l : LaneId) (h : HostView) (s : State) (p : Plan) (c : Carriage) (page : Letter),
    fetchUnderWay s p c l →
    let x := s.lane l
    let f := x.feed
    f.held = some page →
    let returned (mark : Return) (cause : Filler) (counts : Counts) : Prop :=
      ∃ t, exec (.laneFetch l h) s = .next t ∧ t.frames = afterFetch s.frames p c l (.nothing cause) ∧
        t.lane l = { x with feed := passedFeed f page, counts := counts } ∧ otherLanesKept l s t ∧
        t.regs = feedRegs f.notify s.regs ∧
        t.posted = s.posted ++ returnWrites s.regs.anchor l page f.taken mark ++ feedMessage f.notify s.regs ∧
        changesOnly [.regs, .lanes, .frames, .posted] s t
    let lenRead := hostRead h (addrAt (pageAddr x page) f.cursor) 2
    (f.byteCount < f.cursor + 2 → returned .truncated .malformed x.counts) ∧
    (f.cursor + 2 ≤ f.byteCount → lenRead = none →
      returned .fault .fetchFault { x.counts with fetchFault := satInc x.counts.fetchFault }) ∧
    (∀ lenBytes, f.cursor + 2 ≤ f.byteCount → lenRead = some lenBytes →
      (f.byteCount < f.cursor + 2 + leNat lenBytes → returned .truncated .malformed x.counts) ∧
      (f.cursor + 2 + leNat lenBytes ≤ f.byteCount → 0 < leNat lenBytes →
        (candidateLimits p l).any (fun m => decide (2 + leNat lenBytes ≤ 16 * m)) = true →
        hostRead h (addrAt (pageAddr x page) (f.cursor + 2)) (leNat lenBytes) = none →
        returned .fault .fetchFault
          { x.counts with
            fetchFault := satInc x.counts.fetchFault
            oversize := if (candidateLimits p l).any (fun m => decide (16 * m < 2 + leNat lenBytes)) then
              satInc x.counts.oversize else x.counts.oversize }))

/-- A fetch for a lane that holds no page reads the tab of the expected letter. A failed read counts one fetch fault and a
tab that is not LOADED is an underrun; both leave the feed state alone. A LOADED tab hands over the page, with the lesser
of its byte count and the page size, and with its sequence: a page of 0 bytes is returned as used up in the same fetch, and
otherwise the fetch goes on as if the page had been held, at cursor 0. -/
def Obligations.LaneFetchTakesTheExpectedPage : Prop :=
  ∀ (l : LaneId) (h : HostView) (s : State) (p : Plan) (c : Carriage),
    fetchUnderWay s p c l →
    let x := s.lane l
    let f := x.feed
    f.held = none →
    let tabRead := hostRead h (tabAddr s.regs.anchor l f.expected) 16
    (tabRead = none → ∃ t, exec (.laneFetch l h) s = .next t ∧
      t.frames = afterFetch s.frames p c l (.nothing .fetchFault) ∧
      t.lane l = { x with counts := { x.counts with fetchFault := satInc x.counts.fetchFault } } ∧
      otherLanesKept l s t ∧ changesOnly [.lanes, .frames] s t) ∧
    (∀ tab, tabRead = some tab →
      (tab.getD 0 0 ≠ 1 → ∃ t, exec (.laneFetch l h) s = .next t ∧
        t.frames = afterFetch s.frames p c l (.nothing .underrun) ∧ changesOnly [.frames] s t) ∧
      (tab.getD 0 0 = 1 →
        let count := min (leNat (slice tab 4 4)) x.pageSize
        let notify := (tab.getD 1 0).getLsbD 0
        let sequence := BitVec.ofNat 16 (leNat (slice tab 8 2))
        (count = 0 → ∃ t, exec (.laneFetch l h) s = .next t ∧
          t.frames = afterFetch s.frames p c l (.nothing .underrun) ∧
          t.lane l = { x with feed := { passedFeed f f.expected with sequence := sequence } } ∧ otherLanesKept l s t ∧
          t.regs = feedRegs notify s.regs ∧
          t.posted = s.posted ++ returnWrites s.regs.anchor l f.expected 0 .usedUp ++ feedMessage notify s.regs ∧
          changesOnly [.regs, .lanes, .frames, .posted] s t) ∧
        (0 < count → exec (.laneFetch l h) s = exec (.laneFetch l h) (s.setLane l { x with
          feed := { held := some f.expected, expected := f.expected, byteCount := count, cursor := 0, taken := 0,
                    sequence := sequence, notify := notify } }))))

/-- A fetch begun in an assembly since abandoned runs to its end, wherever it stands among those kept: it leaves the new assembly
alone, acts on the lane's feed, on its counts and on the registers as a fetch for the regions of the abandoned frame does, and a
unit that some region had taken is one late drop of the lane. Nothing else of the lane changes. Such fetches are kept as stragglers
(assumption 17), and the anchor that stands at the end of the fetch is the one used (assumption 40). -/
def Obligations.AbandonedFetchRunsToItsEnd : Prop :=
  ∀ (l : LaneId) (h : HostView) (s : State) (regions : List Nat) (before after : List Straggler),
    s.frames.stragglers = before ++ ⟨l, regions⟩ :: after → (∀ g ∈ before ++ after, g.lane ≠ l) →
    let u := (fetchUnit l regions h s).1
    ∃ t, exec (.laneFetch l h) s = .next t ∧ t.frames = { s.frames with stragglers := before ++ after } ∧
      t.lane l = { s.lane l with
        feed := (u.lane l).feed
        counts := { (s.lane l).counts with
          oversize := (u.lane l).counts.oversize, displaced := (u.lane l).counts.displaced
          fetchFault := (u.lane l).counts.fetchFault
          lateDrop := match (fetchUnit l regions h s).2 with
            | .unit _ _ true => satInc (s.lane l).counts.lateDrop
            | _ => (s.lane l).counts.lateDrop } } ∧
      otherLanesKept l s t ∧ t.regs = u.regs ∧ t.regs = { s.regs with notice := t.regs.notice } ∧ t.posted = u.posted ∧
      changesOnly [.regs, .lanes, .frames, .posted] s t

/-! ### Pool sharing (4.3, 4.5) -/

/-- The cells granted and the pool padding make up the pool, no lane is granted more than its demand, and padding is left
only when every demand is met. Who gets them, in the order given: first each urgent lane the lesser of its demand and what is
left; then each lane that is not urgent the least of its demand, its accrued credit in whole cells and what is left, with 1024
of credit taken for each cell; then one cell for each lane with unmet demand in each pass, so that every such lane gains n + 1
cells up to some place of the last pass and n after it, as far as its demand goes. Demands are at most 49. -/
def Obligations.PoolSharingAccountsForEveryCell : Prop :=
  ∀ (pool : Nat) (ls : List PoolLane), (∀ x ∈ ls, x.demand ≤ 49) →
    let out := sharePool pool ls
    let urgentDemand (xs : List PoolLane) : Nat := ((xs.filter PoolLane.urgent).map PoolLane.demand).sum
    let affords (x : PoolLane) : Nat := if x.urgent then 0 else min x.demand ((accrue pool x).credit / 1024)
    (out.1.map PoolLane.grant).sum + out.2 = pool ∧
    out.1.map (fun x => (x.lane, x.demand)) = ls.map (fun x => (x.lane, x.demand)) ∧
    (∀ x ∈ out.1, x.grant ≤ x.demand) ∧ (0 < out.2 → ∀ x ∈ out.1, x.grant = x.demand) ∧
    ∃ n k : Nat, ∀ (i : Nat) (x : PoolLane), ls[i]? = some x →
      let first := if x.urgent then min x.demand (pool - urgentDemand (ls.take i)) else 0
      let paid := min (affords x) (pool - urgentDemand ls - ((ls.take i).map affords).sum)
      let spilled := min (x.demand - first - paid) (if i < k then n + 1 else n)
      out.1[i]? = some { accrue pool x with
        grant := first + paid + spilled, credit := (accrue pool x).credit - 1024 * paid }

/-- The accrual of one lane: nothing for an urgent lane; credit 0 for a demand of 0; else the credit rises by share times
pool size, and a sum above burst times 1024 is clamped to it and marks the lane saturated, a sum equal to it not. With
share 0 the credit carried is kept. Product and sum stay within the figures the rule gives. -/
def Obligations.AccrualRaisesAndClampsCredit : Prop :=
  ∀ (pool : Nat) (x : PoolLane), x.saturated = false →
    (x.urgent = true → accrue pool x = x) ∧
    (x.urgent = false → x.demand = 0 → accrue pool x = { x with credit := 0 }) ∧
    (x.urgent = false → 0 < x.demand → x.credit + x.share * pool ≤ x.burst * 1024 →
      accrue pool x = { x with credit := x.credit + x.share * pool }) ∧
    (x.urgent = false → 0 < x.demand → x.burst * 1024 < x.credit + x.share * pool →
      accrue pool x = { x with credit := x.burst * 1024, saturated := true }) ∧
    (x.urgent = false → 0 < x.demand → x.share = 0 → x.credit ≤ x.burst * 1024 → (accrue pool x).credit = x.credit) ∧
    (x.share ≤ 1023 → pool ≤ 1191 → x.credit ≤ 261120 →
      x.share * pool ≤ 1218393 ∧ x.credit + x.share * pool ≤ 1479513)

/-- Piece filling, with `c` cells left and `b` bytes remaining from offset `off`. While both are above 0 the next piece is
the least of 16, c and (b + 8)/16 rounded up cells long, carries the lesser of b and 16n - 8 bytes from the offset, FIRST
at offset 0 and LAST with the last byte, and the filling goes on with what is left. Pieces have 1-16 cells and carry 1-248
bytes, fewer than 8 only with LAST. Where the cells are those needed to finish, exactly those are used and the airing ends.
On air a piece is its 8-byte header, its data and zero bytes. -/
def Obligations.PieceFillingFollowsItsSteps : Prop :=
  ∀ (contents : List Host.Cell) (base : Nat) (slot : SlotId) (version : Byte) (c b off : Nat),
    let fill (c b off : Nat) : List Piece := fillPieces contents base slot version c c b off
    ((c = 0 ∨ b = 0) → fill c b off = []) ∧
    (0 < c → 0 < b → ∃ q, q.cells = min 16 (min c ((b + 8 + 15) / 16)) ∧ q.data.length = min b (16 * q.cells - 8) ∧
      (∀ i < q.data.length, q.data.getD i 0 = storeByte contents (base + off + i)) ∧
      q.slot = slot ∧ q.version = version ∧ q.offset = off ∧ (q.first = true ↔ off = 0) ∧
      (q.last = true ↔ q.data.length = b) ∧
      fill c b off = q :: fill (c - q.cells) (b - q.data.length) (off + q.data.length)) ∧
    (∀ q ∈ fill c b off, 1 ≤ q.cells ∧ q.cells ≤ 16 ∧ 1 ≤ q.data.length ∧ q.data.length ≤ 248 ∧
      (q.data.length < 8 → q.last = true) ∧
      pieceCellsBytes q =
        [0x30, BitVec.ofNat 8 q.slot.val, q.version, BitVec.ofNat 8 (q.first.toNat + 2 * q.last.toNat)] ++
          beBytes 3 q.offset ++ [BitVec.ofNat 8 q.data.length] ++ q.data ++
          List.replicate (16 * q.cells - 8 - q.data.length) 0) ∧
    (0 < b → c = cellsToFinish b →
      ((fill c b off).map Piece.cells).sum = c ∧ ((fill c b off).map fun q => q.data.length).sum = b ∧
        anyLast (fill c b off) = true)

/-! ### Ticker text (5.2-5.4) -/

/-- A TEXT_PUT of a lane that is set up and of a length above 0 starts the read of its body and nothing else; an UNUSED lane
is refused with LANE_STATE and a length of 0 with BAD_ARG. A TEXT_PUT whose read failed, whose body holds a zero byte, or
whose lane has become UNUSED is refused with FETCH_FAULT, BAD_ARG or LANE_STATE, tested in this order, and changes no
lane. The aux of the refusal of a lane that has become UNUSED is 0; that of the others is a free value (assumption 6). -/
def Obligations.TextPutStartsItsReadOrIsRefused : Prop :=
  (∀ (s : State) (r : RecId) (rest : List RecId) (w : WorkRecord) (l : LaneId),
     laneSlipAt .text .textPut s r rest w l → s.text.putting = none →
     let refused (status : Nat) : Prop := ∃ t aux, exec .textPut s = .next t ∧ t.text = { s.text with queue := rest } ∧
       onlyJobs s t ∧ slipCompleted s t r w [] status aux ∧ changesOnly [.regs, .reader, .text, .store, .posted, .draws] s t
     ((s.lane l).state = .unused → refused 6) ∧
     ((s.lane l).state ≠ .unused → w.arg 4 2 = 0 → refused 5) ∧
     ((s.lane l).state ≠ .unused → 0 < w.arg 4 2 → ∃ t, exec .textPut s = .next t ∧
       t.text = { queue := rest, putting := some r } ∧ changesOnly [.text] s t)) ∧
  (∀ (h : HostView) (s : State) (r : RecId) (w : WorkRecord) (l : LaneId),
     s.text.putting = some r → s.work r = some w → w.lane = some l →
     let refused (status : Nat) (aux : Word) : Prop := ∃ t, exec (.textPutApply h) s = .next t ∧
       t.text = { s.text with putting := none } ∧ onlyJobs s t ∧ slipCompleted s t r w [] status aux ∧
       changesOnly [.regs, .reader, .text, .store, .posted, .draws] s t
     (hostRead h (w.argAddr 8) (min (w.arg 4 2) 128) = none → ∃ aux, refused 23 aux) ∧
     (∀ body, hostRead h (w.argAddr 8) (min (w.arg 4 2) 128) = some body →
       ((0 : Byte) ∈ body → ∃ aux, refused 5 aux) ∧
       ((0 : Byte) ∉ body → (s.lane l).state = .unused → refused 6 0)))

/-- A TEXT_PUT whose body was read without a zero byte, applied. A message with its id is replaced in place, version and
seed rising by one; with none and fewer than 8 messages it is appended with the risen seed as version; with 8 it is refused
with QUEUE_FULL. Replacing the head cuts it and flips the toggle, and an append to an empty queue makes the lane due and
flips the toggle, the toggle and position staying when an alert holds the text. A body over 128 bytes gives PARTIAL. -/
def Obligations.TextPutReplacesOrAppends : Prop :=
  ∀ (h : HostView) (s : State) (r : RecId) (w : WorkRecord) (l : LaneId) (body : List Byte),
    s.text.putting = some r → s.work r = some w → w.lane = some l →
    hostRead h (w.argAddr 8) (min (w.arg 4 2) 128) = some body → (0 : Byte) ∉ body → (s.lane l).state ≠ .unused →
    let x := s.lane l
    let q := x.text.queue
    let id : Half := BitVec.ofNat 16 (w.arg 2 2)
    let own : Bool := decide (x.text.source = .own)
    let ok : Nat := if 128 < w.arg 4 2 then 1 else 0
    let put (status : Nat) (aux : Word) (text : TextState) : Prop :=
      ∃ t, exec (.textPutApply h) s = .next t ∧ t.text = { s.text with putting := none } ∧
        t.lane l = { x with text := text } ∧ otherLanesKept l s t ∧ onlyJobs s t ∧ slipCompleted s t r w [] status aux ∧
        changesOnly [.regs, .reader, .lanes, .text, .store, .posted] s t
    (∀ m, q.find? (fun m => m.id = id) = some m →
      let cut := own && decide (q.head?.map Message.id = some id)
      put ok ((m.version + 1).zeroExtend 32) { x.text with
        queue := q.map fun m => if m.id = id then
          { m with body := body, repeats := w.argByte 1, airings := 0, version := m.version + 1 } else m
        seed := x.text.seed + 1
        position := if cut then 0 else x.text.position
        toggle := if cut then !x.text.toggle else x.text.toggle }) ∧
    ((∀ m ∈ q, m.id ≠ id) → q.length < 8 →
      put ok ((x.text.seed + 1).zeroExtend 32) { x.text with
        queue := q ++ [{ id := id, body := body, repeats := w.argByte 1, airings := 0, version := x.text.seed + 1 }]
        seed := x.text.seed + 1
        position := if q.isEmpty && own then 0 else x.text.position
        toggle := if q.isEmpty && own then !x.text.toggle else x.text.toggle
        pacing := if q.isEmpty then 16 else x.text.pacing }) ∧
    ((∀ m ∈ q, m.id ≠ id) → 8 ≤ q.length → put 9 0 x.text)

/-- TEXT_DROP removes the message with its id and completes OK with its airings done; dropping the head cuts it, and flips
the toggle if a message is left, unless an alert holds the text. An id the queue does not hold gives NOT_FOUND, and an
UNUSED lane LANE_STATE. TEXT_CLEAR empties the queue and completes OK with the number of messages removed. -/
def Obligations.TextDropAndClearRemoveMessages : Prop :=
  ∀ (s : State) (r : RecId) (rest : List RecId) (w : WorkRecord) (l : LaneId), s.text.putting = none →
    let x := s.lane l
    let q := x.text.queue
    let id : Half := BitVec.ofNat 16 (w.arg 2 2)
    let own : Bool := decide (x.text.source = .own)
    let removed (c : Instr) (aux : Word) (text : TextState) : Prop :=
      ∃ t, exec c s = .next t ∧ t.text = { s.text with queue := rest } ∧ t.lane l = { x with text := text } ∧
        otherLanesKept l s t ∧ onlyJobs s t ∧ slipCompleted s t r w [] 0 aux ∧
        changesOnly [.regs, .reader, .lanes, .text, .store, .posted] s t
    let refused (c : Instr) (status : Nat) : Prop := ∃ t aux, exec c s = .next t ∧
      t.text = { s.text with queue := rest } ∧ onlyJobs s t ∧ slipCompleted s t r w [] status aux ∧
      changesOnly [.regs, .reader, .text, .store, .posted, .draws] s t
    (laneSlipAt .text .textDrop s r rest w l →
      (x.state = .unused → refused .textDrop 6) ∧
      (x.state ≠ .unused → (∀ m ∈ q, m.id ≠ id) → refused .textDrop 10) ∧
      (x.state ≠ .unused → ∀ m, q.find? (fun m => m.id = id) = some m →
        let left := q.filter fun m => m.id ≠ id
        let cut := own && decide (q.head?.map Message.id = some id)
        removed .textDrop (m.airings.zeroExtend 32) { x.text with
          queue := left
          position := if cut then 0 else x.text.position
          toggle := if cut && !left.isEmpty then !x.text.toggle else x.text.toggle })) ∧
    (laneSlipAt .text .textClear s r rest w l →
      (x.state = .unused → refused .textClear 6) ∧
      (x.state ≠ .unused → removed .textClear (BitVec.ofNat 32 q.length)
        { x.text with queue := [], position := if own then 0 else x.text.position }))

/-- The end of the airing of a lane's own head, at the send of its LAST fragment with the head unchanged: the airings done
rise by one up to 255; the message goes to the tail with repeat 255 or airings still to go, else it leaves; the head that
now stands starts at position 0; the toggle flips if a head stands whose id or version differs. A message alone in its
queue keeps the toggle. The pacing count becomes 1, so that with pace 1 a standing head is due in the next frame. -/
def Obligations.EndOfATextAiringMovesTheQueueOn : Prop :=
  ∀ (t : TextState) (m : Message) (rest : List Message) (f : Fragment),
    t.queue = m :: rest → f.alert = none → f.textId = m.id → f.version = m.version → f.last = true →
    let done : Message := { m with airings := if m.airings = 255 then 255 else m.airings + 1 }
    let u := commitText (some f) t
    u.queue = (if m.repeats = 255 ∨ done.airings.toNat < m.repeats.toNat + 1 then rest ++ [done] else rest) ∧
    u.position = 0 ∧
    u.toggle = (match u.queue with
      | [] => t.toggle
      | n :: _ => if n.id ≠ m.id ∨ n.version ≠ m.version then !t.toggle else t.toggle) ∧
    (rest = [] → u.toggle = t.toggle) ∧ u.pacing = 1 ∧ u.seed = t.seed ∧ u.source = t.source ∧
    u.alertPosition = t.alertPosition ∧ (u.queue ≠ [] → (ownFragment 1 u).isSome = true)

/-! ### Picture carousels (7.2-7.4) -/

/-- An accepted CAR_SET replaces the list, with position NEXT 0 and no jump, keeps the airing in progress, moves each slot's
user count by the difference of its entries, and completes OK with the count. CAR_JUMP makes the entry the pending jump and
completes OK with it. The refusals, all with aux 0: LANE_STATE for an UNUSED lane; then for CAR_SET BAD_ARG for a count above 12 or a slot
above 63, and NOT_READY for a slot that is not READY; for CAR_JUMP BAD_ARG for an entry not below the list's length. -/
def Obligations.CarouselSlipsSetAndJump : Prop :=
  (∀ (s : State) (r : RecId) (rest : List RecId) (w : WorkRecord) (l : LaneId), (s.lane l).state ≠ .unused →
     let x := s.lane l
     (laneSlipAt .carousel .carSet s r rest w l → w.arg 1 1 ≤ 12 → ∀ slots : List SlotId,
       slots.map (fun i => i.val) = (List.range (w.arg 1 1)).map (fun n => w.arg (2 + n) 1) →
       (∀ i ∈ slots, (s.slot i).record.state = .ready) →
       ∃ t mirrors, exec .carSet s = .next t ∧ t.carousels = rest ∧
         t.lane l = { x with carousel := { x.carousel with entries := slots, position := ⟨.next, 0⟩, jump := none } } ∧
         otherLanesKept l s t ∧ onlyUsers s t ∧
         (∀ i, (t.slot i).users = (s.slot i).users + slots.count i - x.carousel.entries.count i) ∧
         slipWritten s t r w mirrors s.regs 0 (BitVec.ofNat 32 (w.arg 1 1)) s.frames.counter ∧
         t.reader = { s.reader with records := t.reader.records } ∧
         changesOnly [.regs, .reader, .lanes, .carousels, .store, .posted] s t) ∧
     (laneSlipAt .carousel .carJump s r rest w l → w.arg 1 1 < x.carousel.entries.length →
       ∃ t, exec .carJump s = .next t ∧ t.carousels = rest ∧
         t.lane l = { x with carousel := { x.carousel with jump := some (w.arg 1 1) } } ∧ otherLanesKept l s t ∧
         onlyJobs s t ∧ slipCompleted s t r w [] 0 (BitVec.ofNat 32 (w.arg 1 1)) ∧
         changesOnly [.regs, .reader, .lanes, .carousels, .store, .posted] s t)) ∧
  (∀ (s : State) (r : RecId) (rest : List RecId) (w : WorkRecord) (l : LaneId),
     let x := s.lane l
     let named := (List.range (w.arg 1 1)).map fun n => w.arg (2 + n) 1
     let refused (c : Instr) (status : Nat) : Prop := ∃ t, exec c s = .next t ∧ t.carousels = rest ∧ onlyJobs s t ∧
       slipCompleted s t r w [] status 0 ∧ changesOnly [.regs, .reader, .carousels, .store, .posted] s t
     (laneSlipAt .carousel .carSet s r rest w l →
       (x.state = .unused → refused .carSet 6) ∧
       (x.state ≠ .unused → (12 < w.arg 1 1 ∨ ∃ n ∈ named, 63 < n) → refused .carSet 5) ∧
       (x.state ≠ .unused → w.arg 1 1 ≤ 12 → (∀ n ∈ named, n ≤ 63) →
         (∃ i : SlotId, i.val ∈ named ∧ (s.slot i).record.state ≠ .ready) → refused .carSet 11)) ∧
     (laneSlipAt .carousel .carJump s r rest w l →
       (x.state = .unused → refused .carJump 6) ∧
       (x.state ≠ .unused → x.carousel.entries.length ≤ w.arg 1 1 → refused .carJump 5)))

/-- The removal of a condemned slot from a carousel. Every entry naming it goes and the others keep their order; a list that
does not name it is not changed. A position at a kept entry stays at that entry with its mark; one at a removed entry
becomes NEXT at the first kept entry after it, wrapping to 0. A pending jump follows its entry, or goes with it. The airing
in progress and the showing are kept. -/
def Obligations.CondemnedSlotLeavesACarousel : Prop :=
  ∀ (i : SlotId) (c : Carousel),
    (i ∉ c.entries → dropEntries i c = c) ∧
    (i ∈ c.entries →
      let d := dropEntries i c
      let e := c.position.entry
      d.entries = (c.entries.filter fun x => x ≠ i) ∧ d.airing = c.airing ∧ d.showing = c.showing ∧
      (∀ x, c.entries[e]? = some x → x ≠ i → d.position.mark = c.position.mark ∧ d.entries[d.position.entry]? = some x ∧
        d.entries.drop d.position.entry = (c.entries.drop e).filter fun x => x ≠ i) ∧
      (c.entries[e]? = some i → d.position.mark = .next ∧
        (((c.entries.drop e).filter fun x => x ≠ i) ≠ [] →
          d.entries.drop d.position.entry = (c.entries.drop e).filter fun x => x ≠ i) ∧
        (((c.entries.drop e).filter fun x => x ≠ i) = [] → d.position.entry = 0)) ∧
      (∀ j, c.jump = some j →
        (c.entries[j]? = some i → d.jump = none) ∧
        (∀ x, c.entries[j]? = some x → x ≠ i → ∃ k, d.jump = some k ∧ d.entries[k]? = some x ∧
          d.entries.drop k = (c.entries.drop j).filter fun x => x ≠ i)))

/-! ### The picture slips (6.2-6.4) -/

/-- An accepted PIC_OPEN takes the lowest run of blocks that qualifies, makes the slot ERASING with the slip's alert flag,
length and blocks, and queues one erase per block of the run in ascending order. The version and the user count are kept,
the slot's mirror entry is written, no store byte changes, and the slip stays TAKEN until its job ends. That the slot has
its new state when the dispatch is over is assumption 10. -/
def Obligations.PicOpenTakesTheLowestRun : Prop :=
  ∀ (s : State) (r : RecId) (rest : List RecId) (w : WorkRecord) (i : SlotId) (first : Nat),
    slipAt .store .picOpen s r rest w → s.store.loaded = true → w.arg 0 1 = i.val → (s.slot i).record.state = .empty →
    let len := w.arg 4 4
    let flag := (w.argByte 1).getLsbD 0
    let count := (len + 4095) / 4096
    0 < len → len ≤ 262144 → (flag = true → activeAlerts s = []) →
    runFits s flag first count → (∀ f < first, ¬ runFits s flag f count) →
    ∃ t d job, exec .picOpen s = .next t ∧
      d = { (s.slot i).record with state := .erasing, alertFlag := flag, extent := some ⟨first, count, len⟩, crc := none } ∧
      slotRecorded s t i d ∧ (t.slot i).users = (s.slot i).users ∧
      job = { record := r, kind := .opening, slot := i, bank := bankOf first, state := .queued,
              work := .erases (List.range' first count), made := 0, cut := 0 } ∧
      jobEntered s t job (slotMirrorWrite t i) ∧ t.store.queue = rest ∧ t.store.hold = s.store.hold ∧
      t.store.recovery = s.store.recovery ∧ bytesKept s t ∧ changesOnly [.regs, .reader, .store, .posted] s t

/-- What the repetitions of a PIC_WRITE write: each its own bytes up to the end of its length, of its 256-byte page or of
the picture, whichever is first, in the order of the repetitions, one for each that has a byte to write. The bytes written
and the bytes cut off make up all the bytes given. -/
def Obligations.WriteRepetitionsStayInPageAndPicture : Prop :=
  ∀ (host : Addr) (base offset len n size : Nat), 0 < len →
    let reps := writeReps host base offset len n size
    (∀ p ∈ reps, ∃ k ≤ n, 0 < p.length ∧ p.length ≤ len ∧ p.dest = base + offset + k * len ∧ p.host = addrAt host (k * len) ∧
      offset + k * len + p.length ≤ size ∧ (offset + k * len) / 256 = (offset + k * len + p.length - 1) / 256 ∧
      (p.length = len ∨ offset + k * len + p.length = size ∨ (offset + k * len + p.length) % 256 = 0)) ∧
    (∀ k ≤ n, offset + k * len < size → ∃ p ∈ reps, p.dest = base + offset + k * len) ∧
    reps.Pairwise (fun p q => p.dest < q.dest) ∧
    (reps.map Program.length).sum + cutBytes offset len n size = (n + 1) * len

/-- An accepted PIC_WRITE of a FILLING slot queues a job of one page program for each repetition that writes, with the bytes
to be cut off fixed, and changes no slot and no store byte; on an idle store a write that is cut off whole completes at
once with PARTIAL and the bytes cut off. -/
def Obligations.PicWriteQueuesItsPrograms : Prop :=
  ∀ (s : State) (r : RecId) (rest : List RecId) (w : WorkRecord) (i : SlotId),
    slipAt .store .picWrite s r rest w → s.store.loaded = true → w.arg 0 1 = i.val →
    (s.slot i).record.state = .filling → 0 < w.arg 2 2 → w.arg 2 2 ≤ 256 →
    let reps := writeReps (w.argAddr 8) (slotBase s i) (w.arg 4 4) (w.arg 2 2) (w.arg 1 1) (slotLength s i)
    let cut := cutBytes (w.arg 4 4) (w.arg 2 2) (w.arg 1 1) (slotLength s i)
    ∃ t job, exec .picWrite s = .next t ∧
      job = { record := r, kind := .writing, slot := i, bank := slotBank s i, state := .queued, work := .programs reps,
              made := 0, cut := cut } ∧
      jobEntered s t job [] ∧ t.store.slots = s.store.slots ∧ t.store.stored = s.store.stored ∧ t.store.queue = rest ∧
      (reps = [] → storeIdle s → bankHeld s (slotBank s i) = false → (∀ k ∈ s.store.jobs, k.record ≠ r) →
        slipReported s t r w [] s.regs 1 (BitVec.ofNat 32 cut) s.frames.counter ∧ t.store.running = none) ∧
      bytesKept s t ∧ changesOnly [.regs, .reader, .store, .posted] s t

/-- An accepted PIC_SEAL of a FILLING slot makes it SEALING and queues its seal read, changing no store byte. When the read
ends, a CRC-32 of the stored picture equal to the one expected begins the directory write that makes the slot READY under
the next version and completes the slip OK with it; another begins the one that returns it to FILLING and completes the slip
with CHECK_FAILED and the CRC-32 computed. That the slot is SEALING when the dispatch is over is assumption 10. -/
def Obligations.PicSealChecksThePicture : Prop :=
  (∀ (s : State) (r : RecId) (rest : List RecId) (w : WorkRecord) (i : SlotId),
    slipAt .store .picSeal s r rest w → s.store.loaded = true → w.arg 0 1 = i.val → (s.slot i).record.state = .filling →
    ∃ t job, exec .picSeal s = .next t ∧ slotRecorded s t i { (s.slot i).record with state := .sealing } ∧
      (t.slot i).users = (s.slot i).users ∧
      job = { record := r, kind := .seal, slot := i, bank := slotBank s i, state := .queued,
              work := .sealRead (BitVec.ofNat 32 (w.arg 4 4)), made := 0, cut := 0 } ∧
      jobEntered s t job (slotMirrorWrite t i) ∧ t.store.queue = rest ∧ bytesKept s t ∧
      changesOnly [.regs, .reader, .store, .posted] s t) ∧
  (∀ (s : State) (r : RecId) (j : Job) (expected : Word),
    s.store.running = some ⟨.job r, .sealRead⟩ → jobOf s r = some j → j.work = .sealRead expected →
    let sum := crc32 (storeRead s.store.contents (slotBase s j.slot) (slotLength s j.slot))
    let next := (s.slot j.slot).record.version + 1
    ∃ t more, exec .sealReadEnd s = .next t ∧
      t.store.dirWrites = s.store.dirWrites ++ [if sum = expected then
          ⟨j.slot, .toReady sum, some ⟨j.record, 0, next.zeroExtend 32⟩⟩
        else ⟨j.slot, .toFilling, some ⟨j.record, 15, sum⟩⟩] ++ more ∧
      t.store.slots = s.store.slots ∧ t.store.stored = s.store.stored ∧ bytesKept s t ∧
      changesOnly [.regs, .reader, .store, .posted] s t)

/-- An accepted PIC_DROP. A FILLING slot, or a READY one without users, becomes DROPPING and one erase per block is queued.
A READY slot with users becomes CONDEMNED: every carousel entry naming it is removed and its user count falls by them, and
its job waits; if no user is left its directory write to DROPPING begins and its job becomes QUEUED. The store then chooses. No
store byte changes. That the slot has its new state when the dispatch is over is assumption 10, and that a DROPPING slot has no
stored CRC-32 assumption 22. -/
def Obligations.PicDropErasesOrCondemns : Prop :=
  ∀ (s : State) (r : RecId) (rest : List RecId) (w : WorkRecord) (i : SlotId) (e : Extent),
    slipAt .store .picDrop s r rest w → s.store.loaded = true → w.arg 0 1 = i.val →
    (∀ a ∈ activeAlerts s, ∀ v, a.picture ≠ some (i, v)) →
    ((s.slot i).record.alertFlag = true → activeAlerts s = []) → (s.slot i).record.extent = some e →
    let d := (s.slot i).record
    let job (state : JobState) : Job :=
      { record := r, kind := .drop, slot := i, bank := e.bank, state := state, work := .erases (List.range' e.first e.count),
        made := 0, cut := 0 }
    let left := (s.slot i).users - (entriesNaming s i).count i
    ((d.state = .filling ∨ (d.state = .ready ∧ (s.slot i).users = 0)) →
      ∃ t, exec .picDrop s = .next t ∧ slotRecorded s t i { d with state := .dropping, crc := none } ∧
        (t.slot i).users = (s.slot i).users ∧ jobEntered s t (job .queued) (slotMirrorWrite t i) ∧ t.store.queue = rest ∧
        bytesKept s t ∧ changesOnly [.regs, .reader, .store, .posted] s t) ∧
    (d.state = .ready → 0 < (s.slot i).users →
      ∃ t v, exec .picDrop s = .next t ∧ slotRecorded s t i { d with state := .condemned } ∧ (t.slot i).users = left ∧
        (∀ l, t.lane l = { s.lane l with carousel := dropEntries i (s.lane l).carousel }) ∧
        v.store = { s.store with
          queue := rest, slots := t.store.slots, stored := t.store.stored
          jobs := if left = 0 then (s.store.jobs ++ [job .waiting]).map (wakeJob i) else s.store.jobs ++ [job .waiting]
          dirWrites := s.store.dirWrites ++ if left = 0 then [⟨i, .toDropping, none⟩] else [] } ∧
        storeChose v t ∧
        t.store.queue = rest ∧ bytesKept s t ∧ changesOnly [.regs, .reader, .lanes, .store, .posted] s t)

/-- The refusals of the picture slips, in the order of their checks and with aux 0: BAD_ARG for a slot above 63; SLOT_STATE
for a slot in another state; then for PIC_OPEN BAD_ARG for the length, PROTECTED for an alert-flagged slot with an alert
active and NO_SPACE with no run of blocks, for PIC_WRITE BAD_ARG for the length, and for PIC_DROP IN_ALERT for an alert's
picture and PROTECTED for an alert-flagged slot with an alert active. No slot, job of another slip or byte changes. -/
def Obligations.PictureSlipsAreRefusedInOrder : Prop :=
  ∀ (s : State) (r : RecId) (rest : List RecId) (w : WorkRecord), s.store.loaded = true →
    let refused (c : Instr) (status : Nat) : Prop :=
      ∃ t, exec c s = .next t ∧ slipCompleted s t r w [] status 0 ∧
        t.store = { s.store with queue := rest, jobs := t.store.jobs } ∧ changesOnly [.regs, .reader, .store, .posted] s t
    let len := w.arg 4 4
    (slipAt .store .picOpen s r rest w →
      (63 < w.arg 0 1 → refused .picOpen 5) ∧
      ∀ i : SlotId, w.arg 0 1 = i.val →
        let flag := (w.argByte 1).getLsbD 0
        ((s.slot i).record.state ≠ .empty → refused .picOpen 12) ∧
        ((s.slot i).record.state = .empty →
          ((len = 0 ∨ 262144 < len) → refused .picOpen 5) ∧
          (0 < len → len ≤ 262144 → flag = true → activeAlerts s ≠ [] → refused .picOpen 14) ∧
          (0 < len → len ≤ 262144 → (flag = true → activeAlerts s = []) →
            (∀ f, ¬ runFits s flag f ((len + 4095) / 4096)) → refused .picOpen 13))) ∧
    (slipAt .store .picWrite s r rest w →
      (63 < w.arg 0 1 → refused .picWrite 5) ∧
      ∀ i : SlotId, w.arg 0 1 = i.val →
        ((s.slot i).record.state ≠ .filling → refused .picWrite 12) ∧
        ((s.slot i).record.state = .filling → (w.arg 2 2 = 0 ∨ 256 < w.arg 2 2) → refused .picWrite 5)) ∧
    (slipAt .store .picSeal s r rest w →
      (63 < w.arg 0 1 → refused .picSeal 5) ∧
      ∀ i : SlotId, w.arg 0 1 = i.val → (s.slot i).record.state ≠ .filling → refused .picSeal 12) ∧
    (slipAt .store .picDrop s r rest w →
      (63 < w.arg 0 1 → refused .picDrop 5) ∧
      ∀ i : SlotId, w.arg 0 1 = i.val →
        let live := (s.slot i).record.state = .filling ∨ (s.slot i).record.state = .ready
        let shown := ∃ a ∈ activeAlerts s, ∃ v, a.picture = some (i, v)
        (¬ live → refused .picDrop 12) ∧ (live → shown → refused .picDrop 20) ∧
        (live → ¬ shown → (s.slot i).record.alertFlag = true → activeAlerts s ≠ [] → refused .picDrop 14))

/-! ### Store operations, directory writes and recovery (6.3, 6.5) -/

/-- When a block erase ends, every byte of the block reads 0xFF and every other byte as before. The job goes on with its
next block; when its bank is held it is PAUSED with its progress kept, and the store chooses; after its last block the directory
write begins that makes the slot FILLING, completing the PIC_OPEN with the first block, or EMPTY, completing the PIC_DROP with the
blocks erased. A slot of the recovery list goes on likewise, keeping the blocks still to be erased, and ends EMPTY, off the list.
That the directory write ends as an event of its own is assumption 10. -/
def Obligations.BlockEraseEndGoesOnWithTheJob : Prop :=
  ∀ (s : State) (b : Nat),
    (∀ (r : RecId) (j : Job) (done : Nat) (more : List Nat),
      s.store.running = some ⟨.job r, .erase b⟩ → jobOf s r = some j → j.work = .erases (done :: more) →
      ∃ t, exec .blockEraseEnd s = .next t ∧
        (∀ a, storeByte t.store.contents a = if a / 4096 = b then 0xFF else storeByte s.store.contents a) ∧
        t.store.slots = s.store.slots ∧ t.store.stored = s.store.stored ∧
        changesOnly [.regs, .reader, .store, .posted] s t ∧
        (∀ next rest, more = next :: rest →
          (bankHeld s j.bank = false → t.store.running = some ⟨.job r, .erase next⟩ ∧
            jobOf t r = some { j with work := .erases more, made := j.made + 1 } ∧ changesOnly [.store] s t) ∧
          (bankHeld s j.bank = true →
            let paused := { j with work := .erases more, made := j.made + 1, state := .paused }
            t.store.running ≠ some ⟨.job r, .erase next⟩ ∧ jobOf t r = some paused ∧
            ∃ v, v.store = { s.store with
                contents := t.store.contents, running := none
                jobs := s.store.jobs.map fun k => if k.record = r then paused else k } ∧
              storeChose v t)) ∧
        (more = [] → ∃ others, t.store.dirWrites = s.store.dirWrites ++ [match j.kind with
            | .drop => ⟨j.slot, .toEmpty, some ⟨j.record, 0, BitVec.ofNat 32 (j.made + 1)⟩⟩
            | _ => ⟨j.slot, .toFilling, some ⟨j.record, 0, match (s.slot j.slot).record.extent with
                | some e => BitVec.ofNat 32 e.first
                | none => 0⟩⟩] ++ others)) ∧
    (∀ (i : SlotId) (e : Recovery) (done : Nat) (more : List Nat),
      s.store.running = some ⟨.recovery i, .erase b⟩ → s.store.recovery.find? (fun x => x.slot = i) = some e →
      e.blocks = done :: more →
      ∃ t, exec .blockEraseEnd s = .next t ∧
        (∀ a, storeByte t.store.contents a = if a / 4096 = b then 0xFF else storeByte s.store.contents a) ∧
        (∀ next rest, more = next :: rest →
          t.store.recovery = (s.store.recovery.map fun x => if x.slot = i then { x with blocks := more } else x) ∧
          (bankHeld s e.bank = false → t.store.running = some ⟨.recovery i, .erase next⟩ ∧ changesOnly [.store] s t) ∧
          (bankHeld s e.bank = true →
            ∃ v, v.store = { s.store with contents := t.store.contents, running := none, recovery := t.store.recovery } ∧
              storeChose v t)) ∧
        (more = [] → t.store.recovery = (s.store.recovery.filter fun x => x.slot ≠ i) ∧
          ∃ others, t.store.dirWrites = s.store.dirWrites ++ [⟨i, .toEmpty, none⟩] ++ others))

/-- When the host read of a repetition ends, its page program starts, unless its bank has come to be held: then the job waits as
QUEUED, or as PAUSED once an operation of it has run. When the read ends in a PCIe error, nothing is programmed, the job ends,
its entry leaves the queue, and the slip completes with FETCH_FAULT and the repetitions written before. With no program started
the store chooses. No store byte changes. That a held bank stops the program is assumption 11. That a work record has one job at
most is kept by every step (O56). -/
def Obligations.WriteHostReadStartsTheProgram : Prop :=
  ∀ (h : HostView) (s : State) (r : RecId) (p : Program) (j : Job) (w : WorkRecord),
    s.store.running = some ⟨.job r, .hostRead p⟩ → jobOf s r = some j → s.work r = some w →
    (s.store.jobs.map Job.record).Nodup →
    (∀ data, hostRead h p.host p.length = some data →
      (bankHeld s j.bank = false → ∃ t, exec (.writeHostRead h) s = .next t ∧
        t.store = { s.store with running := some ⟨.job r, .program p.dest data⟩ } ∧ changesOnly [.store] s t) ∧
      (bankHeld s j.bank = true → ∃ t, exec (.writeHostRead h) s = .next t ∧
        (∀ dest bytes, t.store.running ≠ some ⟨.job r, .program dest bytes⟩) ∧ bytesKept s t ∧
        jobOf t r = some { j with state := if j.made = 0 then .queued else .paused } ∧
        (∃ v, v.store = { s.store with
            running := none
            jobs := s.store.jobs.map fun k =>
              if k.record = r then { k with state := if k.made = 0 then .queued else .paused } else k } ∧
          storeChose v t) ∧
        changesOnly [.regs, .reader, .store, .posted] s t)) ∧
    (hostRead h p.host p.length = none → ∃ t after, exec (.writeHostRead h) s = .next t ∧
      (∀ k ∈ t.store.jobs, k.record ≠ r) ∧
      (∃ v, v.store = { s.store with running := none } ∧ storeChose (withoutJob r v) t) ∧
      t.posted = s.posted ++ completionWrites s.regs.anchor w 23 (BitVec.ofNat 32 j.made) s.frames.counter ++ after ∧
      t.work r = none ∧ t.store.slots = s.store.slots ∧ bytesKept s t ∧
      changesOnly [.regs, .reader, .store, .posted] s t)

/-- When a page program ends, each byte of it is its old value AND the byte read, and every other byte reads as before. The
job goes on with the host read of its next repetition, or, its bank being held, is PAUSED with its progress kept; after its
last its entry leaves the queue and the slip completes: OK with aux 0 when no byte was cut off, else PARTIAL with the bytes cut
off. When the job does not go on the store chooses. -/
def Obligations.PageProgramEndClearsBits : Prop :=
  ∀ (s : State) (r : RecId) (dest : Nat) (data : List Byte) (j : Job) (w : WorkRecord) (done : Program)
    (more : List Program), StoreSound s →
    s.store.running = some ⟨.job r, .program dest data⟩ → jobOf s r = some j → j.work = .programs (done :: more) →
    s.work r = some w →
    ∃ t, exec .pageProgramEnd s = .next t ∧
      (∀ a, storeByte t.store.contents a =
        if dest ≤ a ∧ a < dest + data.length then storeByte s.store.contents a &&& data.getD (a - dest) 0
        else storeByte s.store.contents a) ∧
      t.store.slots = s.store.slots ∧ t.store.stored = s.store.stored ∧
      changesOnly [.regs, .reader, .store, .posted] s t ∧
      (∀ next rest, more = next :: rest → bankHeld s j.bank = false →
        t.store.running = some ⟨.job r, .hostRead next⟩ ∧
          jobOf t r = some { j with work := .programs more, made := j.made + 1 } ∧ changesOnly [.store] s t) ∧
      (more ≠ [] → bankHeld s j.bank = true →
        let paused := { j with work := .programs more, made := j.made + 1, state := .paused }
        jobOf t r = some paused ∧
        ∃ v, v.store = { s.store with
            contents := t.store.contents, running := none
            jobs := s.store.jobs.map fun k => if k.record = r then paused else k } ∧
          storeChose v t) ∧
      (more = [] → (∀ k ∈ t.store.jobs, k.record ≠ r) ∧
        (∃ v, v.store = { s.store with contents := t.store.contents, running := none } ∧ storeChose (withoutJob r v) t) ∧
        t.work r = none ∧ ∃ after, t.posted = s.posted ++
        completionWrites s.regs.anchor w (if j.cut = 0 then 0 else 1) (BitVec.ofNat 32 j.cut) s.frames.counter ++ after)

/-- When the oldest directory write under way ends, the slot takes its new state in the stored directory and in the working
copy, with the fields that change with it, its mirror entry is written, and the slip that the write completes is completed
after it. The user counts, the other slots and every store byte are kept. When the read of the stored directory after a
reset ends, the working copy holds every slot as stored, with no user, and recovery begins: directory writes for each
SEALING slot to FILLING and each CONDEMNED slot to DROPPING, and the slots found ERASING, DROPPING or CONDEMNED on the
recovery list with all their blocks, in ascending slot order. No store byte changes. A second such event changes nothing.
That directory writes end one by one, oldest first, is assumption 10; that the working copy holds no slot until it is read is
assumption 5; that a second such event changes nothing is assumption 1; and that a slot made FILLING or DROPPING has no stored
CRC-32 is assumption 22. -/
def Obligations.DirectoryWriteEndChangesTheSlot : Prop :=
  (∀ (s : State) (x : DirWrite) (rest : List DirWrite), s.store.dirWrites = x :: rest →
     let d := (s.slot x.slot).record
     let d' : DirRecord := match x.change with
       | .toFilling => { d with state := .filling, crc := none }
       | .toReady sum => { d with state := .ready, version := d.version + 1, crc := some sum }
       | .toEmpty => { d with state := .empty, alertFlag := false, extent := none, crc := none }
       | .toDropping => { d with state := .dropping, crc := none }
     ∃ t more, exec .directoryWriteEnd s = .next t ∧ slotRecorded s t x.slot d' ∧
       (t.slot x.slot).users = (s.slot x.slot).users ∧ t.store.dirWrites = rest ++ more ∧ bytesKept s t ∧
       (∃ after, t.posted = s.posted ++ slotMirrorWrite t x.slot ++ (match x.completes with
         | none => []
         | some c => match s.work c.record with
           | none => []
           | some w => completionWrites s.regs.anchor w c.status c.aux s.frames.counter) ++ after) ∧
       (∀ c, x.completes = some c → t.work c.record = none) ∧ changesOnly [.regs, .reader, .store, .posted] s t) ∧
  (∀ (s : State),
     (s.store.loaded = true → exec .storedDirectoryRead s = .next s) ∧
     (s.store.loaded = false →
       ∃ t others, exec .storedDirectoryRead s = .next t ∧ t.store.loaded = true ∧ t.store.stored = s.store.stored ∧
         (∀ i, t.slot i = ⟨s.store.stored[i], 0⟩) ∧
         t.store.recovery = s.store.recovery ++ ((List.finRange 64).filterMap fun i =>
           match s.store.stored[i].state, s.store.stored[i].extent with
           | .erasing, some e => some ⟨i, e.bank, e.blocks⟩
           | .dropping, some e => some ⟨i, e.bank, e.blocks⟩
           | .condemned, some e => some ⟨i, e.bank, e.blocks⟩
           | _, _ => none) ∧
         t.store.dirWrites = s.store.dirWrites ++ ((List.finRange 64).filterMap fun i =>
           match s.store.stored[i].state with
           | .sealing => some ⟨i, .toFilling, none⟩
           | .condemned => some ⟨i, .toDropping, none⟩
           | _ => none) ++ others ∧
         bytesKept s t ∧ changesOnly [.regs, .reader, .store, .posted] s t))

/-! ### Alerts (8.2-8.5) -/

/-- A dispatched ALERT_RAISE with a text to read starts its read, and changes nothing else. A raise that passes the ten checks, at
its dispatch when it has no text to read and else at the end of its read, is applied as one step: the lowest free place holds
the alert as RAISED with the slip's fields; for each target ascending and each field taken in the order AUDIO, TEXT, PICTURE an
entry with the field's present value goes on top of the log and the field becomes the alert's; own airings of lanes whose
pictures are taken from OWN are abandoned, each a user less of its slot; the picture gains a user and bank 0 a hold; a CONDEMNED
slot left without users begins to become DROPPING; and the store chooses. The slip stays TAKEN and no store byte changes. That a
raise with a text is checked at the end of its read is assumption 18. -/
def Obligations.AlertRaiseTakesItsFields : Prop :=
  (∀ (s : State) (r : RecId) (rest : List RecId) (w : WorkRecord),
    slipAt .alert .alertRaise s r rest w → s.alerts.checking = none →
    (raiseOf w).take.text = true → 0 < (raiseOf w).textLength → (raiseOf w).textLength ≤ 128 →
    ∃ t, exec .alertRaise s = .next t ∧ t.alerts = { s.alerts with queue := rest, checking := some r } ∧
      changesOnly [.alerts] s t) ∧
  (∀ (c : Instr) (s : State) (r : RecId) (rest : List RecId) (w : WorkRecord), decidesRaise c s r rest w →
    let q := raiseOf w
    raiseFault s q (textAt c q) = none →
    let fields : List Field := [Field.audio, .text, .picture].filter q.takes
    let abandoned (l : LaneId) : Option SlotId :=
      if q.take.picture = true ∧ (s.lane l).pictureFrom = .own then (s.lane l).carousel.airing.map Airing.slot else none
    ∃ (t v : State) (p : PlaceId), exec c s = .next t ∧ s.alerts.places[p] = none ∧
      (∀ p' : PlaceId, p' < p → s.alerts.places[p'] ≠ none) ∧
      t.alerts = { s.alerts with
        queue := rest
        checking := none
        log := s.alerts.log ++ q.targets.flatMap fun l => fields.map fun f => ⟨q.id, l, f, (s.lane l).sourceOf f⟩
        places := s.alerts.places.set p (some
          { id := q.id, level := q.level, state := .raised, take := q.take, targets := q.targets
            source := if q.take.audio then laneOf q.source else none
            width := if q.take.audio then q.width else 0
            text := match c with
              | .alertRaiseApply h => if q.take.text then hostRead h q.textAddr q.textLength else none
              | _ => none
            picture := if q.take.picture then (slotOf q.slot).map fun i => (i, (s.slot i).record.version) else none
            onAirFrame := none, raiseRecord := r, endRecord := none }) } ∧
      (∀ l f, (t.lane l).sourceOf f = if l ∈ q.targets ∧ q.takes f = true then .alert q.id else (s.lane l).sourceOf f) ∧
      (∀ l, (t.lane l).carousel =
        if l ∈ q.targets ∧ q.take.picture = true ∧ (s.lane l).pictureFrom = .own ∧ (s.lane l).carousel.airing ≠ none then
          { (s.lane l).carousel with airing := none, position := ⟨.next, (s.lane l).carousel.position.entry⟩ }
        else (s.lane l).carousel) ∧
      (∀ l, t.lane l = { s.lane l with
        audioFrom := (t.lane l).audioFrom, textFrom := (t.lane l).textFrom, pictureFrom := (t.lane l).pictureFrom,
        carousel := (t.lane l).carousel }) ∧
      (∀ i, (t.slot i).users = (s.slot i).users - q.targets.countP (fun l => decide (abandoned l = some i)) +
        if q.take.picture = true ∧ slotOf q.slot = some i then 1 else 0) ∧
      t.store.hold = s.store.hold + (if q.take.picture then 1 else 0) ∧ (∀ i, (t.slot i).record = (s.slot i).record) ∧
      v.store.slots = t.store.slots ∧ droppingBegun (s.setStore { s.store with hold := t.store.hold }) v ∧ storeChose v t ∧
      ((∀ j ∈ s.store.jobs, j.record ≠ r) → t.work r = some w) ∧
      (∃ before after, t.posted = s.posted ++ before ++ [alertMirrorWrite t p] ++ after) ∧ bytesKept s t ∧
      changesOnly [.regs, .reader, .lanes, .store, .alerts, .posted] s t)

/-- The checks of an ALERT_RAISE in their order, the first that fails deciding status and aux: DUPLICATE; ALERT_LIMIT; BAD_ARG
for the arguments; LANE_STATE with the lowest target that is UNUSED or not aired; BAD_ARG for the source lane; ALERT_BOUND
or ALERT_TOO_WIDE with the target; NOT_READY for the picture; LOG_FULL with the free entries; FETCH_FAULT; BAD_ARG for a
zero byte. They are made at the dispatch of a raise with no text to read, and at the end of its read for another (assumption
18). A refused raise leaves records, log, lanes, user counts and the hold count as they were. -/
def Obligations.AlertRaiseIsRefusedInOrder : Prop :=
  ∀ (c : Instr) (s : State) (r : RecId) (rest : List RecId) (w : WorkRecord), decidesRaise c s r rest w →
    let q := raiseOf w
    let refused (status : Nat) (aux : Word) : Prop :=
      ∃ t, exec c s = .next t ∧ t.alerts = { s.alerts with queue := rest, checking := none } ∧ onlyJobs s t ∧
        slipCompleted s t r w [] status aux ∧ changesOnly [.regs, .reader, .alerts, .store, .posted] s t
    let duplicate := ∃ a ∈ activeAlerts s, a.id = q.id
    let full := ∀ p : PlaceId, s.alerts.places[p] ≠ none
    let badArg := q.id = 0 ∨ q.level = 0 ∨ 3 < q.level ∨ q.targets = [] ∨
      (q.take.audio = false ∧ q.take.text = false ∧ q.take.picture = false) ∨
      (q.take.text = true ∧ (q.textLength = 0 ∨ 128 < q.textLength)) ∨
      (q.take.audio = true ∧ (q.width = 0 ∨ (24 ≤ q.source ∧ q.source ≠ 255))) ∨ (q.take.picture = true ∧ 63 < q.slot)
    let unfit (l : LaneId) := (s.lane l).state = .unused ∨ aired s l = false
    let badSource := q.take.audio = true ∧
      (24 ≤ q.source ∨ ∃ l : LaneId, l.val = q.source ∧ ((s.lane l).state = .unused ∨ l ∈ q.targets))
    let narrow (m : AirMap) (l : LaneId) := q.take.audio = true ∧ ∃ e, m.entry? l = some e ∧ e.reserved < q.width
    let unbound (l : LaneId) := ∃ p, s.maps.upcoming = some p ∧ p.map.entry? l = none
    let tooWide (l : LaneId) := ¬ unbound l ∧
      (narrow s.maps.active l ∨ ∃ p, s.maps.upcoming = some p ∧ narrow p.map l)
    let first (bad : LaneId → Prop) (l : LaneId) := l ∈ q.targets ∧ bad l ∧ ∀ k ∈ q.targets, k < l → ¬ bad k
    let passes1 := ¬ duplicate ∧ ¬ full ∧ ¬ badArg
    let passes2 := passes1 ∧ (∀ l ∈ q.targets, ¬ unfit l) ∧ ¬ badSource
    let passes3 := passes2 ∧ ∀ l ∈ q.targets, ¬ unbound l ∧ ¬ tooWide l
    let notReady := q.take.picture = true ∧ ∀ i : SlotId, i.val = q.slot →
      (s.slot i).record.state ≠ .ready ∨ (s.slot i).record.alertFlag = false
    let free := 64 - s.alerts.log.length
    let wanted := q.targets.length * ([Field.audio, .text, .picture].filter q.takes).length
    (duplicate → refused 21 0) ∧ (¬ duplicate → full → refused 17 0) ∧ (¬ duplicate → ¬ full → badArg → refused 5 0) ∧
    (passes1 → ∀ l, first unfit l → refused 6 (BitVec.ofNat 32 l.val)) ∧
    (passes1 → (∀ l ∈ q.targets, ¬ unfit l) → badSource → refused 5 0) ∧
    (passes2 → ∀ l, first (fun l => unbound l ∨ tooWide l) l →
      (unbound l → refused 19 (BitVec.ofNat 32 l.val)) ∧ (tooWide l → refused 18 (BitVec.ofNat 32 l.val))) ∧
    (passes3 → notReady → refused 11 0) ∧
    (passes3 → ¬ notReady → free < wanted → refused 16 (BitVec.ofNat 32 free)) ∧
    (passes3 → ¬ notReady → wanted ≤ free → ∀ h, c = .alertRaiseApply h → q.take.text = true →
      (hostRead h q.textAddr q.textLength = none → refused 23 0) ∧
      ∀ text, hostRead h q.textAddr q.textLength = some text → (0 : Byte) ∈ text → refused 5 0)

/-- An ALERT_END of an ON_AIR alert makes it ENDING and removes its log entries by the pass-up rule, in one step; the slip
stays TAKEN. An id that no active alert has is refused with NOT_FOUND, and a RAISED or ENDING alert with BUSY. -/
def Obligations.AlertEndRemovesItsEntries : Prop :=
  ∀ (s : State) (r : RecId) (rest : List RecId) (w : WorkRecord),
    slipAt .alert .alertEnd s r rest w → s.alerts.checking = none → ((activeAlerts s).map Alert.id).Nodup →
    let refused (status : Nat) : Prop :=
      ∃ t, exec .alertEnd s = .next t ∧ t.alerts = { s.alerts with queue := rest } ∧ onlyJobs s t ∧
        slipCompleted s t r w [] status 0 ∧ changesOnly [.regs, .reader, .alerts, .store, .posted] s t
    ((∀ a ∈ activeAlerts s, a.id ≠ w.argByte 0) → refused 10) ∧
    (∀ (p : PlaceId) (a : Alert), s.alerts.places[p] = some a → a.id = w.argByte 0 →
      (a.state ≠ .onAir → refused 22) ∧
      (a.state = .onAir → ∃ t, exec .alertEnd s = .next t ∧
        t.alerts = { s.alerts with queue := rest, log := (passUp a.id s.alerts.log s.lanes).1,
                                   places := s.alerts.places.set p (some { a with state := .ending, endRecord := some r }) } ∧
        t.lanes = (passUp a.id s.alerts.log s.lanes).2 ∧ t.posted = s.posted ++ [alertMirrorWrite t p] ∧
        changesOnly [.lanes, .alerts, .posted] s t))

/-- The pass-up rule. On a log that agrees with the crosspoint, with one entry per alert, lane and field, removing an alert's
entries leaves the other entries, in their order, and a log that again agrees: every source field names the alert of its
topmost entry or OWN, and every previous value what the entries below give. No field that another alert holds on top of it
is written, and nothing of a lane but its source fields changes. -/
def Obligations.PassUpKeepsTheCrosspointTrue : Prop :=
  ∀ (id : Byte) (log : List LogEntry) (lanes : Vector Lane 24),
    (log.map fun e => (e.alert, e.lane, e.field)).Nodup → logChained [] log →
    (∀ (l : LaneId) (f : Field), lanes[l].sourceOf f = logSource log l f) →
    let out := passUp id log lanes
    (out.1.map fun e => (e.alert, e.lane, e.field)) =
      ((log.filter fun e => e.alert ≠ id).map fun e => (e.alert, e.lane, e.field)) ∧
    logChained [] out.1 ∧ (∀ (l : LaneId) (f : Field), out.2[l].sourceOf f = logSource out.1 l f) ∧
    (∀ (l : LaneId) (f : Field), lanes[l].sourceOf f ≠ .alert id → out.2[l].sourceOf f = lanes[l].sourceOf f) ∧
    ∀ l : LaneId, out.2[l] = { lanes[l] with
      audioFrom := out.2[l].audioFrom, textFrom := out.2[l].textFrom, pictureFrom := out.2[l].pictureFrom }

/-! ### The air link and the frames (3.2-3.9) -/

/-- AIR_RST_N going low makes the link DOWN and stops a transmission with AIR_DATA held low; going high it makes the link UP;
the end of a transmission leaves AIR_DATA between transmissions; a pull on a DOWN link or during a transmission is ignored.
Nothing else changes, and no frame is unsent.
A pull taken in STOPPED is answered with a void frame: it is in transmission, the frame counter and the void count rise
by one, the announce count it carried falls, every lane's pacing count rises up to 16, the frame mirror is written, a
MAP_LOAD whose switch-over was made completes OK with the counter, and no notice but that slip's is raised. -/
def Obligations.LinkEventsAndPullInStopped : Prop :=
  (∀ (s : State),
     (s.link.airRstN = true → ∃ t, exec .airRstFall s = .next t ∧ changesOnly [.link] s t ∧ t.link.airRstN = false ∧
       t.link.airData = (match s.link.airData with | .sending _ => .heldLow | other => other)) ∧
     (∃ t, exec .airRstRise s = .next t ∧ changesOnly [.link] s t ∧ t.link = { s.link with airRstN := true }) ∧
     (∀ f, s.link.airData = .sending f →
       ∃ t, exec .transmissionEnd s = .next t ∧ changesOnly [.link] s t ∧ t.link = { s.link with airData := .idle }) ∧
     (∀ begun, (s.link.airRstN = false ∨ ∃ f, s.link.airData = .sending f) → exec (.airPull begun) s = .next s)) ∧
  (∀ (begun : List LaneId) (s : State), s.link.airRstN = true → (∀ f, s.link.airData ≠ .sending f) →
     s.frames.assembler = .stopped →
     ∃ t, exec (.airPull begun) s = .next t ∧ voidSent s t)

/-- A pull taken in ASSEMBLING is late. A void frame is sent, with what its send commits: the counters, the announce count, the
pacing, the frame mirror and a MAP_LOAD whose switch-over was made. The assembly is thrown away: each unit that a region had
taken is a late drop of its lane, and the fetches begun are kept to run to their ends (assumption 17). VOID is raised, and a new
assembly begins with the next counter, any due switch-over made first. Credits change only by that switch-over, the pool cursor
and the alerts stay as they were, and no store byte changes. That an assembly with nothing to fetch goes straight to its side
items is assumption 16. -/
def Obligations.LatePullAbandonsTheAssembly : Prop :=
  ∀ (begun : List LaneId) (s : State) (p : Plan) (c : Carriage), s.link.airRstN = true →
    (∀ f, s.link.airData ≠ .sending f) → s.frames.assembler = .assembling p c →
    ∃ t v u p' c', exec (.airPull begun) s = .next t ∧ voidSent s v ∧
      u.frames = { v.frames with assembler := .stopped, stragglers := s.frames.stragglers ++ fetchesBegun s begun } ∧
      u.regs = withCause .void v.regs ∧ u.posted = v.posted ++ messageFor .void v.regs ∧
      (∀ l, u.lane l = { v.lane l with counts := { (s.lane l).counts with lateDrop := (t.lane l).counts.lateDrop } }) ∧
      changesOnly [.regs, .lanes, .frames, .posted] v u ∧
      assemblyBegun (switchOver u) t p' c' ∧ changesOnly [.lanes, .maps, .frames, .store, .posted] u t ∧
      t.link = { s.link with airData := .sending (voidFrame s) } ∧
      t.frames.counter = s.frames.counter + 1 ∧ t.frames.voidCount = s.frames.voidCount + 1 ∧
      p'.counter = s.frames.counter + 1 ∧
      p'.lanes.map PlanLane.entry = t.maps.active.entries ∧ hasCause t.regs.notice .void = true ∧
      (∀ l, (t.lane l).counts.lateDrop.toNat =
          min 65535 ((s.lane l).counts.lateDrop.toNat + s.frames.assembler.carriedUnits l) ∧
        (t.lane l).counts = { (s.lane l).counts with lateDrop := (t.lane l).counts.lateDrop } ∧
        (t.lane l).state = (s.lane l).state ∧ (t.lane l).feed = (s.lane l).feed ∧
        (t.lane l).credit = ((switchOver u).lane l).credit) ∧
      bytesKept s t ∧ changesOnly [.regs, .reader, .lanes, .maps, .frames, .link, .store, .posted] s t

/-- A pull taken in READY sends the finished frame as built, with the commits of its carriage record (O49 says what they are): it
is in transmission, the frame counter rises by one, a count that the frame announced falls by one, the pool cursor becomes the
one entered, RAISED alerts of the plan come on air with the counter and ENDING ones outside it are freed, and each unit carried
adds one to its lane's units aired. After the mirrors of the commits, the frame mirror and the lane mirrors are written with the
plan's counter (their order is assumption 38), and then the slips that waited on the send complete OK, aux and done frame both the
plan's counter; no other slip's record is freed. The store chooses, and a new assembly begins, any due switch-over made first.
The void count and every store byte are kept. That an assembly with nothing to fetch goes straight to its side items is assumption
16. -/
def Obligations.PullInReadySendsTheFrame : Prop :=
  ∀ (begun : List LaneId) (s : State) (p : Plan) (c : Carriage) (frame : List Byte), s.link.airRstN = true →
    (∀ f, s.link.airData ≠ .sending f) → s.frames.assembler = .ready p c frame →
    let v := commitFrame p c { s with
      link := { s.link with airData := .sending frame }
      frames := { s.frames with counter := s.frames.counter + 1 }
      maps := { s.maps with upcoming :=
        if 0 < p.announce then s.maps.upcoming.map fun m => { m with announce := p.announce - 1 } else s.maps.upcoming } }
    let mirrors : List Posted :=
      .write [⟨addrAt s.regs.anchor 0x2400, frameMirror v p.counter⟩] ::
        ((p.lanes.map fun pl => pl.entry.lane) ++
          (c.fetched.map Fetched.lane).filter fun l => ∀ pl ∈ p.lanes, pl.entry.lane ≠ l).map fun l =>
            laneMirrorWrite v l p.counter
    let waits (r : RecId) : Prop :=
      (∃ a ∈ activeAlerts s, a.state = .raised ∧ (∃ b ∈ p.alerts, b.id = a.id) ∧ a.raiseRecord = r) ∨
      (∃ a ∈ activeAlerts s, freedBy p a = true ∧ a.endRecord = some r) ∨ s.maps.switched = some r
    ∃ t u p' c' completions, exec (.airPull begun) s = .next t ∧ t.link = { s.link with airData := .sending frame } ∧
      t.frames.counter = s.frames.counter + 1 ∧ t.frames.voidCount = s.frames.voidCount ∧
      p'.counter = s.frames.counter + 1 ∧ t.cursor = c.cursorNext ∧
      (∀ i : PlaceId, t.alerts.places[i] = placeAfterSend p p.counter s.alerts.places[i]) ∧
      t.alerts.log = s.alerts.log ∧
      (∀ l, (t.lane l).counts.unitsAired =
        (s.lane l).counts.unitsAired + BitVec.ofNat 32 (s.frames.assembler.carriedUnits l) ∧
        (t.lane l).state = (s.lane l).state ∧ (t.lane l).feed = (s.lane l).feed) ∧
      u.maps = { v.maps with switched := none } ∧ u.posted = v.posted ++ mirrors ++ completions ∧
      (∀ r w, waits r → s.work r = some w → t.work r = none ∧ (∀ j ∈ u.store.jobs, j.record ≠ r) ∧
        (w.wantsNotice = true → hasCause t.regs.notice .slip = true) ∧ ∃ before after, completions =
          before ++ completionWrites s.regs.anchor w 0 p.counter p.counter ++ after) ∧
      (∀ r, ¬ waits r → (∀ j ∈ s.store.jobs, j.record ≠ r) → t.work r = s.work r) ∧
      u.store.slots = v.store.slots ∧
      (∃ x, x.store = { v.store with jobs := x.store.jobs } ∧
        (∀ j, j ∈ x.store.jobs ↔ j ∈ v.store.jobs ∧ ¬ (waits j.record ∧ s.work j.record ≠ none)) ∧
        x.store.jobs.Sublist v.store.jobs ∧ storeChose x u) ∧
      u.regs = { s.regs with notice := u.regs.notice } ∧ changesOnly [.regs, .reader, .maps, .store, .posted] v u ∧
      assemblyBegun (switchOver u) t p' c' ∧ changesOnly [.lanes, .maps, .frames, .store, .posted] u t ∧
      bytesKept s t ∧
      changesOnly [.regs, .reader, .lanes, .maps, .frames, .link, .cursor, .store, .alerts, .posted] s t

/-- What the send of an assembled frame commits to a lane of the carriage record, whose lanes are distinct: the credit
computed, or 0 for a lane that is HALTED at the send; one more saturation for a marked lane and one more filler for a
region that carried filler, both up to 65535; the text commit; and the pool cursor entered. The picture commit: own pieces of
the airing in progress advance it, or end it with LAST, the position going on and a pending jump used; alert pieces advance the
showing. A slot loses a user for each airing that ends and each alert freed with it as picture, and bank 0 a hold for each such
alert; a CONDEMNED slot left without users begins to become DROPPING.
The text commit: a fragment of the lane restarts the pacing count, one of its own head with more to come advances the
position, one whose head has changed does not, one of an alert's text advances the alert position while that alert is the
text source and never touches the own queue; a send with no fragment counts the pacing up to 16. -/
def Obligations.SendCommitsTheCarriageRecord : Prop :=
  (∀ (s : State) (p : Plan) (c : Carriage), (c.lanes.map LaneCarriage.lane).Nodup →
     let v := commitFrame p c s
     v.cursor = c.cursorNext ∧ v.alerts.log = s.alerts.log ∧
     (∀ i : PlaceId, v.alerts.places[i] = placeAfterSend p p.counter s.alerts.places[i]) ∧
     (∀ l, v.lane l = { s.lane l with
       credit := (v.lane l).credit, saturation := (v.lane l).saturation, text := (v.lane l).text,
       carousel := (v.lane l).carousel
       counts := { (s.lane l).counts with
         unitsAired := (s.lane l).counts.unitsAired + BitVec.ofNat 32 ((Assembler.ready p c []).carriedUnits l)
         filler := (v.lane l).counts.filler, pictureStall := (v.lane l).counts.pictureStall } }) ∧
     (∀ i, (v.slot i).users = (s.slot i).users -
       c.lanes.countP (fun lc => decide (airingEnds lc (s.lane lc.lane).carousel = some i)) -
       (activeAlerts s).countP fun a => freedBy p a && decide (a.picture.map Prod.fst = some i)) ∧
     v.store.hold = s.store.hold - (activeAlerts s).countP (fun a => freedBy p a && a.picture.isSome) ∧
     droppingBegun (s.setStore { s.store with hold := v.store.hold }) v ∧
     (∃ mirrors, v.posted = s.posted ++ mirrors) ∧
     changesOnly [.lanes, .cursor, .store, .alerts, .posted] s v ∧
     (∀ l, (∀ lc ∈ c.lanes, lc.lane ≠ l) →
       (v.lane l).credit = (s.lane l).credit ∧ (v.lane l).saturation = (s.lane l).saturation ∧
       (v.lane l).text = commitText none (s.lane l).text ∧ (v.lane l).carousel = (s.lane l).carousel ∧
       (v.lane l).counts.filler = (s.lane l).counts.filler ∧
       (v.lane l).counts.pictureStall = (s.lane l).counts.pictureStall) ∧
     (∀ lc ∈ c.lanes,
       let x := s.lane lc.lane
       let y := v.lane lc.lane
       y.credit = (if x.state = .halted then 0 else lc.credit) ∧
       y.saturation = (if lc.saturated then satInc x.saturation else x.saturation) ∧
       y.text = commitText lc.fragment x.text ∧ y.carousel = carouselSent lc x.carousel ∧
       y.counts.filler = (match lc.audio with | .filler _ => satInc x.counts.filler | _ => x.counts.filler) ∧
       y.counts.pictureStall = (if lc.stalled then satInc x.counts.pictureStall else x.counts.pictureStall))) ∧
  (∀ (t : TextState) (f : Fragment),
     (commitText (some f) t).pacing = 1 ∧
     (f.alert = none → f.last = false → ∀ m rest, t.queue = m :: rest → m.id = f.textId → m.version = f.version →
       commitText (some f) t = { t with position := f.index + 1, pacing := 1 }) ∧
     (f.alert = none → (∀ m, t.queue.head? = some m → m.id ≠ f.textId ∨ m.version ≠ f.version) →
       commitText (some f) t = { t with pacing := 1 }) ∧
     (∀ id, f.alert = some id → commitText (some f) t =
       { t with
         alertPosition := if t.source = .alert id then (if f.last then 0 else f.index + 1) else t.alertPosition
         pacing := 1 }) ∧
     commitText none t = { t with pacing := min (t.pacing + 1) 16 })

/-- The last fetch of an assembly acts on the feed as any other fetch does, and then ends the fetch stage: the text source changes
and the alert showing of each lane of the plan's map are made, airings start, each with its user, the side wants are stated and
the pool is shared over those lanes from the pool cursor, so that the assembly lays side items. Each lane's audio outcome, grant,
credit, saturation mark, fragment, picture choice and cells for pictures, and the next cursor, are those that the rules give from
the wants; the cells for pictures beyond a want capped at 48 are assumption 41. A fetch for an unaired source lane that is no
longer READY is not made, as the last fetch or with others still to make: then it only leaves the lanes to be fetched. The grants
fit the plan's pool, and no lane is granted more than 49 cells. -/
def Obligations.LastFetchSharesThePool : Prop :=
  ∀ (l : LaneId) (h : HostView) (s : State) (p : Plan) (c : Carriage),
    s.frames.assembler = .assembling p c → c.stage = .fetching → (∀ g ∈ s.frames.stragglers, g.lane ≠ l) →
    ((∀ pl ∈ p.lanes, pl.entry.lane ≠ l) → (s.lane l).state ≠ .ready → l ∈ c.toFetch → (∃ k ∈ c.toFetch, k ≠ l) →
      ∃ t, exec (.laneFetch l h) s = .next t ∧ changesOnly [.frames] s t ∧
        t.frames = { s.frames with
          assembler := .assembling p { c with toFetch := c.toFetch.filter fun k => k ≠ l } }) ∧
    (c.toFetch = [l] →
    ∃ t c', exec (.laneFetch l h) s = .next t ∧ t.frames = { s.frames with assembler := .assembling p c' } ∧
      c'.stage = .items ∧ c'.toFetch = [] ∧
      c'.lanes.map LaneCarriage.lane = p.lanes.map (fun pl => pl.entry.lane) ∧
      ((p.lanes.map fun pl => pl.entry.lane).Nodup → (c'.lanes.map LaneCarriage.grant).sum ≤ p.poolSize) ∧
      (∀ lc ∈ c'.lanes, lc.grant ≤ 49) ∧
      (fetchAllowed p l s = true → ∃ u outcome,
        (∀ k, k ≠ l →
          exec (.laneFetch l h) (setAssembler (.assembling p { c with toFetch := [l, k] }) s) =
            .next (setAssembler (.assembling p { c with toFetch := [k], fetched := c.fetched ++ [⟨l, outcome⟩] }) u)) ∧
        c'.fetched = c.fetched ++ [⟨l, outcome⟩] ∧ t.regs = u.regs ∧ sideItemsLaid p c' u t) ∧
      (fetchAllowed p l s = false → c'.fetched = c.fetched ∧ t.regs = s.regs ∧ sideItemsLaid p c' s t) ∧
      bytesKept s t ∧ changesOnly [.regs, .lanes, .frames, .store, .posted] s t)

/-- The answer to a picture read marks the lane stalled and lays nothing when the bank of its picture is busy, and otherwise
lays the pieces of piece filling from the offset chosen; the read is no longer awaited. With none awaited the assembly
completes: the assembler is READY with the plan, the carriage record and the frame formed from them. What is read when the slot
has lost its last user since it was chosen is assumption 42, and that cells left beyond a want capped at 48 are filled is assumption
41. -/
def Obligations.PictureReadsAndCompletionEndAnAssembly : Prop :=
  ∀ (s : State) (p : Plan) (c : Carriage), s.frames.assembler = .assembling p c → c.stage = .items →
    (∀ l ∈ c.toRead, ∃ t c', exec (.pictureDataRead l) s = .next t ∧ changesOnly [.frames] s t ∧
      t.frames = { s.frames with assembler := .assembling p c' } ∧
      c' = { c with lanes := c'.lanes, toRead := c.toRead.filter fun k => k ≠ l } ∧
      c'.lanes = c.lanes.map fun lc =>
        match decide (lc.lane = l), lc.picture with
        | true, some ch =>
          if bankBusy s (bankOf (ch.base / 4096)) = true then { lc with stalled := true }
          else { lc with pieces := fillPieces s.store.contents ch.base ch.slot ch.version lc.pictureCells lc.pictureCells
                                     ch.remaining ch.offset }
        | _, _ => lc) ∧
    (c.toRead = [] → ∃ t, exec .assemblyComplete s = .next t ∧ changesOnly [.frames] s t ∧
      t.frames = { s.frames with assembler := .ready p c (assembledFrame p c) })

/-- Every frame formed is 19,200 bytes long, with the sync bytes, frame counter, generation, next generation, announce count,
highest alert level, VOID flag and pool start in its first 14 bytes and a check code at bytes 14-15 over the other 142 bytes of
cells 0-8. A void frame takes the level from the alerts ON_AIR, has pool start 0 and is zero from byte 16. An assembled frame
whose carriage fits its plan takes its fields from the plan, with the VOID flag clear. Its directories: for each lane of the plan
start cell, reserved cells, audio cells and grant, zeros for other lanes; and id, level and take set of each alert, ascending by
id. Each lane's region follows those of the lanes before it from cell 9, and its granted cells those of the lanes before it from
the end of the regions; the two together hold its audio cells, then its items in its side cells, padded with zeros; zeros fill
the frame. That every held carriage fits its plan is stated with the credits (O58). -/
def Obligations.EveryFormedFrameIsWhole : Prop :=
  (∀ (s : State) (level : Nat), highestLevel ((activeAlerts s).filter fun a => a.state = .onAir) level →
    let announced : Byte × Nat := match s.maps.upcoming with
      | none => (s.maps.generation, 0)
      | some m => (s.maps.generation + 1, m.announce)
    (voidFrame s).length = 19200 ∧
    (voidFrame s).take 14 = ([0x4B, 0x58, 0xA6] : List Byte) ++ beBytes 4 s.frames.counter.toNat ++
      [s.maps.generation, announced.1, BitVec.ofNat 8 announced.2, BitVec.ofNat 8 level, 1, 0, 0] ∧
    ((voidFrame s).drop 14).take 2 =
      beBytes 2 (crc16 ((voidFrame s).take 14 ++ ((voidFrame s).drop 16).take 128)).toNat ∧
    (voidFrame s).drop 16 = List.replicate 19184 0) ∧
  (∀ (p : Plan) (c : Carriage) (level : Nat), carriageFits p c → highestLevel p.alerts level →
    let f := assembledFrame p c
    let regions := (p.lanes.map fun pl => pl.entry.reserved).sum
    f.length = 19200 ∧
    f.take 14 = ([0x4B, 0x58, 0xA6] : List Byte) ++ beBytes 4 p.counter.toNat ++
      [p.generation, p.next, BitVec.ofNat 8 p.announce, BitVec.ofNat 8 level, 0] ++ beBytes 2 p.poolStart ∧
    (f.drop 14).take 2 = beBytes 2 (crc16 (f.take 14 ++ (f.drop 16).take 128)).toNat ∧
    ((p.lanes.map fun pl => pl.entry.lane).Nodup → ∀ pl ∈ p.lanes, ∀ lc, c.lane? pl.entry.lane = some lc →
      (f.drop (16 + 4 * pl.entry.lane.val)).take 4 =
        beBytes 2 pl.entry.start ++ [BitVec.ofNat 8 pl.entry.reserved, BitVec.ofNat 8 lc.audio.cells] ∧
      f.getD (112 + pl.entry.lane.val) 0 = BitVec.ofNat 8 lc.grant) ∧
    (c.lanes.map LaneCarriage.lane = p.lanes.map (fun pl => pl.entry.lane) →
      ∀ l : LaneId, (∀ pl ∈ p.lanes, pl.entry.lane ≠ l) →
        (f.drop (16 + 4 * l.val)).take 4 = [0, 0, 0, 0] ∧ f.getD (112 + l.val) 0 = 0) ∧
    (f.drop 136).take 8 = padTo 8 (p.alerts.flatMap fun a => [a.id, BitVec.ofNat 8
      (a.level + 4 * (a.take.audio.toNat + 2 * a.take.text.toNat + 4 * a.take.picture.toNat))]) ∧
    (∀ before pl after, p.lanes = before ++ pl :: after → ∀ lc, c.lane? pl.entry.lane = some lc →
      (f.drop (16 * (9 + (before.map fun k => k.entry.reserved).sum))).take (16 * pl.entry.reserved) ++
        (f.drop (16 * (9 + regions + (before.map (grantAt c)).sum))).take (16 * lc.grant) =
      lc.audio.bytes ++ padTo (16 * (pl.entry.reserved - lc.audio.cells + lc.grant)) (itemBytes lc)) ∧
    (∀ i, 16 * (9 + regions + (p.lanes.map (grantAt c)).sum) ≤ i → f.getD i 0 = 0))

/-! ### Resets (1.6, 2.9, 3.9, 4.1, 5.5, 6.5, 7.6, 8.7, 9.8) -/

/-- Both resets leave every block at its reset values: RUN, SWEEP_MS and the causes 0, the reader idle at slip 0 with every
work record free, every lane UNUSED with nothing held or counted, an empty map at generation 0 and none pending, the
assembler STOPPED with both counters 0 and no fetch still to end, the link following AIR_RST_N with no transmission in progress,
no alert and an empty log, no store job, no directory write, nothing to recover, no hold and no user, with the stored directory
still to be read and RUN not yet 1 since the reset (their flags are the model's fields). No slip is in its checks or waits for a
send. Power-on reset clears the anchor and the enables; soft reset keeps both and discards
the write's other fields. Nothing is posted. -/
def Obligations.ResetsReturnEveryBlock : Prop :=
  ∀ (s : State),
    let cleared (t : State) : Prop :=
      t.regs.run = false ∧ t.regs.sweepMs = 0 ∧ t.regs.notice = 0 ∧
      t.reader.sweep = .idle ∧ t.reader.cursor = 0 ∧ t.reader.owed = false ∧ t.reader.timer = none ∧ (∀ r, t.work r = none) ∧
      (∀ l, (t.lane l).state = .unused ∧ (t.lane l).pageA = 0 ∧ (t.lane l).pageB = 0 ∧ (t.lane l).pageSize = 0 ∧
        (t.lane l).pace = 0 ∧ (∀ f, (t.lane l).sourceOf f = .own) ∧ (t.lane l).credit = 0 ∧ (t.lane l).saturation = 0 ∧
        (t.lane l).feed.held = none ∧ (t.lane l).feed.expected = .a ∧ (t.lane l).feed.byteCount = 0 ∧
        (t.lane l).feed.cursor = 0 ∧ (t.lane l).feed.taken = 0 ∧ (t.lane l).feed.sequence = 0 ∧
        (t.lane l).text.queue = [] ∧ (t.lane l).text.position = 0 ∧ (t.lane l).text.toggle = false ∧
        (t.lane l).text.pacing = 16 ∧ (t.lane l).text.seed = 0 ∧ (t.lane l).text.source = .own ∧
        (t.lane l).text.alertPosition = 0 ∧ (t.lane l).carousel.entries = [] ∧
        (t.lane l).carousel.position = ⟨.next, 0⟩ ∧ (t.lane l).carousel.airing = none ∧
        (t.lane l).carousel.jump = none ∧ (t.lane l).carousel.showing = none ∧
        (t.lane l).counts = ⟨0, 0, 0, 0, 0, 0, 0⟩) ∧
      t.maps.active = ⟨[], 9, 1191⟩ ∧ t.maps.generation = 0 ∧ t.maps.upcoming = none ∧ t.maps.checking = none ∧
      t.maps.switched = none ∧ t.frames.stragglers = [] ∧ t.frames.assembler = .stopped ∧ t.frames.counter = 0 ∧ t.frames.voidCount = 0 ∧ t.cursor = 0 ∧
      t.link.airRstN = s.link.airRstN ∧ (∀ f, t.link.airData ≠ .sending f) ∧
      (∀ o, owed o t = []) ∧ t.text.putting = none ∧
      activeAlerts t = [] ∧ t.alerts.log = [] ∧ t.alerts.checking = none ∧
      t.store.dirWrites = [] ∧ t.store.recovery = [] ∧ t.store.loaded = false ∧ t.ran = false ∧ t.store.jobs = [] ∧ t.store.running = none ∧ t.store.hold = 0 ∧ (∀ i, (t.slot i).users = 0) ∧
      t.posted = s.posted ∧ t.pending = s.pending
    (∃ t, exec .powerOnReset s = .next t ∧ cleared t ∧ t.regs.anchor = 0 ∧ t.regs.noticeEn = 0) ∧
    (∀ run ms, ∃ t, exec (.softReset run ms) s = .next t ∧ cleared t ∧ t.regs.anchor = s.regs.anchor ∧
      t.regs.noticeEn = s.regs.noticeEn)

/-- Both resets keep the store: every byte outside the block of an erase in progress and outside the page of a program in
progress, each byte of such a program as it was or as programmed, and every stored slot record, except that the record of
the oldest directory write under way may be as that write leaves it. What an operation or a directory write under way comes
to is a free value (assumptions 7, 8). -/
def Obligations.ResetsKeepTheStore : Prop :=
  ∀ (c : Instr) (s : State), StoreSound s → (c = .powerOnReset ∨ ∃ run ms, c = .softReset run ms) →
    ∃ t, exec c s = .next t ∧
      (∀ a, match s.store.running with
        | some ⟨_, .erase b⟩ => a / 4096 ≠ b → storeByte t.store.contents a = storeByte s.store.contents a
        | some ⟨_, .program dest data⟩ =>
          storeByte t.store.contents a = storeByte s.store.contents a ∨
            (dest ≤ a ∧ a < dest + data.length ∧
              storeByte t.store.contents a = storeByte s.store.contents a &&& data.getD (a - dest) 0)
        | _ => storeByte t.store.contents a = storeByte s.store.contents a) ∧
      (match s.store.dirWrites with
        | [] => t.store.stored = s.store.stored
        | x :: _ => t.store.stored = s.store.stored ∨
            t.store.stored = s.store.stored.set x.slot (x.change.apply s.store.stored[x.slot]))

/-! ### What holds between any two commands -/

/-- Every step keeps RUN 0 exactly when the assembler is STOPPED, with the timer stopped while RUN is 0; a transmission only
on a link that is UP; and the anchor a multiple of 4096. -/
def Obligations.EveryStepKeepsControlStateSound : Prop :=
  ∀ s t : State, RunSound s → LinkSound s → AnchorSound s → step s = .next t → RunSound t ∧ LinkSound t ∧ AnchorSound t

/-- Every step keeps the list of the store's bytes in its canonical form. Every step keeps each slot's user count equal to the
number of references to it, the carousel entries, airings in progress and alert pictures that name it, and the hold count equal
to the number of alerts with a picture. Every step keeps each work record that a block holds in use and held once, so that a slip
has one store job at most. That the working copy holds no slot before it is read is assumption 5, and that a job at its end waits
for its directory write assumption 10. -/
def Obligations.EveryStepKeepsTheStoreCanonical : Prop :=
  (∀ s t : State, StoreSound s → step s = .next t → StoreSound t) ∧
  (∀ s t : State, UsersSound s → step s = .next t → UsersSound t) ∧
  ∀ s t : State, RecordsSound s → step s = .next t → RecordsSound t

/-- Every step keeps the active map and any pending map as maps may be: no lane twice, reserved cells of at most 1191 and
shares of at most 1024 in all, fields in range, each region after those of the lower lanes, pool start and size as the sum gives,
announce count at most 16, in the pending map and in a held plan; and every target of an active alert has in both an entry wide enough for the alert. -/
def Obligations.EveryStepKeepsTheMapsSound : Prop := ∀ s t : State, MapsSound s → step s = .next t → MapsSound t

/-- Every step keeps every lane's credit between 0 and its burst times 1024 in the active map, and 0 for a lane outside it,
together with the credits that a held frame would commit. While the maps, the log and the credits are sound, every step keeps
every held carriage fitting its plan: audio in its region, items in their side cells, grants within the pool; and a finished
frame the one formed from its plan and carriage. -/
def Obligations.EveryStepKeepsCreditsWithinTheCeiling : Prop :=
  (∀ s t : State, MapsSound s → CreditSound s → step s = .next t → CreditSound t) ∧
  ∀ s t : State, MapsSound s → LogSound s → CreditSound s → FrameSound s → step s = .next t → FrameSound t

/-- Every step keeps the restore log true: at most 64 entries, at most one per alert, lane and field, each of a RAISED or ON_AIR
alert that takes that field of that lane, ids of active alerts distinct and the targets of each ascending, every source field the alert of its topmost entry or OWN, and every previous value
OWN or the alert of the next lower entry. -/
def Obligations.EveryStepKeepsTheRestoreLogTrue : Prop := ∀ s t : State, LogSound s → step s = .next t → LogSound t

/-- All these properties hold after power-on reset. -/
def Obligations.ResetStateIsSound : Prop := Sound State.reset
end

