-- ==== Sys2Proof/Laws/State.lean ====
section
/-! SUPPORT. The small lemmas of the state: what each update leaves in each field, all true by unfolding. -/

namespace Sys2Proof.Machine

/-! ### State.setRegs -/

@[simp] theorem State.setRegs_regs (s : State) (x : Registers) : (s.setRegs x).regs = x := rfl
@[simp] theorem State.setRegs_reader (s : State) (x : Registers) : (s.setRegs x).reader = s.reader := rfl
@[simp] theorem State.setRegs_lanes (s : State) (x : Registers) : (s.setRegs x).lanes = s.lanes := rfl
@[simp] theorem State.setRegs_maps (s : State) (x : Registers) : (s.setRegs x).maps = s.maps := rfl
@[simp] theorem State.setRegs_frames (s : State) (x : Registers) : (s.setRegs x).frames = s.frames := rfl
@[simp] theorem State.setRegs_link (s : State) (x : Registers) : (s.setRegs x).link = s.link := rfl
@[simp] theorem State.setRegs_cursor (s : State) (x : Registers) : (s.setRegs x).cursor = s.cursor := rfl
@[simp] theorem State.setRegs_text (s : State) (x : Registers) : (s.setRegs x).text = s.text := rfl
@[simp] theorem State.setRegs_carousels (s : State) (x : Registers) : (s.setRegs x).carousels = s.carousels := rfl
@[simp] theorem State.setRegs_store (s : State) (x : Registers) : (s.setRegs x).store = s.store := rfl
@[simp] theorem State.setRegs_alerts (s : State) (x : Registers) : (s.setRegs x).alerts = s.alerts := rfl
@[simp] theorem State.setRegs_posted (s : State) (x : Registers) : (s.setRegs x).posted = s.posted := rfl
@[simp] theorem State.setRegs_ran (s : State) (x : Registers) : (s.setRegs x).ran = s.ran := rfl
@[simp] theorem State.setRegs_draws (s : State) (x : Registers) : (s.setRegs x).draws = s.draws := rfl
@[simp] theorem State.setRegs_pending (s : State) (x : Registers) : (s.setRegs x).pending = s.pending := rfl

/-! ### State.setReader -/

@[simp] theorem State.setReader_regs (s : State) (x : Reader) : (s.setReader x).regs = s.regs := rfl
@[simp] theorem State.setReader_reader (s : State) (x : Reader) : (s.setReader x).reader = x := rfl
@[simp] theorem State.setReader_lanes (s : State) (x : Reader) : (s.setReader x).lanes = s.lanes := rfl
@[simp] theorem State.setReader_maps (s : State) (x : Reader) : (s.setReader x).maps = s.maps := rfl
@[simp] theorem State.setReader_frames (s : State) (x : Reader) : (s.setReader x).frames = s.frames := rfl
@[simp] theorem State.setReader_link (s : State) (x : Reader) : (s.setReader x).link = s.link := rfl
@[simp] theorem State.setReader_cursor (s : State) (x : Reader) : (s.setReader x).cursor = s.cursor := rfl
@[simp] theorem State.setReader_text (s : State) (x : Reader) : (s.setReader x).text = s.text := rfl
@[simp] theorem State.setReader_carousels (s : State) (x : Reader) : (s.setReader x).carousels = s.carousels := rfl
@[simp] theorem State.setReader_store (s : State) (x : Reader) : (s.setReader x).store = s.store := rfl
@[simp] theorem State.setReader_alerts (s : State) (x : Reader) : (s.setReader x).alerts = s.alerts := rfl
@[simp] theorem State.setReader_posted (s : State) (x : Reader) : (s.setReader x).posted = s.posted := rfl
@[simp] theorem State.setReader_ran (s : State) (x : Reader) : (s.setReader x).ran = s.ran := rfl
@[simp] theorem State.setReader_draws (s : State) (x : Reader) : (s.setReader x).draws = s.draws := rfl
@[simp] theorem State.setReader_pending (s : State) (x : Reader) : (s.setReader x).pending = s.pending := rfl

/-! ### State.setLanes -/

@[simp] theorem State.setLanes_regs (s : State) (x : Vector Lane 24) : (s.setLanes x).regs = s.regs := rfl
@[simp] theorem State.setLanes_reader (s : State) (x : Vector Lane 24) : (s.setLanes x).reader = s.reader := rfl
@[simp] theorem State.setLanes_lanes (s : State) (x : Vector Lane 24) : (s.setLanes x).lanes = x := rfl
@[simp] theorem State.setLanes_maps (s : State) (x : Vector Lane 24) : (s.setLanes x).maps = s.maps := rfl
@[simp] theorem State.setLanes_frames (s : State) (x : Vector Lane 24) : (s.setLanes x).frames = s.frames := rfl
@[simp] theorem State.setLanes_link (s : State) (x : Vector Lane 24) : (s.setLanes x).link = s.link := rfl
@[simp] theorem State.setLanes_cursor (s : State) (x : Vector Lane 24) : (s.setLanes x).cursor = s.cursor := rfl
@[simp] theorem State.setLanes_text (s : State) (x : Vector Lane 24) : (s.setLanes x).text = s.text := rfl
@[simp] theorem State.setLanes_carousels (s : State) (x : Vector Lane 24) : (s.setLanes x).carousels = s.carousels := rfl
@[simp] theorem State.setLanes_store (s : State) (x : Vector Lane 24) : (s.setLanes x).store = s.store := rfl
@[simp] theorem State.setLanes_alerts (s : State) (x : Vector Lane 24) : (s.setLanes x).alerts = s.alerts := rfl
@[simp] theorem State.setLanes_posted (s : State) (x : Vector Lane 24) : (s.setLanes x).posted = s.posted := rfl
@[simp] theorem State.setLanes_ran (s : State) (x : Vector Lane 24) : (s.setLanes x).ran = s.ran := rfl
@[simp] theorem State.setLanes_draws (s : State) (x : Vector Lane 24) : (s.setLanes x).draws = s.draws := rfl
@[simp] theorem State.setLanes_pending (s : State) (x : Vector Lane 24) : (s.setLanes x).pending = s.pending := rfl

/-! ### State.setMaps -/

@[simp] theorem State.setMaps_regs (s : State) (x : MapControl) : (s.setMaps x).regs = s.regs := rfl
@[simp] theorem State.setMaps_reader (s : State) (x : MapControl) : (s.setMaps x).reader = s.reader := rfl
@[simp] theorem State.setMaps_lanes (s : State) (x : MapControl) : (s.setMaps x).lanes = s.lanes := rfl
@[simp] theorem State.setMaps_maps (s : State) (x : MapControl) : (s.setMaps x).maps = x := rfl
@[simp] theorem State.setMaps_frames (s : State) (x : MapControl) : (s.setMaps x).frames = s.frames := rfl
@[simp] theorem State.setMaps_link (s : State) (x : MapControl) : (s.setMaps x).link = s.link := rfl
@[simp] theorem State.setMaps_cursor (s : State) (x : MapControl) : (s.setMaps x).cursor = s.cursor := rfl
@[simp] theorem State.setMaps_text (s : State) (x : MapControl) : (s.setMaps x).text = s.text := rfl
@[simp] theorem State.setMaps_carousels (s : State) (x : MapControl) : (s.setMaps x).carousels = s.carousels := rfl
@[simp] theorem State.setMaps_store (s : State) (x : MapControl) : (s.setMaps x).store = s.store := rfl
@[simp] theorem State.setMaps_alerts (s : State) (x : MapControl) : (s.setMaps x).alerts = s.alerts := rfl
@[simp] theorem State.setMaps_posted (s : State) (x : MapControl) : (s.setMaps x).posted = s.posted := rfl
@[simp] theorem State.setMaps_ran (s : State) (x : MapControl) : (s.setMaps x).ran = s.ran := rfl
@[simp] theorem State.setMaps_draws (s : State) (x : MapControl) : (s.setMaps x).draws = s.draws := rfl
@[simp] theorem State.setMaps_pending (s : State) (x : MapControl) : (s.setMaps x).pending = s.pending := rfl

/-! ### State.setFrames -/

@[simp] theorem State.setFrames_regs (s : State) (x : FrameControl) : (s.setFrames x).regs = s.regs := rfl
@[simp] theorem State.setFrames_reader (s : State) (x : FrameControl) : (s.setFrames x).reader = s.reader := rfl
@[simp] theorem State.setFrames_lanes (s : State) (x : FrameControl) : (s.setFrames x).lanes = s.lanes := rfl
@[simp] theorem State.setFrames_maps (s : State) (x : FrameControl) : (s.setFrames x).maps = s.maps := rfl
@[simp] theorem State.setFrames_frames (s : State) (x : FrameControl) : (s.setFrames x).frames = x := rfl
@[simp] theorem State.setFrames_link (s : State) (x : FrameControl) : (s.setFrames x).link = s.link := rfl
@[simp] theorem State.setFrames_cursor (s : State) (x : FrameControl) : (s.setFrames x).cursor = s.cursor := rfl
@[simp] theorem State.setFrames_text (s : State) (x : FrameControl) : (s.setFrames x).text = s.text := rfl
@[simp] theorem State.setFrames_carousels (s : State) (x : FrameControl) : (s.setFrames x).carousels = s.carousels := rfl
@[simp] theorem State.setFrames_store (s : State) (x : FrameControl) : (s.setFrames x).store = s.store := rfl
@[simp] theorem State.setFrames_alerts (s : State) (x : FrameControl) : (s.setFrames x).alerts = s.alerts := rfl
@[simp] theorem State.setFrames_posted (s : State) (x : FrameControl) : (s.setFrames x).posted = s.posted := rfl
@[simp] theorem State.setFrames_ran (s : State) (x : FrameControl) : (s.setFrames x).ran = s.ran := rfl
@[simp] theorem State.setFrames_draws (s : State) (x : FrameControl) : (s.setFrames x).draws = s.draws := rfl
@[simp] theorem State.setFrames_pending (s : State) (x : FrameControl) : (s.setFrames x).pending = s.pending := rfl

/-! ### State.setLink -/

@[simp] theorem State.setLink_regs (s : State) (x : Link) : (s.setLink x).regs = s.regs := rfl
@[simp] theorem State.setLink_reader (s : State) (x : Link) : (s.setLink x).reader = s.reader := rfl
@[simp] theorem State.setLink_lanes (s : State) (x : Link) : (s.setLink x).lanes = s.lanes := rfl
@[simp] theorem State.setLink_maps (s : State) (x : Link) : (s.setLink x).maps = s.maps := rfl
@[simp] theorem State.setLink_frames (s : State) (x : Link) : (s.setLink x).frames = s.frames := rfl
@[simp] theorem State.setLink_link (s : State) (x : Link) : (s.setLink x).link = x := rfl
@[simp] theorem State.setLink_cursor (s : State) (x : Link) : (s.setLink x).cursor = s.cursor := rfl
@[simp] theorem State.setLink_text (s : State) (x : Link) : (s.setLink x).text = s.text := rfl
@[simp] theorem State.setLink_carousels (s : State) (x : Link) : (s.setLink x).carousels = s.carousels := rfl
@[simp] theorem State.setLink_store (s : State) (x : Link) : (s.setLink x).store = s.store := rfl
@[simp] theorem State.setLink_alerts (s : State) (x : Link) : (s.setLink x).alerts = s.alerts := rfl
@[simp] theorem State.setLink_posted (s : State) (x : Link) : (s.setLink x).posted = s.posted := rfl
@[simp] theorem State.setLink_ran (s : State) (x : Link) : (s.setLink x).ran = s.ran := rfl
@[simp] theorem State.setLink_draws (s : State) (x : Link) : (s.setLink x).draws = s.draws := rfl
@[simp] theorem State.setLink_pending (s : State) (x : Link) : (s.setLink x).pending = s.pending := rfl

/-! ### State.setCursor -/

@[simp] theorem State.setCursor_regs (s : State) (x : LaneId) : (s.setCursor x).regs = s.regs := rfl
@[simp] theorem State.setCursor_reader (s : State) (x : LaneId) : (s.setCursor x).reader = s.reader := rfl
@[simp] theorem State.setCursor_lanes (s : State) (x : LaneId) : (s.setCursor x).lanes = s.lanes := rfl
@[simp] theorem State.setCursor_maps (s : State) (x : LaneId) : (s.setCursor x).maps = s.maps := rfl
@[simp] theorem State.setCursor_frames (s : State) (x : LaneId) : (s.setCursor x).frames = s.frames := rfl
@[simp] theorem State.setCursor_link (s : State) (x : LaneId) : (s.setCursor x).link = s.link := rfl
@[simp] theorem State.setCursor_cursor (s : State) (x : LaneId) : (s.setCursor x).cursor = x := rfl
@[simp] theorem State.setCursor_text (s : State) (x : LaneId) : (s.setCursor x).text = s.text := rfl
@[simp] theorem State.setCursor_carousels (s : State) (x : LaneId) : (s.setCursor x).carousels = s.carousels := rfl
@[simp] theorem State.setCursor_store (s : State) (x : LaneId) : (s.setCursor x).store = s.store := rfl
@[simp] theorem State.setCursor_alerts (s : State) (x : LaneId) : (s.setCursor x).alerts = s.alerts := rfl
@[simp] theorem State.setCursor_posted (s : State) (x : LaneId) : (s.setCursor x).posted = s.posted := rfl
@[simp] theorem State.setCursor_ran (s : State) (x : LaneId) : (s.setCursor x).ran = s.ran := rfl
@[simp] theorem State.setCursor_draws (s : State) (x : LaneId) : (s.setCursor x).draws = s.draws := rfl
@[simp] theorem State.setCursor_pending (s : State) (x : LaneId) : (s.setCursor x).pending = s.pending := rfl

/-! ### State.setText -/

@[simp] theorem State.setText_regs (s : State) (x : TextEngine) : (s.setText x).regs = s.regs := rfl
@[simp] theorem State.setText_reader (s : State) (x : TextEngine) : (s.setText x).reader = s.reader := rfl
@[simp] theorem State.setText_lanes (s : State) (x : TextEngine) : (s.setText x).lanes = s.lanes := rfl
@[simp] theorem State.setText_maps (s : State) (x : TextEngine) : (s.setText x).maps = s.maps := rfl
@[simp] theorem State.setText_frames (s : State) (x : TextEngine) : (s.setText x).frames = s.frames := rfl
@[simp] theorem State.setText_link (s : State) (x : TextEngine) : (s.setText x).link = s.link := rfl
@[simp] theorem State.setText_cursor (s : State) (x : TextEngine) : (s.setText x).cursor = s.cursor := rfl
@[simp] theorem State.setText_text (s : State) (x : TextEngine) : (s.setText x).text = x := rfl
@[simp] theorem State.setText_carousels (s : State) (x : TextEngine) : (s.setText x).carousels = s.carousels := rfl
@[simp] theorem State.setText_store (s : State) (x : TextEngine) : (s.setText x).store = s.store := rfl
@[simp] theorem State.setText_alerts (s : State) (x : TextEngine) : (s.setText x).alerts = s.alerts := rfl
@[simp] theorem State.setText_posted (s : State) (x : TextEngine) : (s.setText x).posted = s.posted := rfl
@[simp] theorem State.setText_ran (s : State) (x : TextEngine) : (s.setText x).ran = s.ran := rfl
@[simp] theorem State.setText_draws (s : State) (x : TextEngine) : (s.setText x).draws = s.draws := rfl
@[simp] theorem State.setText_pending (s : State) (x : TextEngine) : (s.setText x).pending = s.pending := rfl

/-! ### State.setCarousels -/

@[simp] theorem State.setCarousels_regs (s : State) (x : List RecId) : (s.setCarousels x).regs = s.regs := rfl
@[simp] theorem State.setCarousels_reader (s : State) (x : List RecId) : (s.setCarousels x).reader = s.reader := rfl
@[simp] theorem State.setCarousels_lanes (s : State) (x : List RecId) : (s.setCarousels x).lanes = s.lanes := rfl
@[simp] theorem State.setCarousels_maps (s : State) (x : List RecId) : (s.setCarousels x).maps = s.maps := rfl
@[simp] theorem State.setCarousels_frames (s : State) (x : List RecId) : (s.setCarousels x).frames = s.frames := rfl
@[simp] theorem State.setCarousels_link (s : State) (x : List RecId) : (s.setCarousels x).link = s.link := rfl
@[simp] theorem State.setCarousels_cursor (s : State) (x : List RecId) : (s.setCarousels x).cursor = s.cursor := rfl
@[simp] theorem State.setCarousels_text (s : State) (x : List RecId) : (s.setCarousels x).text = s.text := rfl
@[simp] theorem State.setCarousels_carousels (s : State) (x : List RecId) : (s.setCarousels x).carousels = x := rfl
@[simp] theorem State.setCarousels_store (s : State) (x : List RecId) : (s.setCarousels x).store = s.store := rfl
@[simp] theorem State.setCarousels_alerts (s : State) (x : List RecId) : (s.setCarousels x).alerts = s.alerts := rfl
@[simp] theorem State.setCarousels_posted (s : State) (x : List RecId) : (s.setCarousels x).posted = s.posted := rfl
@[simp] theorem State.setCarousels_ran (s : State) (x : List RecId) : (s.setCarousels x).ran = s.ran := rfl
@[simp] theorem State.setCarousels_draws (s : State) (x : List RecId) : (s.setCarousels x).draws = s.draws := rfl
@[simp] theorem State.setCarousels_pending (s : State) (x : List RecId) : (s.setCarousels x).pending = s.pending := rfl

/-! ### State.setStore -/

@[simp] theorem State.setStore_regs (s : State) (x : Store) : (s.setStore x).regs = s.regs := rfl
@[simp] theorem State.setStore_reader (s : State) (x : Store) : (s.setStore x).reader = s.reader := rfl
@[simp] theorem State.setStore_lanes (s : State) (x : Store) : (s.setStore x).lanes = s.lanes := rfl
@[simp] theorem State.setStore_maps (s : State) (x : Store) : (s.setStore x).maps = s.maps := rfl
@[simp] theorem State.setStore_frames (s : State) (x : Store) : (s.setStore x).frames = s.frames := rfl
@[simp] theorem State.setStore_link (s : State) (x : Store) : (s.setStore x).link = s.link := rfl
@[simp] theorem State.setStore_cursor (s : State) (x : Store) : (s.setStore x).cursor = s.cursor := rfl
@[simp] theorem State.setStore_text (s : State) (x : Store) : (s.setStore x).text = s.text := rfl
@[simp] theorem State.setStore_carousels (s : State) (x : Store) : (s.setStore x).carousels = s.carousels := rfl
@[simp] theorem State.setStore_store (s : State) (x : Store) : (s.setStore x).store = x := rfl
@[simp] theorem State.setStore_alerts (s : State) (x : Store) : (s.setStore x).alerts = s.alerts := rfl
@[simp] theorem State.setStore_posted (s : State) (x : Store) : (s.setStore x).posted = s.posted := rfl
@[simp] theorem State.setStore_ran (s : State) (x : Store) : (s.setStore x).ran = s.ran := rfl
@[simp] theorem State.setStore_draws (s : State) (x : Store) : (s.setStore x).draws = s.draws := rfl
@[simp] theorem State.setStore_pending (s : State) (x : Store) : (s.setStore x).pending = s.pending := rfl

/-! ### State.setAlerts -/

@[simp] theorem State.setAlerts_regs (s : State) (x : AlertControl) : (s.setAlerts x).regs = s.regs := rfl
@[simp] theorem State.setAlerts_reader (s : State) (x : AlertControl) : (s.setAlerts x).reader = s.reader := rfl
@[simp] theorem State.setAlerts_lanes (s : State) (x : AlertControl) : (s.setAlerts x).lanes = s.lanes := rfl
@[simp] theorem State.setAlerts_maps (s : State) (x : AlertControl) : (s.setAlerts x).maps = s.maps := rfl
@[simp] theorem State.setAlerts_frames (s : State) (x : AlertControl) : (s.setAlerts x).frames = s.frames := rfl
@[simp] theorem State.setAlerts_link (s : State) (x : AlertControl) : (s.setAlerts x).link = s.link := rfl
@[simp] theorem State.setAlerts_cursor (s : State) (x : AlertControl) : (s.setAlerts x).cursor = s.cursor := rfl
@[simp] theorem State.setAlerts_text (s : State) (x : AlertControl) : (s.setAlerts x).text = s.text := rfl
@[simp] theorem State.setAlerts_carousels (s : State) (x : AlertControl) : (s.setAlerts x).carousels = s.carousels := rfl
@[simp] theorem State.setAlerts_store (s : State) (x : AlertControl) : (s.setAlerts x).store = s.store := rfl
@[simp] theorem State.setAlerts_alerts (s : State) (x : AlertControl) : (s.setAlerts x).alerts = x := rfl
@[simp] theorem State.setAlerts_posted (s : State) (x : AlertControl) : (s.setAlerts x).posted = s.posted := rfl
@[simp] theorem State.setAlerts_ran (s : State) (x : AlertControl) : (s.setAlerts x).ran = s.ran := rfl
@[simp] theorem State.setAlerts_draws (s : State) (x : AlertControl) : (s.setAlerts x).draws = s.draws := rfl
@[simp] theorem State.setAlerts_pending (s : State) (x : AlertControl) : (s.setAlerts x).pending = s.pending := rfl

/-! ### State.setRan -/

@[simp] theorem State.setRan_regs (s : State) (x : Bool) : (s.setRan x).regs = s.regs := rfl
@[simp] theorem State.setRan_reader (s : State) (x : Bool) : (s.setRan x).reader = s.reader := rfl
@[simp] theorem State.setRan_lanes (s : State) (x : Bool) : (s.setRan x).lanes = s.lanes := rfl
@[simp] theorem State.setRan_maps (s : State) (x : Bool) : (s.setRan x).maps = s.maps := rfl
@[simp] theorem State.setRan_frames (s : State) (x : Bool) : (s.setRan x).frames = s.frames := rfl
@[simp] theorem State.setRan_link (s : State) (x : Bool) : (s.setRan x).link = s.link := rfl
@[simp] theorem State.setRan_cursor (s : State) (x : Bool) : (s.setRan x).cursor = s.cursor := rfl
@[simp] theorem State.setRan_text (s : State) (x : Bool) : (s.setRan x).text = s.text := rfl
@[simp] theorem State.setRan_carousels (s : State) (x : Bool) : (s.setRan x).carousels = s.carousels := rfl
@[simp] theorem State.setRan_store (s : State) (x : Bool) : (s.setRan x).store = s.store := rfl
@[simp] theorem State.setRan_alerts (s : State) (x : Bool) : (s.setRan x).alerts = s.alerts := rfl
@[simp] theorem State.setRan_posted (s : State) (x : Bool) : (s.setRan x).posted = s.posted := rfl
@[simp] theorem State.setRan_ran (s : State) (x : Bool) : (s.setRan x).ran = x := rfl
@[simp] theorem State.setRan_draws (s : State) (x : Bool) : (s.setRan x).draws = s.draws := rfl
@[simp] theorem State.setRan_pending (s : State) (x : Bool) : (s.setRan x).pending = s.pending := rfl

/-! ### State.setDraws -/

@[simp] theorem State.setDraws_regs (s : State) (x : Nat) : (s.setDraws x).regs = s.regs := rfl
@[simp] theorem State.setDraws_reader (s : State) (x : Nat) : (s.setDraws x).reader = s.reader := rfl
@[simp] theorem State.setDraws_lanes (s : State) (x : Nat) : (s.setDraws x).lanes = s.lanes := rfl
@[simp] theorem State.setDraws_maps (s : State) (x : Nat) : (s.setDraws x).maps = s.maps := rfl
@[simp] theorem State.setDraws_frames (s : State) (x : Nat) : (s.setDraws x).frames = s.frames := rfl
@[simp] theorem State.setDraws_link (s : State) (x : Nat) : (s.setDraws x).link = s.link := rfl
@[simp] theorem State.setDraws_cursor (s : State) (x : Nat) : (s.setDraws x).cursor = s.cursor := rfl
@[simp] theorem State.setDraws_text (s : State) (x : Nat) : (s.setDraws x).text = s.text := rfl
@[simp] theorem State.setDraws_carousels (s : State) (x : Nat) : (s.setDraws x).carousels = s.carousels := rfl
@[simp] theorem State.setDraws_store (s : State) (x : Nat) : (s.setDraws x).store = s.store := rfl
@[simp] theorem State.setDraws_alerts (s : State) (x : Nat) : (s.setDraws x).alerts = s.alerts := rfl
@[simp] theorem State.setDraws_posted (s : State) (x : Nat) : (s.setDraws x).posted = s.posted := rfl
@[simp] theorem State.setDraws_ran (s : State) (x : Nat) : (s.setDraws x).ran = s.ran := rfl
@[simp] theorem State.setDraws_draws (s : State) (x : Nat) : (s.setDraws x).draws = x := rfl
@[simp] theorem State.setDraws_pending (s : State) (x : Nat) : (s.setDraws x).pending = s.pending := rfl

/-! ### State.post -/

@[simp] theorem State.post_regs (s : State) (p : Posted) : (s.post p).regs = s.regs := rfl
@[simp] theorem State.post_reader (s : State) (p : Posted) : (s.post p).reader = s.reader := rfl
@[simp] theorem State.post_lanes (s : State) (p : Posted) : (s.post p).lanes = s.lanes := rfl
@[simp] theorem State.post_maps (s : State) (p : Posted) : (s.post p).maps = s.maps := rfl
@[simp] theorem State.post_frames (s : State) (p : Posted) : (s.post p).frames = s.frames := rfl
@[simp] theorem State.post_link (s : State) (p : Posted) : (s.post p).link = s.link := rfl
@[simp] theorem State.post_cursor (s : State) (p : Posted) : (s.post p).cursor = s.cursor := rfl
@[simp] theorem State.post_text (s : State) (p : Posted) : (s.post p).text = s.text := rfl
@[simp] theorem State.post_carousels (s : State) (p : Posted) : (s.post p).carousels = s.carousels := rfl
@[simp] theorem State.post_store (s : State) (p : Posted) : (s.post p).store = s.store := rfl
@[simp] theorem State.post_alerts (s : State) (p : Posted) : (s.post p).alerts = s.alerts := rfl
@[simp] theorem State.post_posted (s : State) (p : Posted) : (s.post p).posted = s.posted ++ [p] := rfl
@[simp] theorem State.post_ran (s : State) (p : Posted) : (s.post p).ran = s.ran := rfl
@[simp] theorem State.post_draws (s : State) (p : Posted) : (s.post p).draws = s.draws := rfl
@[simp] theorem State.post_pending (s : State) (p : Posted) : (s.post p).pending = s.pending := rfl

/-! ### State.postRecord -/

@[simp] theorem State.postRecord_regs (s : State) (a : Addr) (bs : List Byte) : (s.postRecord a bs).regs = s.regs := rfl
@[simp] theorem State.postRecord_reader (s : State) (a : Addr) (bs : List Byte) : (s.postRecord a bs).reader = s.reader := rfl
@[simp] theorem State.postRecord_lanes (s : State) (a : Addr) (bs : List Byte) : (s.postRecord a bs).lanes = s.lanes := rfl
@[simp] theorem State.postRecord_maps (s : State) (a : Addr) (bs : List Byte) : (s.postRecord a bs).maps = s.maps := rfl
@[simp] theorem State.postRecord_frames (s : State) (a : Addr) (bs : List Byte) : (s.postRecord a bs).frames = s.frames := rfl
@[simp] theorem State.postRecord_link (s : State) (a : Addr) (bs : List Byte) : (s.postRecord a bs).link = s.link := rfl
@[simp] theorem State.postRecord_cursor (s : State) (a : Addr) (bs : List Byte) : (s.postRecord a bs).cursor = s.cursor := rfl
@[simp] theorem State.postRecord_text (s : State) (a : Addr) (bs : List Byte) : (s.postRecord a bs).text = s.text := rfl
@[simp] theorem State.postRecord_carousels (s : State) (a : Addr) (bs : List Byte) : (s.postRecord a bs).carousels = s.carousels := rfl
@[simp] theorem State.postRecord_store (s : State) (a : Addr) (bs : List Byte) : (s.postRecord a bs).store = s.store := rfl
@[simp] theorem State.postRecord_alerts (s : State) (a : Addr) (bs : List Byte) : (s.postRecord a bs).alerts = s.alerts := rfl
@[simp] theorem State.postRecord_posted (s : State) (a : Addr) (bs : List Byte) : (s.postRecord a bs).posted = s.posted ++ [.write [⟨a, bs⟩]] := rfl
@[simp] theorem State.postRecord_ran (s : State) (a : Addr) (bs : List Byte) : (s.postRecord a bs).ran = s.ran := rfl
@[simp] theorem State.postRecord_draws (s : State) (a : Addr) (bs : List Byte) : (s.postRecord a bs).draws = s.draws := rfl
@[simp] theorem State.postRecord_pending (s : State) (a : Addr) (bs : List Byte) : (s.postRecord a bs).pending = s.pending := rfl

/-! ### State.withPending -/

@[simp] theorem State.withPending_regs (s : State) (cs : List Instr) : (s.withPending cs).regs = s.regs := rfl
@[simp] theorem State.withPending_reader (s : State) (cs : List Instr) : (s.withPending cs).reader = s.reader := rfl
@[simp] theorem State.withPending_lanes (s : State) (cs : List Instr) : (s.withPending cs).lanes = s.lanes := rfl
@[simp] theorem State.withPending_maps (s : State) (cs : List Instr) : (s.withPending cs).maps = s.maps := rfl
@[simp] theorem State.withPending_frames (s : State) (cs : List Instr) : (s.withPending cs).frames = s.frames := rfl
@[simp] theorem State.withPending_link (s : State) (cs : List Instr) : (s.withPending cs).link = s.link := rfl
@[simp] theorem State.withPending_cursor (s : State) (cs : List Instr) : (s.withPending cs).cursor = s.cursor := rfl
@[simp] theorem State.withPending_text (s : State) (cs : List Instr) : (s.withPending cs).text = s.text := rfl
@[simp] theorem State.withPending_carousels (s : State) (cs : List Instr) : (s.withPending cs).carousels = s.carousels := rfl
@[simp] theorem State.withPending_store (s : State) (cs : List Instr) : (s.withPending cs).store = s.store := rfl
@[simp] theorem State.withPending_alerts (s : State) (cs : List Instr) : (s.withPending cs).alerts = s.alerts := rfl
@[simp] theorem State.withPending_posted (s : State) (cs : List Instr) : (s.withPending cs).posted = s.posted := rfl
@[simp] theorem State.withPending_ran (s : State) (cs : List Instr) : (s.withPending cs).ran = s.ran := rfl
@[simp] theorem State.withPending_draws (s : State) (cs : List Instr) : (s.withPending cs).draws = s.draws := rfl
@[simp] theorem State.withPending_pending (s : State) (cs : List Instr) : (s.withPending cs).pending = cs := rfl

/-! ### State.setLane, State.lane -/

@[simp] theorem State.setLane_regs (s : State) (l : LaneId) (x : Lane) : (s.setLane l x).regs = s.regs := rfl
@[simp] theorem State.setLane_reader (s : State) (l : LaneId) (x : Lane) : (s.setLane l x).reader = s.reader := rfl
@[simp] theorem State.setLane_lanes (s : State) (l : LaneId) (x : Lane) : (s.setLane l x).lanes = s.lanes.set l x := rfl
@[simp] theorem State.setLane_maps (s : State) (l : LaneId) (x : Lane) : (s.setLane l x).maps = s.maps := rfl
@[simp] theorem State.setLane_frames (s : State) (l : LaneId) (x : Lane) : (s.setLane l x).frames = s.frames := rfl
@[simp] theorem State.setLane_link (s : State) (l : LaneId) (x : Lane) : (s.setLane l x).link = s.link := rfl
@[simp] theorem State.setLane_cursor (s : State) (l : LaneId) (x : Lane) : (s.setLane l x).cursor = s.cursor := rfl
@[simp] theorem State.setLane_text (s : State) (l : LaneId) (x : Lane) : (s.setLane l x).text = s.text := rfl
@[simp] theorem State.setLane_carousels (s : State) (l : LaneId) (x : Lane) : (s.setLane l x).carousels = s.carousels := rfl
@[simp] theorem State.setLane_store (s : State) (l : LaneId) (x : Lane) : (s.setLane l x).store = s.store := rfl
@[simp] theorem State.setLane_alerts (s : State) (l : LaneId) (x : Lane) : (s.setLane l x).alerts = s.alerts := rfl
@[simp] theorem State.setLane_posted (s : State) (l : LaneId) (x : Lane) : (s.setLane l x).posted = s.posted := rfl
@[simp] theorem State.setLane_ran (s : State) (l : LaneId) (x : Lane) : (s.setLane l x).ran = s.ran := rfl
@[simp] theorem State.setLane_draws (s : State) (l : LaneId) (x : Lane) : (s.setLane l x).draws = s.draws := rfl
@[simp] theorem State.setLane_pending (s : State) (l : LaneId) (x : Lane) : (s.setLane l x).pending = s.pending := rfl

@[simp] theorem State.lane_setLane_same (s : State) (l : LaneId) (x : Lane) : (s.setLane l x).lane l = x := by
  simp [State.lane, State.setLane]

theorem State.lane_setLane_other (s : State) (l k : LaneId) (x : Lane) (h : k ≠ l) : (s.setLane l x).lane k = s.lane k := by
  simp only [State.lane, State.setLane_lanes, Fin.getElem_fin]
  exact Vector.getElem_set_ne _ _ (fun e => h (Fin.ext e.symm))

theorem State.lane_setLane (s : State) (l k : LaneId) (x : Lane) :
    (s.setLane l x).lane k = if k = l then x else s.lane k := by
  by_cases h : k = l
  · simp [h]
  · simp [h, State.lane_setLane_other]

@[simp] theorem State.lane_setRegs (s : State) (l : LaneId) (x : Registers) : (s.setRegs x).lane l = s.lane l := rfl
@[simp] theorem State.lane_setReader (s : State) (l : LaneId) (x : Reader) : (s.setReader x).lane l = s.lane l := rfl
@[simp] theorem State.lane_setMaps (s : State) (l : LaneId) (x : MapControl) : (s.setMaps x).lane l = s.lane l := rfl
@[simp] theorem State.lane_setFrames (s : State) (l : LaneId) (x : FrameControl) : (s.setFrames x).lane l = s.lane l := rfl
@[simp] theorem State.lane_setLink (s : State) (l : LaneId) (x : Link) : (s.setLink x).lane l = s.lane l := rfl
@[simp] theorem State.lane_setCursor (s : State) (l : LaneId) (x : LaneId) : (s.setCursor x).lane l = s.lane l := rfl
@[simp] theorem State.lane_setText (s : State) (l : LaneId) (x : TextEngine) : (s.setText x).lane l = s.lane l := rfl
@[simp] theorem State.lane_setCarousels (s : State) (l : LaneId) (x : List RecId) : (s.setCarousels x).lane l = s.lane l := rfl
@[simp] theorem State.lane_setStore (s : State) (l : LaneId) (x : Store) : (s.setStore x).lane l = s.lane l := rfl
@[simp] theorem State.lane_setAlerts (s : State) (l : LaneId) (x : AlertControl) : (s.setAlerts x).lane l = s.lane l := rfl
@[simp] theorem State.lane_setRan (s : State) (l : LaneId) (x : Bool) : (s.setRan x).lane l = s.lane l := rfl
@[simp] theorem State.lane_setDraws (s : State) (l : LaneId) (x : Nat) : (s.setDraws x).lane l = s.lane l := rfl
@[simp] theorem State.lane_post (s : State) (l : LaneId) (x : Posted) : (s.post x).lane l = s.lane l := rfl
@[simp] theorem State.lane_withPending (s : State) (l : LaneId) (x : List Instr) : (s.withPending x).lane l = s.lane l := rfl
@[simp] theorem State.lane_postRecord (s : State) (l : LaneId) (a : Addr) (bs : List Byte) : (s.postRecord a bs).lane l = s.lane l := rfl

/-! ### State.slot, State.setSlot -/

@[simp] theorem State.setSlot_regs (s : State) (i : SlotId) (x : Slot) : (s.setSlot i x).regs = s.regs := rfl
@[simp] theorem State.setSlot_reader (s : State) (i : SlotId) (x : Slot) : (s.setSlot i x).reader = s.reader := rfl
@[simp] theorem State.setSlot_lanes (s : State) (i : SlotId) (x : Slot) : (s.setSlot i x).lanes = s.lanes := rfl
@[simp] theorem State.setSlot_maps (s : State) (i : SlotId) (x : Slot) : (s.setSlot i x).maps = s.maps := rfl
@[simp] theorem State.setSlot_frames (s : State) (i : SlotId) (x : Slot) : (s.setSlot i x).frames = s.frames := rfl
@[simp] theorem State.setSlot_link (s : State) (i : SlotId) (x : Slot) : (s.setSlot i x).link = s.link := rfl
@[simp] theorem State.setSlot_cursor (s : State) (i : SlotId) (x : Slot) : (s.setSlot i x).cursor = s.cursor := rfl
@[simp] theorem State.setSlot_text (s : State) (i : SlotId) (x : Slot) : (s.setSlot i x).text = s.text := rfl
@[simp] theorem State.setSlot_carousels (s : State) (i : SlotId) (x : Slot) : (s.setSlot i x).carousels = s.carousels := rfl
@[simp] theorem State.setSlot_store (s : State) (i : SlotId) (x : Slot) : (s.setSlot i x).store = { s.store with slots := s.store.slots.set i x } := rfl
@[simp] theorem State.setSlot_alerts (s : State) (i : SlotId) (x : Slot) : (s.setSlot i x).alerts = s.alerts := rfl
@[simp] theorem State.setSlot_posted (s : State) (i : SlotId) (x : Slot) : (s.setSlot i x).posted = s.posted := rfl
@[simp] theorem State.setSlot_ran (s : State) (i : SlotId) (x : Slot) : (s.setSlot i x).ran = s.ran := rfl
@[simp] theorem State.setSlot_draws (s : State) (i : SlotId) (x : Slot) : (s.setSlot i x).draws = s.draws := rfl
@[simp] theorem State.setSlot_pending (s : State) (i : SlotId) (x : Slot) : (s.setSlot i x).pending = s.pending := rfl

theorem State.slot_setSlot (s : State) (i k : SlotId) (x : Slot) :
    (s.setSlot i x).slot k = if k = i then x else s.slot k := by
  by_cases h : k = i
  · subst h; simp [State.slot]
  · simp only [State.slot, State.setSlot_store, Fin.getElem_fin, h, if_false]
    exact Vector.getElem_set_ne _ _ (fun e => h (Fin.ext e.symm))

@[simp] theorem State.slot_setRegs (s : State) (i : SlotId) (x : Registers) : (s.setRegs x).slot i = s.slot i := rfl
@[simp] theorem State.slot_setReader (s : State) (i : SlotId) (x : Reader) : (s.setReader x).slot i = s.slot i := rfl
@[simp] theorem State.slot_setLanes (s : State) (i : SlotId) (x : Vector Lane 24) : (s.setLanes x).slot i = s.slot i := rfl
@[simp] theorem State.slot_setMaps (s : State) (i : SlotId) (x : MapControl) : (s.setMaps x).slot i = s.slot i := rfl
@[simp] theorem State.slot_setFrames (s : State) (i : SlotId) (x : FrameControl) : (s.setFrames x).slot i = s.slot i := rfl
@[simp] theorem State.slot_setLink (s : State) (i : SlotId) (x : Link) : (s.setLink x).slot i = s.slot i := rfl
@[simp] theorem State.slot_setCursor (s : State) (i : SlotId) (x : LaneId) : (s.setCursor x).slot i = s.slot i := rfl
@[simp] theorem State.slot_setText (s : State) (i : SlotId) (x : TextEngine) : (s.setText x).slot i = s.slot i := rfl
@[simp] theorem State.slot_setCarousels (s : State) (i : SlotId) (x : List RecId) : (s.setCarousels x).slot i = s.slot i := rfl
@[simp] theorem State.slot_setAlerts (s : State) (i : SlotId) (x : AlertControl) : (s.setAlerts x).slot i = s.slot i := rfl
@[simp] theorem State.slot_setRan (s : State) (i : SlotId) (x : Bool) : (s.setRan x).slot i = s.slot i := rfl
@[simp] theorem State.slot_setDraws (s : State) (i : SlotId) (x : Nat) : (s.setDraws x).slot i = s.slot i := rfl
@[simp] theorem State.slot_post (s : State) (i : SlotId) (x : Posted) : (s.post x).slot i = s.slot i := rfl
@[simp] theorem State.slot_withPending (s : State) (i : SlotId) (x : List Instr) : (s.withPending x).slot i = s.slot i := rfl
@[simp] theorem State.slot_setLane (s : State) (i : SlotId) (l : LaneId) (x : Lane) : (s.setLane l x).slot i = s.slot i := rfl
@[simp] theorem State.lane_setSlot (s : State) (l : LaneId) (i : SlotId) (x : Slot) : (s.setSlot i x).lane l = s.lane l := rfl

/-! ### Lane records -/

@[simp] theorem Lane.sourceOf_setSource_same (x : Lane) (f : Field) (v : Source) : (x.setSource f v).sourceOf f = v := by
  cases f <;> rfl

theorem Lane.sourceOf_setSource (x : Lane) (f g : Field) (v : Source) :
    (x.setSource f v).sourceOf g = if g = f then v else x.sourceOf g := by
  cases f <;> cases g <;> rfl

/-! ### Frames -/

theorem changesOnly_refl (ps : List Part) (s : State) : changesOnly ps s s := fun p _ => by cases p <;> exact rfl

theorem changesOnly_trans {ps : List Part} {s t u : State} (h : changesOnly ps s t) (k : changesOnly ps t u) :
    changesOnly ps s u := fun p hp => by
  have a := h p hp
  have b := k p hp
  cases p <;> exact b.trans a

theorem changesOnly_mono {ps qs : List Part} {s t : State} (h : changesOnly ps s t) (sub : ps ⊆ qs) : changesOnly qs s t :=
  fun p hp => h p fun m => hp (sub m)

end Sys2Proof.Machine
end

