-- ==== Sys2Proof/Laws/Ops.lean ====
section
/-! SUPPORT. What each shared operation can do, said once: notices, slip completion, mirrors, directory writes, user counts
and the store's choice of a job. A field that an operation never changes has a simp lemma of its own. -/

namespace Sys2Proof.Machine

/-! ### raiseNotice -/

@[simp] theorem raiseNotice_reader (c : Cause) (s : State) : (raiseNotice c s).reader = s.reader := by
  unfold raiseNotice; dsimp only; split_ifs <;> rfl
@[simp] theorem raiseNotice_lanes (c : Cause) (s : State) : (raiseNotice c s).lanes = s.lanes := by
  unfold raiseNotice; dsimp only; split_ifs <;> rfl
@[simp] theorem raiseNotice_maps (c : Cause) (s : State) : (raiseNotice c s).maps = s.maps := by
  unfold raiseNotice; dsimp only; split_ifs <;> rfl
@[simp] theorem raiseNotice_frames (c : Cause) (s : State) : (raiseNotice c s).frames = s.frames := by
  unfold raiseNotice; dsimp only; split_ifs <;> rfl
@[simp] theorem raiseNotice_link (c : Cause) (s : State) : (raiseNotice c s).link = s.link := by
  unfold raiseNotice; dsimp only; split_ifs <;> rfl
@[simp] theorem raiseNotice_cursor (c : Cause) (s : State) : (raiseNotice c s).cursor = s.cursor := by
  unfold raiseNotice; dsimp only; split_ifs <;> rfl
@[simp] theorem raiseNotice_text (c : Cause) (s : State) : (raiseNotice c s).text = s.text := by
  unfold raiseNotice; dsimp only; split_ifs <;> rfl
@[simp] theorem raiseNotice_carousels (c : Cause) (s : State) : (raiseNotice c s).carousels = s.carousels := by
  unfold raiseNotice; dsimp only; split_ifs <;> rfl
@[simp] theorem raiseNotice_store (c : Cause) (s : State) : (raiseNotice c s).store = s.store := by
  unfold raiseNotice; dsimp only; split_ifs <;> rfl
@[simp] theorem raiseNotice_alerts (c : Cause) (s : State) : (raiseNotice c s).alerts = s.alerts := by
  unfold raiseNotice; dsimp only; split_ifs <;> rfl
@[simp] theorem raiseNotice_ran (c : Cause) (s : State) : (raiseNotice c s).ran = s.ran := by
  unfold raiseNotice; dsimp only; split_ifs <;> rfl
@[simp] theorem raiseNotice_draws (c : Cause) (s : State) : (raiseNotice c s).draws = s.draws := by
  unfold raiseNotice; dsimp only; split_ifs <;> rfl
@[simp] theorem raiseNotice_pending (c : Cause) (s : State) : (raiseNotice c s).pending = s.pending := by
  unfold raiseNotice; dsimp only; split_ifs <;> rfl
@[simp] theorem raiseNotice_lane (c : Cause) (s : State) (l : LaneId) : (raiseNotice c s).lane l = s.lane l := by
  simp [State.lane]

/-- What an event of a cause does: the cause is set, and a message follows when it was clear with its enable set. -/
theorem raiseNotice_spec (c : Cause) (s : State) :
    (raiseNotice c s).regs = withCause c s.regs ∧ (raiseNotice c s).posted = s.posted ++ messageFor c s.regs := by
  have set_again : ∀ v : BitVec 4, hasCause v c = true → v ||| (1#4 <<< causeBit c) = v := by cases c <;> decide
  unfold raiseNotice withCause messageFor
  cases h : hasCause s.regs.notice c
  · cases k : hasCause s.regs.noticeEn c <;> simp [State.setRegs, State.post]
  · simp [set_again _ h]

/-! ### fillRecord -/

@[simp] theorem fillRecord_regs (r : RecId) (w : WorkRecord) (s : State) : (fillRecord r w s).regs = s.regs := by
  rfl
@[simp] theorem fillRecord_lanes (r : RecId) (w : WorkRecord) (s : State) : (fillRecord r w s).lanes = s.lanes := by
  rfl
@[simp] theorem fillRecord_maps (r : RecId) (w : WorkRecord) (s : State) : (fillRecord r w s).maps = s.maps := by
  rfl
@[simp] theorem fillRecord_frames (r : RecId) (w : WorkRecord) (s : State) : (fillRecord r w s).frames = s.frames := by
  rfl
@[simp] theorem fillRecord_link (r : RecId) (w : WorkRecord) (s : State) : (fillRecord r w s).link = s.link := by
  rfl
@[simp] theorem fillRecord_cursor (r : RecId) (w : WorkRecord) (s : State) : (fillRecord r w s).cursor = s.cursor := by
  rfl
@[simp] theorem fillRecord_text (r : RecId) (w : WorkRecord) (s : State) : (fillRecord r w s).text = s.text := by
  rfl
@[simp] theorem fillRecord_carousels (r : RecId) (w : WorkRecord) (s : State) : (fillRecord r w s).carousels = s.carousels := by
  rfl
@[simp] theorem fillRecord_store (r : RecId) (w : WorkRecord) (s : State) : (fillRecord r w s).store = s.store := by
  rfl
@[simp] theorem fillRecord_alerts (r : RecId) (w : WorkRecord) (s : State) : (fillRecord r w s).alerts = s.alerts := by
  rfl
@[simp] theorem fillRecord_posted (r : RecId) (w : WorkRecord) (s : State) : (fillRecord r w s).posted = s.posted := by
  rfl
@[simp] theorem fillRecord_ran (r : RecId) (w : WorkRecord) (s : State) : (fillRecord r w s).ran = s.ran := by
  rfl
@[simp] theorem fillRecord_draws (r : RecId) (w : WorkRecord) (s : State) : (fillRecord r w s).draws = s.draws := by
  rfl
@[simp] theorem fillRecord_pending (r : RecId) (w : WorkRecord) (s : State) : (fillRecord r w s).pending = s.pending := by
  rfl
@[simp] theorem fillRecord_lane (r : RecId) (w : WorkRecord) (s : State) (l : LaneId) : (fillRecord r w s).lane l = s.lane l := by
  simp [State.lane]

/-! ### freeRecord -/

@[simp] theorem freeRecord_regs (r : RecId) (s : State) : (freeRecord r s).regs = s.regs := by
  rfl
@[simp] theorem freeRecord_lanes (r : RecId) (s : State) : (freeRecord r s).lanes = s.lanes := by
  rfl
@[simp] theorem freeRecord_maps (r : RecId) (s : State) : (freeRecord r s).maps = s.maps := by
  rfl
@[simp] theorem freeRecord_frames (r : RecId) (s : State) : (freeRecord r s).frames = s.frames := by
  rfl
@[simp] theorem freeRecord_link (r : RecId) (s : State) : (freeRecord r s).link = s.link := by
  rfl
@[simp] theorem freeRecord_cursor (r : RecId) (s : State) : (freeRecord r s).cursor = s.cursor := by
  rfl
@[simp] theorem freeRecord_text (r : RecId) (s : State) : (freeRecord r s).text = s.text := by
  rfl
@[simp] theorem freeRecord_carousels (r : RecId) (s : State) : (freeRecord r s).carousels = s.carousels := by
  rfl
@[simp] theorem freeRecord_store (r : RecId) (s : State) : (freeRecord r s).store = s.store := by
  rfl
@[simp] theorem freeRecord_alerts (r : RecId) (s : State) : (freeRecord r s).alerts = s.alerts := by
  rfl
@[simp] theorem freeRecord_posted (r : RecId) (s : State) : (freeRecord r s).posted = s.posted := by
  rfl
@[simp] theorem freeRecord_ran (r : RecId) (s : State) : (freeRecord r s).ran = s.ran := by
  rfl
@[simp] theorem freeRecord_draws (r : RecId) (s : State) : (freeRecord r s).draws = s.draws := by
  rfl
@[simp] theorem freeRecord_pending (r : RecId) (s : State) : (freeRecord r s).pending = s.pending := by
  rfl
@[simp] theorem freeRecord_lane (r : RecId) (s : State) (l : LaneId) : (freeRecord r s).lane l = s.lane l := by
  simp [State.lane]

/-! ### freeEntry -/

@[simp] theorem freeEntry_regs (r : RecId) (s : State) : (freeEntry r s).regs = s.regs := by
  rfl
@[simp] theorem freeEntry_reader (r : RecId) (s : State) : (freeEntry r s).reader = s.reader := by
  rfl
@[simp] theorem freeEntry_lanes (r : RecId) (s : State) : (freeEntry r s).lanes = s.lanes := by
  rfl
@[simp] theorem freeEntry_maps (r : RecId) (s : State) : (freeEntry r s).maps = s.maps := by
  rfl
@[simp] theorem freeEntry_frames (r : RecId) (s : State) : (freeEntry r s).frames = s.frames := by
  rfl
@[simp] theorem freeEntry_link (r : RecId) (s : State) : (freeEntry r s).link = s.link := by
  rfl
@[simp] theorem freeEntry_cursor (r : RecId) (s : State) : (freeEntry r s).cursor = s.cursor := by
  rfl
@[simp] theorem freeEntry_text (r : RecId) (s : State) : (freeEntry r s).text = s.text := by
  rfl
@[simp] theorem freeEntry_carousels (r : RecId) (s : State) : (freeEntry r s).carousels = s.carousels := by
  rfl
@[simp] theorem freeEntry_alerts (r : RecId) (s : State) : (freeEntry r s).alerts = s.alerts := by
  rfl
@[simp] theorem freeEntry_posted (r : RecId) (s : State) : (freeEntry r s).posted = s.posted := by
  rfl
@[simp] theorem freeEntry_ran (r : RecId) (s : State) : (freeEntry r s).ran = s.ran := by
  rfl
@[simp] theorem freeEntry_draws (r : RecId) (s : State) : (freeEntry r s).draws = s.draws := by
  rfl
@[simp] theorem freeEntry_pending (r : RecId) (s : State) : (freeEntry r s).pending = s.pending := by
  rfl
@[simp] theorem freeEntry_lane (r : RecId) (s : State) (l : LaneId) : (freeEntry r s).lane l = s.lane l := by
  simp [State.lane]

/-! ### postCompletion -/

@[simp] theorem postCompletion_regs (w : WorkRecord) (status : Nat) (aux frame : Word) (s : State) : (postCompletion w status aux frame s).regs = s.regs := by
  rfl
@[simp] theorem postCompletion_reader (w : WorkRecord) (status : Nat) (aux frame : Word) (s : State) : (postCompletion w status aux frame s).reader = s.reader := by
  rfl
@[simp] theorem postCompletion_lanes (w : WorkRecord) (status : Nat) (aux frame : Word) (s : State) : (postCompletion w status aux frame s).lanes = s.lanes := by
  rfl
@[simp] theorem postCompletion_maps (w : WorkRecord) (status : Nat) (aux frame : Word) (s : State) : (postCompletion w status aux frame s).maps = s.maps := by
  rfl
@[simp] theorem postCompletion_frames (w : WorkRecord) (status : Nat) (aux frame : Word) (s : State) : (postCompletion w status aux frame s).frames = s.frames := by
  rfl
@[simp] theorem postCompletion_link (w : WorkRecord) (status : Nat) (aux frame : Word) (s : State) : (postCompletion w status aux frame s).link = s.link := by
  rfl
@[simp] theorem postCompletion_cursor (w : WorkRecord) (status : Nat) (aux frame : Word) (s : State) : (postCompletion w status aux frame s).cursor = s.cursor := by
  rfl
@[simp] theorem postCompletion_text (w : WorkRecord) (status : Nat) (aux frame : Word) (s : State) : (postCompletion w status aux frame s).text = s.text := by
  rfl
@[simp] theorem postCompletion_carousels (w : WorkRecord) (status : Nat) (aux frame : Word) (s : State) : (postCompletion w status aux frame s).carousels = s.carousels := by
  rfl
@[simp] theorem postCompletion_store (w : WorkRecord) (status : Nat) (aux frame : Word) (s : State) : (postCompletion w status aux frame s).store = s.store := by
  rfl
@[simp] theorem postCompletion_alerts (w : WorkRecord) (status : Nat) (aux frame : Word) (s : State) : (postCompletion w status aux frame s).alerts = s.alerts := by
  rfl
@[simp] theorem postCompletion_ran (w : WorkRecord) (status : Nat) (aux frame : Word) (s : State) : (postCompletion w status aux frame s).ran = s.ran := by
  rfl
@[simp] theorem postCompletion_draws (w : WorkRecord) (status : Nat) (aux frame : Word) (s : State) : (postCompletion w status aux frame s).draws = s.draws := by
  rfl
@[simp] theorem postCompletion_pending (w : WorkRecord) (status : Nat) (aux frame : Word) (s : State) : (postCompletion w status aux frame s).pending = s.pending := by
  rfl
@[simp] theorem postCompletion_lane (w : WorkRecord) (status : Nat) (aux frame : Word) (s : State) (l : LaneId) : (postCompletion w status aux frame s).lane l = s.lane l := by
  simp [State.lane]

/-! ### noticeSlip -/

@[simp] theorem noticeSlip_reader (w : WorkRecord) (s : State) : (noticeSlip w s).reader = s.reader := by
  unfold noticeSlip; split_ifs <;> simp
@[simp] theorem noticeSlip_lanes (w : WorkRecord) (s : State) : (noticeSlip w s).lanes = s.lanes := by
  unfold noticeSlip; split_ifs <;> simp
@[simp] theorem noticeSlip_maps (w : WorkRecord) (s : State) : (noticeSlip w s).maps = s.maps := by
  unfold noticeSlip; split_ifs <;> simp
@[simp] theorem noticeSlip_frames (w : WorkRecord) (s : State) : (noticeSlip w s).frames = s.frames := by
  unfold noticeSlip; split_ifs <;> simp
@[simp] theorem noticeSlip_link (w : WorkRecord) (s : State) : (noticeSlip w s).link = s.link := by
  unfold noticeSlip; split_ifs <;> simp
@[simp] theorem noticeSlip_cursor (w : WorkRecord) (s : State) : (noticeSlip w s).cursor = s.cursor := by
  unfold noticeSlip; split_ifs <;> simp
@[simp] theorem noticeSlip_text (w : WorkRecord) (s : State) : (noticeSlip w s).text = s.text := by
  unfold noticeSlip; split_ifs <;> simp
@[simp] theorem noticeSlip_carousels (w : WorkRecord) (s : State) : (noticeSlip w s).carousels = s.carousels := by
  unfold noticeSlip; split_ifs <;> simp
@[simp] theorem noticeSlip_store (w : WorkRecord) (s : State) : (noticeSlip w s).store = s.store := by
  unfold noticeSlip; split_ifs <;> simp
@[simp] theorem noticeSlip_alerts (w : WorkRecord) (s : State) : (noticeSlip w s).alerts = s.alerts := by
  unfold noticeSlip; split_ifs <;> simp
@[simp] theorem noticeSlip_ran (w : WorkRecord) (s : State) : (noticeSlip w s).ran = s.ran := by
  unfold noticeSlip; split_ifs <;> simp
@[simp] theorem noticeSlip_draws (w : WorkRecord) (s : State) : (noticeSlip w s).draws = s.draws := by
  unfold noticeSlip; split_ifs <;> simp
@[simp] theorem noticeSlip_pending (w : WorkRecord) (s : State) : (noticeSlip w s).pending = s.pending := by
  unfold noticeSlip; split_ifs <;> simp
@[simp] theorem noticeSlip_lane (w : WorkRecord) (s : State) (l : LaneId) : (noticeSlip w s).lane l = s.lane l := by
  simp [State.lane]

/-! ### complete -/

@[simp] theorem complete_lanes (r : RecId) (status : Nat) (aux frame : Word) (s : State) : (complete r status aux frame s).lanes = s.lanes := by
  unfold complete; split <;> simp
@[simp] theorem complete_maps (r : RecId) (status : Nat) (aux frame : Word) (s : State) : (complete r status aux frame s).maps = s.maps := by
  unfold complete; split <;> simp
@[simp] theorem complete_frames (r : RecId) (status : Nat) (aux frame : Word) (s : State) : (complete r status aux frame s).frames = s.frames := by
  unfold complete; split <;> simp
@[simp] theorem complete_link (r : RecId) (status : Nat) (aux frame : Word) (s : State) : (complete r status aux frame s).link = s.link := by
  unfold complete; split <;> simp
@[simp] theorem complete_cursor (r : RecId) (status : Nat) (aux frame : Word) (s : State) : (complete r status aux frame s).cursor = s.cursor := by
  unfold complete; split <;> simp
@[simp] theorem complete_text (r : RecId) (status : Nat) (aux frame : Word) (s : State) : (complete r status aux frame s).text = s.text := by
  unfold complete; split <;> simp
@[simp] theorem complete_carousels (r : RecId) (status : Nat) (aux frame : Word) (s : State) : (complete r status aux frame s).carousels = s.carousels := by
  unfold complete; split <;> simp
@[simp] theorem complete_alerts (r : RecId) (status : Nat) (aux frame : Word) (s : State) : (complete r status aux frame s).alerts = s.alerts := by
  unfold complete; split <;> simp
@[simp] theorem complete_ran (r : RecId) (status : Nat) (aux frame : Word) (s : State) : (complete r status aux frame s).ran = s.ran := by
  unfold complete; split <;> simp
@[simp] theorem complete_draws (r : RecId) (status : Nat) (aux frame : Word) (s : State) : (complete r status aux frame s).draws = s.draws := by
  unfold complete; split <;> simp
@[simp] theorem complete_pending (r : RecId) (status : Nat) (aux frame : Word) (s : State) : (complete r status aux frame s).pending = s.pending := by
  unfold complete; split <;> simp
@[simp] theorem complete_lane (r : RecId) (status : Nat) (aux frame : Word) (s : State) (l : LaneId) : (complete r status aux frame s).lane l = s.lane l := by
  simp [State.lane]

/-! ### finish -/

@[simp] theorem finish_lanes (r : RecId) (status : Nat) (aux : Word) (s : State) : (finish r status aux s).lanes = s.lanes := by
  simp [finish]
@[simp] theorem finish_maps (r : RecId) (status : Nat) (aux : Word) (s : State) : (finish r status aux s).maps = s.maps := by
  simp [finish]
@[simp] theorem finish_frames (r : RecId) (status : Nat) (aux : Word) (s : State) : (finish r status aux s).frames = s.frames := by
  simp [finish]
@[simp] theorem finish_link (r : RecId) (status : Nat) (aux : Word) (s : State) : (finish r status aux s).link = s.link := by
  simp [finish]
@[simp] theorem finish_cursor (r : RecId) (status : Nat) (aux : Word) (s : State) : (finish r status aux s).cursor = s.cursor := by
  simp [finish]
@[simp] theorem finish_text (r : RecId) (status : Nat) (aux : Word) (s : State) : (finish r status aux s).text = s.text := by
  simp [finish]
@[simp] theorem finish_carousels (r : RecId) (status : Nat) (aux : Word) (s : State) : (finish r status aux s).carousels = s.carousels := by
  simp [finish]
@[simp] theorem finish_alerts (r : RecId) (status : Nat) (aux : Word) (s : State) : (finish r status aux s).alerts = s.alerts := by
  simp [finish]
@[simp] theorem finish_ran (r : RecId) (status : Nat) (aux : Word) (s : State) : (finish r status aux s).ran = s.ran := by
  simp [finish]
@[simp] theorem finish_draws (r : RecId) (status : Nat) (aux : Word) (s : State) : (finish r status aux s).draws = s.draws := by
  simp [finish]
@[simp] theorem finish_pending (r : RecId) (status : Nat) (aux : Word) (s : State) : (finish r status aux s).pending = s.pending := by
  simp [finish]
@[simp] theorem finish_lane (r : RecId) (status : Nat) (aux : Word) (s : State) (l : LaneId) : (finish r status aux s).lane l = s.lane l := by
  simp [State.lane]

/-! ### finishUnstated -/

@[simp] theorem finishUnstated_lanes (r : RecId) (status : Nat) (s : State) : (finishUnstated r status s).lanes = s.lanes := by
  simp [finishUnstated]
@[simp] theorem finishUnstated_maps (r : RecId) (status : Nat) (s : State) : (finishUnstated r status s).maps = s.maps := by
  simp [finishUnstated]
@[simp] theorem finishUnstated_frames (r : RecId) (status : Nat) (s : State) : (finishUnstated r status s).frames = s.frames := by
  simp [finishUnstated]
@[simp] theorem finishUnstated_link (r : RecId) (status : Nat) (s : State) : (finishUnstated r status s).link = s.link := by
  simp [finishUnstated]
@[simp] theorem finishUnstated_cursor (r : RecId) (status : Nat) (s : State) : (finishUnstated r status s).cursor = s.cursor := by
  simp [finishUnstated]
@[simp] theorem finishUnstated_text (r : RecId) (status : Nat) (s : State) : (finishUnstated r status s).text = s.text := by
  simp [finishUnstated]
@[simp] theorem finishUnstated_carousels (r : RecId) (status : Nat) (s : State) : (finishUnstated r status s).carousels = s.carousels := by
  simp [finishUnstated]
@[simp] theorem finishUnstated_alerts (r : RecId) (status : Nat) (s : State) : (finishUnstated r status s).alerts = s.alerts := by
  simp [finishUnstated]
@[simp] theorem finishUnstated_ran (r : RecId) (status : Nat) (s : State) : (finishUnstated r status s).ran = s.ran := by
  simp [finishUnstated]
@[simp] theorem finishUnstated_pending (r : RecId) (status : Nat) (s : State) : (finishUnstated r status s).pending = s.pending := by
  simp [finishUnstated]
@[simp] theorem finishUnstated_lane (r : RecId) (status : Nat) (s : State) (l : LaneId) : (finishUnstated r status s).lane l = s.lane l := by
  simp [State.lane]

/-- All that a completion does, when the work record holds a slip (R169). -/
theorem complete_spec (r : RecId) (status : Nat) (aux frame : Word) (s : State) (w : WorkRecord) (h : s.work r = some w) :
    slipReported s (complete r status aux frame s) r w [] s.regs status aux frame ∧ onlyJobs s (complete r status aux frame s) := by
  have e : complete r status aux frame s = noticeSlip w (freeEntry r (freeRecord r (postCompletion w status aux frame s))) := by
    simp [complete, h]
  rw [e]
  unfold noticeSlip slipReported slipWritten onlyJobs
  split_ifs
  · obtain ⟨a, b⟩ := raiseNotice_spec .slip (freeEntry r (freeRecord r (postCompletion w status aux frame s)))
    refine ⟨⟨⟨?_, ?_, ?_⟩, ?_⟩, ?_⟩
    · rw [raiseNotice_reader]; rfl
    · rw [a]; rfl
    · rw [b]; simp [postCompletion, completionWrites]
    · rw [raiseNotice_store]; rfl
    · rw [raiseNotice_store]; rfl
  · refine ⟨⟨⟨rfl, rfl, ?_⟩, rfl⟩, rfl⟩
    simp [postCompletion, completionWrites]

/-- A completion for a record that holds no slip does nothing. -/
theorem complete_none (r : RecId) (status : Nat) (aux frame : Word) (s : State) (h : s.work r = none) :
    complete r status aux frame s = s := by simp [complete, h]

/-- A completion keeps every byte of the store, every slot, the operation in progress and the directory writes. -/
theorem complete_onlyJobs (r : RecId) (status : Nat) (aux frame : Word) (s : State) :
    onlyJobs s (complete r status aux frame s) := by
  cases h : s.work r with
  | none => rw [complete_none _ _ _ _ _ h]; rfl
  | some w => exact (complete_spec r status aux frame s w h).2

/-! ### writeFrameMirror -/

@[simp] theorem writeFrameMirror_regs (counter : Word) (s : State) : (writeFrameMirror counter s).regs = s.regs := by
  rfl
@[simp] theorem writeFrameMirror_reader (counter : Word) (s : State) : (writeFrameMirror counter s).reader = s.reader := by
  rfl
@[simp] theorem writeFrameMirror_lanes (counter : Word) (s : State) : (writeFrameMirror counter s).lanes = s.lanes := by
  rfl
@[simp] theorem writeFrameMirror_maps (counter : Word) (s : State) : (writeFrameMirror counter s).maps = s.maps := by
  rfl
@[simp] theorem writeFrameMirror_frames (counter : Word) (s : State) : (writeFrameMirror counter s).frames = s.frames := by
  rfl
@[simp] theorem writeFrameMirror_link (counter : Word) (s : State) : (writeFrameMirror counter s).link = s.link := by
  rfl
@[simp] theorem writeFrameMirror_cursor (counter : Word) (s : State) : (writeFrameMirror counter s).cursor = s.cursor := by
  rfl
@[simp] theorem writeFrameMirror_text (counter : Word) (s : State) : (writeFrameMirror counter s).text = s.text := by
  rfl
@[simp] theorem writeFrameMirror_carousels (counter : Word) (s : State) : (writeFrameMirror counter s).carousels = s.carousels := by
  rfl
@[simp] theorem writeFrameMirror_store (counter : Word) (s : State) : (writeFrameMirror counter s).store = s.store := by
  rfl
@[simp] theorem writeFrameMirror_alerts (counter : Word) (s : State) : (writeFrameMirror counter s).alerts = s.alerts := by
  rfl
@[simp] theorem writeFrameMirror_ran (counter : Word) (s : State) : (writeFrameMirror counter s).ran = s.ran := by
  rfl
@[simp] theorem writeFrameMirror_draws (counter : Word) (s : State) : (writeFrameMirror counter s).draws = s.draws := by
  rfl
@[simp] theorem writeFrameMirror_pending (counter : Word) (s : State) : (writeFrameMirror counter s).pending = s.pending := by
  rfl
@[simp] theorem writeFrameMirror_lane (counter : Word) (s : State) (l : LaneId) : (writeFrameMirror counter s).lane l = s.lane l := by
  simp [State.lane]

/-! ### writeAlertMirror -/

@[simp] theorem writeAlertMirror_regs (p : PlaceId) (s : State) : (writeAlertMirror p s).regs = s.regs := by
  rfl
@[simp] theorem writeAlertMirror_reader (p : PlaceId) (s : State) : (writeAlertMirror p s).reader = s.reader := by
  rfl
@[simp] theorem writeAlertMirror_lanes (p : PlaceId) (s : State) : (writeAlertMirror p s).lanes = s.lanes := by
  rfl
@[simp] theorem writeAlertMirror_maps (p : PlaceId) (s : State) : (writeAlertMirror p s).maps = s.maps := by
  rfl
@[simp] theorem writeAlertMirror_frames (p : PlaceId) (s : State) : (writeAlertMirror p s).frames = s.frames := by
  rfl
@[simp] theorem writeAlertMirror_link (p : PlaceId) (s : State) : (writeAlertMirror p s).link = s.link := by
  rfl
@[simp] theorem writeAlertMirror_cursor (p : PlaceId) (s : State) : (writeAlertMirror p s).cursor = s.cursor := by
  rfl
@[simp] theorem writeAlertMirror_text (p : PlaceId) (s : State) : (writeAlertMirror p s).text = s.text := by
  rfl
@[simp] theorem writeAlertMirror_carousels (p : PlaceId) (s : State) : (writeAlertMirror p s).carousels = s.carousels := by
  rfl
@[simp] theorem writeAlertMirror_store (p : PlaceId) (s : State) : (writeAlertMirror p s).store = s.store := by
  rfl
@[simp] theorem writeAlertMirror_alerts (p : PlaceId) (s : State) : (writeAlertMirror p s).alerts = s.alerts := by
  rfl
@[simp] theorem writeAlertMirror_ran (p : PlaceId) (s : State) : (writeAlertMirror p s).ran = s.ran := by
  rfl
@[simp] theorem writeAlertMirror_draws (p : PlaceId) (s : State) : (writeAlertMirror p s).draws = s.draws := by
  rfl
@[simp] theorem writeAlertMirror_pending (p : PlaceId) (s : State) : (writeAlertMirror p s).pending = s.pending := by
  rfl
@[simp] theorem writeAlertMirror_lane (p : PlaceId) (s : State) (l : LaneId) : (writeAlertMirror p s).lane l = s.lane l := by
  simp [State.lane]

/-! ### writeLaneMirror -/

@[simp] theorem writeLaneMirror_regs (l : LaneId) (counter : Word) (s : State) : (writeLaneMirror l counter s).regs = s.regs := by
  rfl
@[simp] theorem writeLaneMirror_reader (l : LaneId) (counter : Word) (s : State) : (writeLaneMirror l counter s).reader = s.reader := by
  rfl
@[simp] theorem writeLaneMirror_lanes (l : LaneId) (counter : Word) (s : State) : (writeLaneMirror l counter s).lanes = s.lanes := by
  rfl
@[simp] theorem writeLaneMirror_maps (l : LaneId) (counter : Word) (s : State) : (writeLaneMirror l counter s).maps = s.maps := by
  rfl
@[simp] theorem writeLaneMirror_frames (l : LaneId) (counter : Word) (s : State) : (writeLaneMirror l counter s).frames = s.frames := by
  rfl
@[simp] theorem writeLaneMirror_link (l : LaneId) (counter : Word) (s : State) : (writeLaneMirror l counter s).link = s.link := by
  rfl
@[simp] theorem writeLaneMirror_cursor (l : LaneId) (counter : Word) (s : State) : (writeLaneMirror l counter s).cursor = s.cursor := by
  rfl
@[simp] theorem writeLaneMirror_text (l : LaneId) (counter : Word) (s : State) : (writeLaneMirror l counter s).text = s.text := by
  rfl
@[simp] theorem writeLaneMirror_carousels (l : LaneId) (counter : Word) (s : State) : (writeLaneMirror l counter s).carousels = s.carousels := by
  rfl
@[simp] theorem writeLaneMirror_store (l : LaneId) (counter : Word) (s : State) : (writeLaneMirror l counter s).store = s.store := by
  rfl
@[simp] theorem writeLaneMirror_alerts (l : LaneId) (counter : Word) (s : State) : (writeLaneMirror l counter s).alerts = s.alerts := by
  rfl
@[simp] theorem writeLaneMirror_ran (l : LaneId) (counter : Word) (s : State) : (writeLaneMirror l counter s).ran = s.ran := by
  rfl
@[simp] theorem writeLaneMirror_draws (l : LaneId) (counter : Word) (s : State) : (writeLaneMirror l counter s).draws = s.draws := by
  rfl
@[simp] theorem writeLaneMirror_pending (l : LaneId) (counter : Word) (s : State) : (writeLaneMirror l counter s).pending = s.pending := by
  rfl
@[simp] theorem writeLaneMirror_lane (l : LaneId) (counter : Word) (s : State) (k : LaneId) : (writeLaneMirror l counter s).lane k = s.lane k := rfl

/-! ### postDirectoryEntry -/

@[simp] theorem postDirectoryEntry_regs (i : SlotId) (s : State) : (postDirectoryEntry i s).regs = s.regs := by
  rfl
@[simp] theorem postDirectoryEntry_reader (i : SlotId) (s : State) : (postDirectoryEntry i s).reader = s.reader := by
  rfl
@[simp] theorem postDirectoryEntry_lanes (i : SlotId) (s : State) : (postDirectoryEntry i s).lanes = s.lanes := by
  rfl
@[simp] theorem postDirectoryEntry_maps (i : SlotId) (s : State) : (postDirectoryEntry i s).maps = s.maps := by
  rfl
@[simp] theorem postDirectoryEntry_frames (i : SlotId) (s : State) : (postDirectoryEntry i s).frames = s.frames := by
  rfl
@[simp] theorem postDirectoryEntry_link (i : SlotId) (s : State) : (postDirectoryEntry i s).link = s.link := by
  rfl
@[simp] theorem postDirectoryEntry_cursor (i : SlotId) (s : State) : (postDirectoryEntry i s).cursor = s.cursor := by
  rfl
@[simp] theorem postDirectoryEntry_text (i : SlotId) (s : State) : (postDirectoryEntry i s).text = s.text := by
  rfl
@[simp] theorem postDirectoryEntry_carousels (i : SlotId) (s : State) : (postDirectoryEntry i s).carousels = s.carousels := by
  rfl
@[simp] theorem postDirectoryEntry_store (i : SlotId) (s : State) : (postDirectoryEntry i s).store = s.store := by
  rfl
@[simp] theorem postDirectoryEntry_alerts (i : SlotId) (s : State) : (postDirectoryEntry i s).alerts = s.alerts := by
  rfl
@[simp] theorem postDirectoryEntry_ran (i : SlotId) (s : State) : (postDirectoryEntry i s).ran = s.ran := by
  rfl
@[simp] theorem postDirectoryEntry_draws (i : SlotId) (s : State) : (postDirectoryEntry i s).draws = s.draws := by
  rfl
@[simp] theorem postDirectoryEntry_pending (i : SlotId) (s : State) : (postDirectoryEntry i s).pending = s.pending := by
  rfl
@[simp] theorem postDirectoryEntry_lane (i : SlotId) (s : State) (l : LaneId) : (postDirectoryEntry i s).lane l = s.lane l := by
  simp [State.lane]

/-! ### writeDirectoryMirror -/

@[simp] theorem writeDirectoryMirror_regs (i : SlotId) (s : State) : (writeDirectoryMirror i s).regs = s.regs := by
  unfold writeDirectoryMirror; split_ifs <;> rfl
@[simp] theorem writeDirectoryMirror_reader (i : SlotId) (s : State) : (writeDirectoryMirror i s).reader = s.reader := by
  unfold writeDirectoryMirror; split_ifs <;> rfl
@[simp] theorem writeDirectoryMirror_lanes (i : SlotId) (s : State) : (writeDirectoryMirror i s).lanes = s.lanes := by
  unfold writeDirectoryMirror; split_ifs <;> rfl
@[simp] theorem writeDirectoryMirror_maps (i : SlotId) (s : State) : (writeDirectoryMirror i s).maps = s.maps := by
  unfold writeDirectoryMirror; split_ifs <;> rfl
@[simp] theorem writeDirectoryMirror_frames (i : SlotId) (s : State) : (writeDirectoryMirror i s).frames = s.frames := by
  unfold writeDirectoryMirror; split_ifs <;> rfl
@[simp] theorem writeDirectoryMirror_link (i : SlotId) (s : State) : (writeDirectoryMirror i s).link = s.link := by
  unfold writeDirectoryMirror; split_ifs <;> rfl
@[simp] theorem writeDirectoryMirror_cursor (i : SlotId) (s : State) : (writeDirectoryMirror i s).cursor = s.cursor := by
  unfold writeDirectoryMirror; split_ifs <;> rfl
@[simp] theorem writeDirectoryMirror_text (i : SlotId) (s : State) : (writeDirectoryMirror i s).text = s.text := by
  unfold writeDirectoryMirror; split_ifs <;> rfl
@[simp] theorem writeDirectoryMirror_carousels (i : SlotId) (s : State) : (writeDirectoryMirror i s).carousels = s.carousels := by
  unfold writeDirectoryMirror; split_ifs <;> rfl
@[simp] theorem writeDirectoryMirror_store (i : SlotId) (s : State) : (writeDirectoryMirror i s).store = s.store := by
  unfold writeDirectoryMirror; split_ifs <;> rfl
@[simp] theorem writeDirectoryMirror_alerts (i : SlotId) (s : State) : (writeDirectoryMirror i s).alerts = s.alerts := by
  unfold writeDirectoryMirror; split_ifs <;> rfl
@[simp] theorem writeDirectoryMirror_ran (i : SlotId) (s : State) : (writeDirectoryMirror i s).ran = s.ran := by
  unfold writeDirectoryMirror; split_ifs <;> rfl
@[simp] theorem writeDirectoryMirror_draws (i : SlotId) (s : State) : (writeDirectoryMirror i s).draws = s.draws := by
  unfold writeDirectoryMirror; split_ifs <;> rfl
@[simp] theorem writeDirectoryMirror_pending (i : SlotId) (s : State) : (writeDirectoryMirror i s).pending = s.pending := by
  unfold writeDirectoryMirror; split_ifs <;> rfl
@[simp] theorem writeDirectoryMirror_lane (i : SlotId) (s : State) (l : LaneId) : (writeDirectoryMirror i s).lane l = s.lane l := by
  simp [State.lane]

/-! ### beginDirWrite -/

@[simp] theorem beginDirWrite_regs (w : DirWrite) (s : State) : (beginDirWrite w s).regs = s.regs := by
  rfl
@[simp] theorem beginDirWrite_reader (w : DirWrite) (s : State) : (beginDirWrite w s).reader = s.reader := by
  rfl
@[simp] theorem beginDirWrite_lanes (w : DirWrite) (s : State) : (beginDirWrite w s).lanes = s.lanes := by
  rfl
@[simp] theorem beginDirWrite_maps (w : DirWrite) (s : State) : (beginDirWrite w s).maps = s.maps := by
  rfl
@[simp] theorem beginDirWrite_frames (w : DirWrite) (s : State) : (beginDirWrite w s).frames = s.frames := by
  rfl
@[simp] theorem beginDirWrite_link (w : DirWrite) (s : State) : (beginDirWrite w s).link = s.link := by
  rfl
@[simp] theorem beginDirWrite_cursor (w : DirWrite) (s : State) : (beginDirWrite w s).cursor = s.cursor := by
  rfl
@[simp] theorem beginDirWrite_text (w : DirWrite) (s : State) : (beginDirWrite w s).text = s.text := by
  rfl
@[simp] theorem beginDirWrite_carousels (w : DirWrite) (s : State) : (beginDirWrite w s).carousels = s.carousels := by
  rfl
@[simp] theorem beginDirWrite_alerts (w : DirWrite) (s : State) : (beginDirWrite w s).alerts = s.alerts := by
  rfl
@[simp] theorem beginDirWrite_posted (w : DirWrite) (s : State) : (beginDirWrite w s).posted = s.posted := by
  rfl
@[simp] theorem beginDirWrite_ran (w : DirWrite) (s : State) : (beginDirWrite w s).ran = s.ran := by
  rfl
@[simp] theorem beginDirWrite_draws (w : DirWrite) (s : State) : (beginDirWrite w s).draws = s.draws := by
  rfl
@[simp] theorem beginDirWrite_pending (w : DirWrite) (s : State) : (beginDirWrite w s).pending = s.pending := by
  rfl
@[simp] theorem beginDirWrite_lane (w : DirWrite) (s : State) (l : LaneId) : (beginDirWrite w s).lane l = s.lane l := by
  simp [State.lane]

/-! ### recordSlot -/

@[simp] theorem recordSlot_regs (i : SlotId) (d : DirRecord) (s : State) : (recordSlot i d s).regs = s.regs := by
  simp [recordSlot]
@[simp] theorem recordSlot_reader (i : SlotId) (d : DirRecord) (s : State) : (recordSlot i d s).reader = s.reader := by
  simp [recordSlot]
@[simp] theorem recordSlot_lanes (i : SlotId) (d : DirRecord) (s : State) : (recordSlot i d s).lanes = s.lanes := by
  simp [recordSlot]
@[simp] theorem recordSlot_maps (i : SlotId) (d : DirRecord) (s : State) : (recordSlot i d s).maps = s.maps := by
  simp [recordSlot]
@[simp] theorem recordSlot_frames (i : SlotId) (d : DirRecord) (s : State) : (recordSlot i d s).frames = s.frames := by
  simp [recordSlot]
@[simp] theorem recordSlot_link (i : SlotId) (d : DirRecord) (s : State) : (recordSlot i d s).link = s.link := by
  simp [recordSlot]
@[simp] theorem recordSlot_cursor (i : SlotId) (d : DirRecord) (s : State) : (recordSlot i d s).cursor = s.cursor := by
  simp [recordSlot]
@[simp] theorem recordSlot_text (i : SlotId) (d : DirRecord) (s : State) : (recordSlot i d s).text = s.text := by
  simp [recordSlot]
@[simp] theorem recordSlot_carousels (i : SlotId) (d : DirRecord) (s : State) : (recordSlot i d s).carousels = s.carousels := by
  simp [recordSlot]
@[simp] theorem recordSlot_alerts (i : SlotId) (d : DirRecord) (s : State) : (recordSlot i d s).alerts = s.alerts := by
  simp [recordSlot]
@[simp] theorem recordSlot_ran (i : SlotId) (d : DirRecord) (s : State) : (recordSlot i d s).ran = s.ran := by
  simp [recordSlot]
@[simp] theorem recordSlot_draws (i : SlotId) (d : DirRecord) (s : State) : (recordSlot i d s).draws = s.draws := by
  simp [recordSlot]
@[simp] theorem recordSlot_pending (i : SlotId) (d : DirRecord) (s : State) : (recordSlot i d s).pending = s.pending := by
  simp [recordSlot]
@[simp] theorem recordSlot_lane (i : SlotId) (d : DirRecord) (s : State) (l : LaneId) : (recordSlot i d s).lane l = s.lane l := by
  simp [State.lane]

/-! ### setUsers -/

@[simp] theorem setUsers_regs (i : SlotId) (n : Nat) (s : State) : (setUsers i n s).regs = s.regs := by
  unfold setUsers; dsimp only; split_ifs <;> simp
@[simp] theorem setUsers_reader (i : SlotId) (n : Nat) (s : State) : (setUsers i n s).reader = s.reader := by
  unfold setUsers; dsimp only; split_ifs <;> simp
@[simp] theorem setUsers_lanes (i : SlotId) (n : Nat) (s : State) : (setUsers i n s).lanes = s.lanes := by
  unfold setUsers; dsimp only; split_ifs <;> simp
@[simp] theorem setUsers_maps (i : SlotId) (n : Nat) (s : State) : (setUsers i n s).maps = s.maps := by
  unfold setUsers; dsimp only; split_ifs <;> simp
@[simp] theorem setUsers_frames (i : SlotId) (n : Nat) (s : State) : (setUsers i n s).frames = s.frames := by
  unfold setUsers; dsimp only; split_ifs <;> simp
@[simp] theorem setUsers_link (i : SlotId) (n : Nat) (s : State) : (setUsers i n s).link = s.link := by
  unfold setUsers; dsimp only; split_ifs <;> simp
@[simp] theorem setUsers_cursor (i : SlotId) (n : Nat) (s : State) : (setUsers i n s).cursor = s.cursor := by
  unfold setUsers; dsimp only; split_ifs <;> simp
@[simp] theorem setUsers_text (i : SlotId) (n : Nat) (s : State) : (setUsers i n s).text = s.text := by
  unfold setUsers; dsimp only; split_ifs <;> simp
@[simp] theorem setUsers_carousels (i : SlotId) (n : Nat) (s : State) : (setUsers i n s).carousels = s.carousels := by
  unfold setUsers; dsimp only; split_ifs <;> simp
@[simp] theorem setUsers_alerts (i : SlotId) (n : Nat) (s : State) : (setUsers i n s).alerts = s.alerts := by
  unfold setUsers; dsimp only; split_ifs <;> simp
@[simp] theorem setUsers_ran (i : SlotId) (n : Nat) (s : State) : (setUsers i n s).ran = s.ran := by
  unfold setUsers; dsimp only; split_ifs <;> simp
@[simp] theorem setUsers_draws (i : SlotId) (n : Nat) (s : State) : (setUsers i n s).draws = s.draws := by
  unfold setUsers; dsimp only; split_ifs <;> simp
@[simp] theorem setUsers_pending (i : SlotId) (n : Nat) (s : State) : (setUsers i n s).pending = s.pending := by
  unfold setUsers; dsimp only; split_ifs <;> simp
@[simp] theorem setUsers_lane (i : SlotId) (n : Nat) (s : State) (l : LaneId) : (setUsers i n s).lane l = s.lane l := by
  simp [State.lane]

/-! ### retallySlot -/

@[simp] theorem retallySlot_regs (old new : List SlotId) (s : State) (i : SlotId) : (retallySlot old new s i).regs = s.regs := by
  unfold retallySlot; split_ifs <;> simp
@[simp] theorem retallySlot_reader (old new : List SlotId) (s : State) (i : SlotId) : (retallySlot old new s i).reader = s.reader := by
  unfold retallySlot; split_ifs <;> simp
@[simp] theorem retallySlot_lanes (old new : List SlotId) (s : State) (i : SlotId) : (retallySlot old new s i).lanes = s.lanes := by
  unfold retallySlot; split_ifs <;> simp
@[simp] theorem retallySlot_maps (old new : List SlotId) (s : State) (i : SlotId) : (retallySlot old new s i).maps = s.maps := by
  unfold retallySlot; split_ifs <;> simp
@[simp] theorem retallySlot_frames (old new : List SlotId) (s : State) (i : SlotId) : (retallySlot old new s i).frames = s.frames := by
  unfold retallySlot; split_ifs <;> simp
@[simp] theorem retallySlot_link (old new : List SlotId) (s : State) (i : SlotId) : (retallySlot old new s i).link = s.link := by
  unfold retallySlot; split_ifs <;> simp
@[simp] theorem retallySlot_cursor (old new : List SlotId) (s : State) (i : SlotId) : (retallySlot old new s i).cursor = s.cursor := by
  unfold retallySlot; split_ifs <;> simp
@[simp] theorem retallySlot_text (old new : List SlotId) (s : State) (i : SlotId) : (retallySlot old new s i).text = s.text := by
  unfold retallySlot; split_ifs <;> simp
@[simp] theorem retallySlot_carousels (old new : List SlotId) (s : State) (i : SlotId) : (retallySlot old new s i).carousels = s.carousels := by
  unfold retallySlot; split_ifs <;> simp
@[simp] theorem retallySlot_alerts (old new : List SlotId) (s : State) (i : SlotId) : (retallySlot old new s i).alerts = s.alerts := by
  unfold retallySlot; split_ifs <;> simp
@[simp] theorem retallySlot_ran (old new : List SlotId) (s : State) (i : SlotId) : (retallySlot old new s i).ran = s.ran := by
  unfold retallySlot; split_ifs <;> simp
@[simp] theorem retallySlot_draws (old new : List SlotId) (s : State) (i : SlotId) : (retallySlot old new s i).draws = s.draws := by
  unfold retallySlot; split_ifs <;> simp
@[simp] theorem retallySlot_pending (old new : List SlotId) (s : State) (i : SlotId) : (retallySlot old new s i).pending = s.pending := by
  unfold retallySlot; split_ifs <;> simp
@[simp] theorem retallySlot_lane (old new : List SlotId) (s : State) (i : SlotId) (l : LaneId) : (retallySlot old new s i).lane l = s.lane l := by
  simp [State.lane]

/-- A property that every step of a fold keeps holds of its end. -/
theorem foldl_keeps {α β : Type} (P : β → Prop) (f : β → α → β) (step : ∀ b a, P b → P (f b a)) :
    ∀ (l : List α) (b : β), P b → P (l.foldl f b)
  | [], _, h => h
  | a :: l, b, h => foldl_keeps P f step l (f b a) (step b a h)

/-! ### retally -/

@[simp] theorem retally_regs (old new : List SlotId) (s : State) : (retally old new s).regs = s.regs := by
  exact foldl_keeps (fun t => t.regs = s.regs) _ (fun t i h => (retallySlot_regs old new t i).trans h) _ s rfl
@[simp] theorem retally_reader (old new : List SlotId) (s : State) : (retally old new s).reader = s.reader := by
  exact foldl_keeps (fun t => t.reader = s.reader) _ (fun t i h => (retallySlot_reader old new t i).trans h) _ s rfl
@[simp] theorem retally_lanes (old new : List SlotId) (s : State) : (retally old new s).lanes = s.lanes := by
  exact foldl_keeps (fun t => t.lanes = s.lanes) _ (fun t i h => (retallySlot_lanes old new t i).trans h) _ s rfl
@[simp] theorem retally_maps (old new : List SlotId) (s : State) : (retally old new s).maps = s.maps := by
  exact foldl_keeps (fun t => t.maps = s.maps) _ (fun t i h => (retallySlot_maps old new t i).trans h) _ s rfl
@[simp] theorem retally_frames (old new : List SlotId) (s : State) : (retally old new s).frames = s.frames := by
  exact foldl_keeps (fun t => t.frames = s.frames) _ (fun t i h => (retallySlot_frames old new t i).trans h) _ s rfl
@[simp] theorem retally_link (old new : List SlotId) (s : State) : (retally old new s).link = s.link := by
  exact foldl_keeps (fun t => t.link = s.link) _ (fun t i h => (retallySlot_link old new t i).trans h) _ s rfl
@[simp] theorem retally_cursor (old new : List SlotId) (s : State) : (retally old new s).cursor = s.cursor := by
  exact foldl_keeps (fun t => t.cursor = s.cursor) _ (fun t i h => (retallySlot_cursor old new t i).trans h) _ s rfl
@[simp] theorem retally_text (old new : List SlotId) (s : State) : (retally old new s).text = s.text := by
  exact foldl_keeps (fun t => t.text = s.text) _ (fun t i h => (retallySlot_text old new t i).trans h) _ s rfl
@[simp] theorem retally_carousels (old new : List SlotId) (s : State) : (retally old new s).carousels = s.carousels := by
  exact foldl_keeps (fun t => t.carousels = s.carousels) _ (fun t i h => (retallySlot_carousels old new t i).trans h) _ s rfl
@[simp] theorem retally_alerts (old new : List SlotId) (s : State) : (retally old new s).alerts = s.alerts := by
  exact foldl_keeps (fun t => t.alerts = s.alerts) _ (fun t i h => (retallySlot_alerts old new t i).trans h) _ s rfl
@[simp] theorem retally_ran (old new : List SlotId) (s : State) : (retally old new s).ran = s.ran := by
  exact foldl_keeps (fun t => t.ran = s.ran) _ (fun t i h => (retallySlot_ran old new t i).trans h) _ s rfl
@[simp] theorem retally_draws (old new : List SlotId) (s : State) : (retally old new s).draws = s.draws := by
  exact foldl_keeps (fun t => t.draws = s.draws) _ (fun t i h => (retallySlot_draws old new t i).trans h) _ s rfl
@[simp] theorem retally_pending (old new : List SlotId) (s : State) : (retally old new s).pending = s.pending := by
  exact foldl_keeps (fun t => t.pending = s.pending) _ (fun t i h => (retallySlot_pending old new t i).trans h) _ s rfl
@[simp] theorem retally_lane (old new : List SlotId) (s : State) (l : LaneId) : (retally old new s).lane l = s.lane l := by
  simp [State.lane]

/-- The user-count operation keeps every record, every byte and the operation in progress. -/
theorem setUsers_onlyUsers (i : SlotId) (n : Nat) (s : State) : onlyUsers s (setUsers i n s) := by
  unfold setUsers onlyUsers
  dsimp only
  split_ifs
  all_goals refine ⟨by simp [beginDirWrite], fun k => ?_⟩
  all_goals
    by_cases h : k = i
    · subst h; simp [State.slot, beginDirWrite]
    · have : (i : Nat) ≠ k := fun e => h (Fin.ext e.symm)
      simp [State.slot, beginDirWrite, Vector.getElem_set_ne, this]

theorem onlyUsers_refl (s : State) : onlyUsers s s := ⟨rfl, fun _ => rfl⟩

theorem onlyUsers_trans {s t u : State} (h : onlyUsers s t) (k : onlyUsers t u) : onlyUsers s u := by
  refine ⟨?_, fun i => (k.2 i).trans (h.2 i)⟩
  have a := h.1
  have b := k.1
  rw [a] at b
  exact b

/-- So do the user counts adjusted by a list of references. -/
theorem retally_onlyUsers (old new : List SlotId) (s : State) : onlyUsers s (retally old new s) := by
  refine foldl_keeps (fun t => onlyUsers s t) _ (fun t i h => ?_) _ s (onlyUsers_refl s)
  unfold retallySlot
  split_ifs
  · exact h
  · exact onlyUsers_trans h (setUsers_onlyUsers _ _ _)

end Sys2Proof.Machine
end

