-- ==== Sys2Proof/Laws/Store.lean ====
section
/-! SUPPORT. The picture store's bytes: every operation on them keeps the canonical form, and what each byte reads as
afterwards (R103). -/

namespace Sys2Proof.Machine

/-! ### The canonical form -/

theorem storeWf_cons (c : Host.Cell) (cs : List Host.Cell) :
    storeWf (c :: cs) = true ↔ c.2 ≠ Config.erasedByte ∧ (∀ d ∈ cs, c.1 < d.1) ∧ storeWf cs = true := by
  simp [storeWf, and_assoc]

theorem storePut_above (m : List Host.Cell) (a k : Nat) (b : Byte) (hk : k < a) (h : ∀ d ∈ m, k < d.1) :
    ∀ d ∈ storePut m a b, k < d.1 := by
  induction m with
  | nil => unfold storePut; split_ifs <;> simp [hk]
  | cons c cs ih =>
    have hc : k < c.1 := h c (by simp)
    have hcs : ∀ d ∈ cs, k < d.1 := fun d hd => h d (by simp [hd])
    unfold storePut
    split_ifs
    · exact h
    · intro d hd
      rcases List.mem_cons.1 hd with rfl | hd
      · exact hk
      · exact h d hd
    · exact hcs
    · intro d hd
      rcases List.mem_cons.1 hd with rfl | hd
      · exact hk
      · exact hcs d hd
    · intro d hd
      rcases List.mem_cons.1 hd with rfl | hd
      · exact hc
      · exact ih hcs d hd

/-- A write of one byte keeps the canonical form. -/
theorem storeWf_storePut (m : List Host.Cell) (a : Nat) (b : Byte) (h : storeWf m = true) : storeWf (storePut m a b) = true := by
  induction m with
  | nil => unfold storePut; split_ifs with e <;> simp [storeWf, e]
  | cons c cs ih =>
    obtain ⟨h1, h2, h3⟩ := (storeWf_cons c cs).1 h
    unfold storePut
    split_ifs with ha hb he hb
    · exact h
    · exact (storeWf_cons _ _).2 ⟨hb, fun d hd => by
        rcases List.mem_cons.1 hd with rfl | hd
        · exact ha
        · exact ha.trans (h2 d hd), h⟩
    · exact h3
    · exact (storeWf_cons _ _).2 ⟨hb, fun d hd => he ▸ h2 d hd, h3⟩
    · exact (storeWf_cons _ _).2 ⟨h1, storePut_above cs a c.1 b (by omega) h2, ih h3⟩

/-- An erase keeps the canonical form. -/
theorem storeWf_filter (m : List Host.Cell) (p : Host.Cell → Bool) (h : storeWf m = true) : storeWf (m.filter p) = true := by
  induction m with
  | nil => rfl
  | cons c cs ih =>
    obtain ⟨h1, h2, h3⟩ := (storeWf_cons c cs).1 h
    by_cases e : p c = true
    · rw [List.filter_cons_of_pos e]
      exact (storeWf_cons _ _).2 ⟨h1, fun d hd => h2 d (List.mem_filter.1 hd).1, ih h3⟩
    · rw [List.filter_cons_of_neg e]
      exact ih h3

theorem storeWf_storeErase (m : List Host.Cell) (block : Nat) (h : storeWf m = true) : storeWf (storeErase m block) = true :=
  storeWf_filter m _ h

/-- A page program keeps the canonical form. -/
theorem storeWf_storeProgram (bs : List Byte) : ∀ (m : List Host.Cell) (a : Nat), storeWf m = true →
    storeWf (storeProgram m a bs) = true := by
  induction bs with
  | nil => intro m a h; exact h
  | cons b bs ih => intro m a h; exact ih _ _ (storeWf_storePut _ _ _ h)

/-! ### Reads after writes -/

theorem storeByte_cons (c : Host.Cell) (cs : List Host.Cell) (a : Nat) :
    storeByte (c :: cs) a = if c.1 = a then c.2 else storeByte cs a := by
  unfold storeByte
  by_cases h : c.1 = a <;> simp [h]

theorem storeByte_of_above (m : List Host.Cell) (a : Nat) (h : ∀ d ∈ m, a < d.1) : storeByte m a = Config.erasedByte := by
  induction m with
  | nil => rfl
  | cons c cs ih =>
    have : c.1 ≠ a := fun e => absurd (h c (by simp)) (by omega)
    rw [storeByte_cons, if_neg this]
    exact ih fun d hd => h d (by simp [hd])

/-- The byte written reads back, and every other byte reads as before. -/
theorem storeByte_storePut (m : List Host.Cell) (a k : Nat) (b : Byte) (h : storeWf m = true) :
    storeByte (storePut m a b) k = if k = a then b else storeByte m k := by
  induction m with
  | nil =>
    unfold storePut
    by_cases hb : b = Config.erasedByte
    · rw [if_pos hb, hb]
      split_ifs <;> rfl
    · rw [if_neg hb, storeByte_cons]
      by_cases hk : k = a
      · rw [if_pos hk.symm, if_pos hk]
      · rw [if_neg (Ne.symm hk), if_neg hk]
  | cons c cs ih =>
    obtain ⟨_, h2, h3⟩ := (storeWf_cons c cs).1 h
    unfold storePut
    by_cases ha : a < c.1
    · rw [if_pos ha]
      have low : storeByte (c :: cs) a = Config.erasedByte :=
        storeByte_of_above _ _ fun d hd => by
          rcases List.mem_cons.1 hd with rfl | hd
          · exact ha
          · exact ha.trans (h2 d hd)
      by_cases hb : b = Config.erasedByte
      · rw [if_pos hb]
        by_cases hk : k = a
        · rw [if_pos hk, hk, low, hb]
        · rw [if_neg hk]
      · rw [if_neg hb, storeByte_cons (a, b)]
        by_cases hk : k = a
        · rw [if_pos hk.symm, if_pos hk]
        · rw [if_neg (Ne.symm hk), if_neg hk]
    · rw [if_neg ha]
      by_cases he : a = c.1
      · rw [if_pos he]
        by_cases hb : b = Config.erasedByte
        · rw [if_pos hb, storeByte_cons]
          by_cases hk : k = a
          · rw [if_pos hk, hb]
            exact storeByte_of_above _ _ fun d hd => by rw [hk, he]; exact h2 d hd
          · rw [if_neg hk, if_neg (by omega)]
        · rw [if_neg hb, storeByte_cons, storeByte_cons c]
          by_cases hk : k = a
          · rw [if_pos hk.symm, if_pos hk]
          · rw [if_neg (Ne.symm hk), if_neg hk, if_neg (by omega)]
      · rw [if_neg he, storeByte_cons, storeByte_cons c, ih h3]
        by_cases hk : k = a
        · rw [if_pos hk, if_pos hk, if_neg (by omega)]
        · rw [if_neg hk, if_neg hk]

/-- After an erase the block's bytes read 0xFF, and every other byte reads as before (R103). -/
theorem storeByte_storeErase (m : List Host.Cell) (block k : Nat) :
    storeByte (storeErase m block) k = if blockOf k = block then Config.erasedByte else storeByte m k := by
  induction m with
  | nil => split_ifs <;> rfl
  | cons c cs ih =>
    by_cases hc : blockOf c.1 = block
    · have e : storeErase (c :: cs) block = storeErase cs block := by simp [storeErase, hc]
      rw [e, ih, storeByte_cons]
      by_cases hk : blockOf k = block
      · rw [if_pos hk, if_pos hk]
      · rw [if_neg hk, if_neg hk, if_neg (fun x : c.1 = k => hk (x ▸ hc))]
    · have e : storeErase (c :: cs) block = c :: storeErase cs block := by simp [storeErase, hc]
      rw [e, storeByte_cons, storeByte_cons, ih]
      by_cases hk : c.1 = k
      · rw [if_pos hk, if_pos hk, if_neg (hk ▸ hc)]
      · rw [if_neg hk, if_neg hk]

/-- After a program each byte written is its old value AND the byte given, and every other byte reads as before (R103). -/
theorem storeByte_storeProgram (bs : List Byte) : ∀ (m : List Host.Cell) (a k : Nat), storeWf m = true →
    storeByte (storeProgram m a bs) k =
      if a ≤ k ∧ k < a + bs.length then storeByte m k &&& bs.getD (k - a) 0 else storeByte m k := by
  induction bs with
  | nil => intro m a k _; simp [storeProgram]
  | cons b bs ih =>
    intro m a k h
    show storeByte (storeProgram (storePut m a (storeByte m a &&& b)) (a + 1) bs) k = _
    rw [ih _ _ _ (storeWf_storePut _ _ _ h), storeByte_storePut _ _ _ _ h]
    by_cases hk : k = a
    · subst hk
      simp
    · by_cases hi : a + 1 ≤ k ∧ k < a + 1 + bs.length
      · have : k - a = (k - (a + 1)) + 1 := by omega
        rw [if_pos hi, if_neg hk, if_pos (by simp only [List.length_cons]; omega), this]
        simp
      · rw [if_neg hi, if_neg hk, if_neg (by simp only [List.length_cons]; omega)]

/-! ### What a reset leaves -/

theorem storeWf_scrambleErase (d : Nat) : ∀ (n : Nat) (m : List Host.Cell) (a : Nat), storeWf m = true →
    storeWf (scrambleErase d m a n) = true := by
  intro n
  induction n with
  | zero => intro m a h; exact h
  | succ n ih => intro m a h; exact ih _ _ (storeWf_storePut _ _ _ h)

theorem storeWf_scrambleProgram (d : Nat) (bs : List Byte) : ∀ (m : List Host.Cell) (a : Nat), storeWf m = true →
    storeWf (scrambleProgram d m a bs) = true := by
  induction bs with
  | nil => intro m a h; exact h
  | cons b bs ih =>
    intro m a h
    refine ih _ _ ?_
    split_ifs
    · exact storeWf_storePut _ _ _ h
    · exact h

/-- The store contents that a reset leaves are in the canonical form. -/
theorem storeWf_contentsAfterReset (s : State) (h : storeWf s.store.contents = true) :
    storeWf (contentsAfterReset s) = true := by
  unfold contentsAfterReset
  split
  · exact storeWf_scrambleErase _ _ _ _ h
  · exact storeWf_scrambleProgram _ _ _ _ h
  all_goals exact h

/-- The store contents of the part after power-on reset are in the canonical form. -/
theorem storeWf_reset : storeWf State.reset.store.contents = true := rfl

end Sys2Proof.Machine
end

