-- ==== Sys2Proof/Laws/Jobs.lean ====
section
/-! SUPPORT. The store's jobs and the return of a feed page: what the operations over them leave untouched, and what the
store's choice of a job may change. -/

namespace Sys2Proof.Machine

/-! ### updateJob -/

@[simp] theorem updateJob_regs (r : RecId) (f : Job → Job) (s : State) : (updateJob r f s).regs = s.regs := by
  rfl
@[simp] theorem updateJob_reader (r : RecId) (f : Job → Job) (s : State) : (updateJob r f s).reader = s.reader := by
  rfl
@[simp] theorem updateJob_lanes (r : RecId) (f : Job → Job) (s : State) : (updateJob r f s).lanes = s.lanes := by
  rfl
@[simp] theorem updateJob_maps (r : RecId) (f : Job → Job) (s : State) : (updateJob r f s).maps = s.maps := by
  rfl
@[simp] theorem updateJob_frames (r : RecId) (f : Job → Job) (s : State) : (updateJob r f s).frames = s.frames := by
  rfl
@[simp] theorem updateJob_link (r : RecId) (f : Job → Job) (s : State) : (updateJob r f s).link = s.link := by
  rfl
@[simp] theorem updateJob_cursor (r : RecId) (f : Job → Job) (s : State) : (updateJob r f s).cursor = s.cursor := by
  rfl
@[simp] theorem updateJob_text (r : RecId) (f : Job → Job) (s : State) : (updateJob r f s).text = s.text := by
  rfl
@[simp] theorem updateJob_carousels (r : RecId) (f : Job → Job) (s : State) : (updateJob r f s).carousels = s.carousels := by
  rfl
@[simp] theorem updateJob_alerts (r : RecId) (f : Job → Job) (s : State) : (updateJob r f s).alerts = s.alerts := by
  rfl
@[simp] theorem updateJob_posted (r : RecId) (f : Job → Job) (s : State) : (updateJob r f s).posted = s.posted := by
  rfl
@[simp] theorem updateJob_ran (r : RecId) (f : Job → Job) (s : State) : (updateJob r f s).ran = s.ran := by
  rfl
@[simp] theorem updateJob_draws (r : RecId) (f : Job → Job) (s : State) : (updateJob r f s).draws = s.draws := by
  rfl
@[simp] theorem updateJob_pending (r : RecId) (f : Job → Job) (s : State) : (updateJob r f s).pending = s.pending := by
  rfl
@[simp] theorem updateJob_lane (r : RecId) (f : Job → Job) (s : State) (k : LaneId) : (updateJob r f s).lane k = s.lane k := by
  simp [State.lane]

/-! ### setRunning -/

@[simp] theorem setRunning_regs (x : Option Running) (s : State) : (setRunning x s).regs = s.regs := by
  rfl
@[simp] theorem setRunning_reader (x : Option Running) (s : State) : (setRunning x s).reader = s.reader := by
  rfl
@[simp] theorem setRunning_lanes (x : Option Running) (s : State) : (setRunning x s).lanes = s.lanes := by
  rfl
@[simp] theorem setRunning_maps (x : Option Running) (s : State) : (setRunning x s).maps = s.maps := by
  rfl
@[simp] theorem setRunning_frames (x : Option Running) (s : State) : (setRunning x s).frames = s.frames := by
  rfl
@[simp] theorem setRunning_link (x : Option Running) (s : State) : (setRunning x s).link = s.link := by
  rfl
@[simp] theorem setRunning_cursor (x : Option Running) (s : State) : (setRunning x s).cursor = s.cursor := by
  rfl
@[simp] theorem setRunning_text (x : Option Running) (s : State) : (setRunning x s).text = s.text := by
  rfl
@[simp] theorem setRunning_carousels (x : Option Running) (s : State) : (setRunning x s).carousels = s.carousels := by
  rfl
@[simp] theorem setRunning_alerts (x : Option Running) (s : State) : (setRunning x s).alerts = s.alerts := by
  rfl
@[simp] theorem setRunning_posted (x : Option Running) (s : State) : (setRunning x s).posted = s.posted := by
  rfl
@[simp] theorem setRunning_ran (x : Option Running) (s : State) : (setRunning x s).ran = s.ran := by
  rfl
@[simp] theorem setRunning_draws (x : Option Running) (s : State) : (setRunning x s).draws = s.draws := by
  rfl
@[simp] theorem setRunning_pending (x : Option Running) (s : State) : (setRunning x s).pending = s.pending := by
  rfl
@[simp] theorem setRunning_lane (x : Option Running) (s : State) (k : LaneId) : (setRunning x s).lane k = s.lane k := by
  simp [State.lane]

/-! ### startJob -/

@[simp] theorem startJob_regs (r : RecId) (op : Operation) (s : State) : (startJob r op s).regs = s.regs := by
  rfl
@[simp] theorem startJob_reader (r : RecId) (op : Operation) (s : State) : (startJob r op s).reader = s.reader := by
  rfl
@[simp] theorem startJob_lanes (r : RecId) (op : Operation) (s : State) : (startJob r op s).lanes = s.lanes := by
  rfl
@[simp] theorem startJob_maps (r : RecId) (op : Operation) (s : State) : (startJob r op s).maps = s.maps := by
  rfl
@[simp] theorem startJob_frames (r : RecId) (op : Operation) (s : State) : (startJob r op s).frames = s.frames := by
  rfl
@[simp] theorem startJob_link (r : RecId) (op : Operation) (s : State) : (startJob r op s).link = s.link := by
  rfl
@[simp] theorem startJob_cursor (r : RecId) (op : Operation) (s : State) : (startJob r op s).cursor = s.cursor := by
  rfl
@[simp] theorem startJob_text (r : RecId) (op : Operation) (s : State) : (startJob r op s).text = s.text := by
  rfl
@[simp] theorem startJob_carousels (r : RecId) (op : Operation) (s : State) : (startJob r op s).carousels = s.carousels := by
  rfl
@[simp] theorem startJob_alerts (r : RecId) (op : Operation) (s : State) : (startJob r op s).alerts = s.alerts := by
  rfl
@[simp] theorem startJob_posted (r : RecId) (op : Operation) (s : State) : (startJob r op s).posted = s.posted := by
  rfl
@[simp] theorem startJob_ran (r : RecId) (op : Operation) (s : State) : (startJob r op s).ran = s.ran := by
  rfl
@[simp] theorem startJob_draws (r : RecId) (op : Operation) (s : State) : (startJob r op s).draws = s.draws := by
  rfl
@[simp] theorem startJob_pending (r : RecId) (op : Operation) (s : State) : (startJob r op s).pending = s.pending := by
  rfl
@[simp] theorem startJob_lane (r : RecId) (op : Operation) (s : State) (k : LaneId) : (startJob r op s).lane k = s.lane k := by
  simp [State.lane]

/-! ### enterJob -/

@[simp] theorem enterJob_regs (j : Job) (s : State) : (enterJob j s).regs = s.regs := by
  rfl
@[simp] theorem enterJob_reader (j : Job) (s : State) : (enterJob j s).reader = s.reader := by
  rfl
@[simp] theorem enterJob_lanes (j : Job) (s : State) : (enterJob j s).lanes = s.lanes := by
  rfl
@[simp] theorem enterJob_maps (j : Job) (s : State) : (enterJob j s).maps = s.maps := by
  rfl
@[simp] theorem enterJob_frames (j : Job) (s : State) : (enterJob j s).frames = s.frames := by
  rfl
@[simp] theorem enterJob_link (j : Job) (s : State) : (enterJob j s).link = s.link := by
  rfl
@[simp] theorem enterJob_cursor (j : Job) (s : State) : (enterJob j s).cursor = s.cursor := by
  rfl
@[simp] theorem enterJob_text (j : Job) (s : State) : (enterJob j s).text = s.text := by
  rfl
@[simp] theorem enterJob_carousels (j : Job) (s : State) : (enterJob j s).carousels = s.carousels := by
  rfl
@[simp] theorem enterJob_alerts (j : Job) (s : State) : (enterJob j s).alerts = s.alerts := by
  rfl
@[simp] theorem enterJob_posted (j : Job) (s : State) : (enterJob j s).posted = s.posted := by
  rfl
@[simp] theorem enterJob_ran (j : Job) (s : State) : (enterJob j s).ran = s.ran := by
  rfl
@[simp] theorem enterJob_draws (j : Job) (s : State) : (enterJob j s).draws = s.draws := by
  rfl
@[simp] theorem enterJob_pending (j : Job) (s : State) : (enterJob j s).pending = s.pending := by
  rfl
@[simp] theorem enterJob_lane (j : Job) (s : State) (k : LaneId) : (enterJob j s).lane k = s.lane k := by
  simp [State.lane]

/-! ### updateRecovery -/

@[simp] theorem updateRecovery_regs (i : SlotId) (b : List Nat) (s : State) : (updateRecovery i b s).regs = s.regs := by
  rfl
@[simp] theorem updateRecovery_reader (i : SlotId) (b : List Nat) (s : State) : (updateRecovery i b s).reader = s.reader := by
  rfl
@[simp] theorem updateRecovery_lanes (i : SlotId) (b : List Nat) (s : State) : (updateRecovery i b s).lanes = s.lanes := by
  rfl
@[simp] theorem updateRecovery_maps (i : SlotId) (b : List Nat) (s : State) : (updateRecovery i b s).maps = s.maps := by
  rfl
@[simp] theorem updateRecovery_frames (i : SlotId) (b : List Nat) (s : State) : (updateRecovery i b s).frames = s.frames := by
  rfl
@[simp] theorem updateRecovery_link (i : SlotId) (b : List Nat) (s : State) : (updateRecovery i b s).link = s.link := by
  rfl
@[simp] theorem updateRecovery_cursor (i : SlotId) (b : List Nat) (s : State) : (updateRecovery i b s).cursor = s.cursor := by
  rfl
@[simp] theorem updateRecovery_text (i : SlotId) (b : List Nat) (s : State) : (updateRecovery i b s).text = s.text := by
  rfl
@[simp] theorem updateRecovery_carousels (i : SlotId) (b : List Nat) (s : State) : (updateRecovery i b s).carousels = s.carousels := by
  rfl
@[simp] theorem updateRecovery_alerts (i : SlotId) (b : List Nat) (s : State) : (updateRecovery i b s).alerts = s.alerts := by
  rfl
@[simp] theorem updateRecovery_posted (i : SlotId) (b : List Nat) (s : State) : (updateRecovery i b s).posted = s.posted := by
  rfl
@[simp] theorem updateRecovery_ran (i : SlotId) (b : List Nat) (s : State) : (updateRecovery i b s).ran = s.ran := by
  rfl
@[simp] theorem updateRecovery_draws (i : SlotId) (b : List Nat) (s : State) : (updateRecovery i b s).draws = s.draws := by
  rfl
@[simp] theorem updateRecovery_pending (i : SlotId) (b : List Nat) (s : State) : (updateRecovery i b s).pending = s.pending := by
  rfl
@[simp] theorem updateRecovery_lane (i : SlotId) (b : List Nat) (s : State) (k : LaneId) : (updateRecovery i b s).lane k = s.lane k := by
  simp [State.lane]

/-! ### startRecovery -/

@[simp] theorem startRecovery_regs (e : Recovery) (s : State) : (startRecovery e s).regs = s.regs := by
  unfold startRecovery; split <;> simp
@[simp] theorem startRecovery_reader (e : Recovery) (s : State) : (startRecovery e s).reader = s.reader := by
  unfold startRecovery; split <;> simp
@[simp] theorem startRecovery_lanes (e : Recovery) (s : State) : (startRecovery e s).lanes = s.lanes := by
  unfold startRecovery; split <;> simp
@[simp] theorem startRecovery_maps (e : Recovery) (s : State) : (startRecovery e s).maps = s.maps := by
  unfold startRecovery; split <;> simp
@[simp] theorem startRecovery_frames (e : Recovery) (s : State) : (startRecovery e s).frames = s.frames := by
  unfold startRecovery; split <;> simp
@[simp] theorem startRecovery_link (e : Recovery) (s : State) : (startRecovery e s).link = s.link := by
  unfold startRecovery; split <;> simp
@[simp] theorem startRecovery_cursor (e : Recovery) (s : State) : (startRecovery e s).cursor = s.cursor := by
  unfold startRecovery; split <;> simp
@[simp] theorem startRecovery_text (e : Recovery) (s : State) : (startRecovery e s).text = s.text := by
  unfold startRecovery; split <;> simp
@[simp] theorem startRecovery_carousels (e : Recovery) (s : State) : (startRecovery e s).carousels = s.carousels := by
  unfold startRecovery; split <;> simp
@[simp] theorem startRecovery_alerts (e : Recovery) (s : State) : (startRecovery e s).alerts = s.alerts := by
  unfold startRecovery; split <;> simp
@[simp] theorem startRecovery_posted (e : Recovery) (s : State) : (startRecovery e s).posted = s.posted := by
  unfold startRecovery; split <;> simp
@[simp] theorem startRecovery_ran (e : Recovery) (s : State) : (startRecovery e s).ran = s.ran := by
  unfold startRecovery; split <;> simp
@[simp] theorem startRecovery_draws (e : Recovery) (s : State) : (startRecovery e s).draws = s.draws := by
  unfold startRecovery; split <;> simp
@[simp] theorem startRecovery_pending (e : Recovery) (s : State) : (startRecovery e s).pending = s.pending := by
  unfold startRecovery; split <;> simp
@[simp] theorem startRecovery_lane (e : Recovery) (s : State) (k : LaneId) : (startRecovery e s).lane k = s.lane k := by
  simp [State.lane]

/-! ### finishWrite -/

@[simp] theorem finishWrite_lanes (j : Job) (s : State) : (finishWrite j s).lanes = s.lanes := by
  unfold finishWrite; split_ifs <;> simp
@[simp] theorem finishWrite_maps (j : Job) (s : State) : (finishWrite j s).maps = s.maps := by
  unfold finishWrite; split_ifs <;> simp
@[simp] theorem finishWrite_frames (j : Job) (s : State) : (finishWrite j s).frames = s.frames := by
  unfold finishWrite; split_ifs <;> simp
@[simp] theorem finishWrite_link (j : Job) (s : State) : (finishWrite j s).link = s.link := by
  unfold finishWrite; split_ifs <;> simp
@[simp] theorem finishWrite_cursor (j : Job) (s : State) : (finishWrite j s).cursor = s.cursor := by
  unfold finishWrite; split_ifs <;> simp
@[simp] theorem finishWrite_text (j : Job) (s : State) : (finishWrite j s).text = s.text := by
  unfold finishWrite; split_ifs <;> simp
@[simp] theorem finishWrite_carousels (j : Job) (s : State) : (finishWrite j s).carousels = s.carousels := by
  unfold finishWrite; split_ifs <;> simp
@[simp] theorem finishWrite_alerts (j : Job) (s : State) : (finishWrite j s).alerts = s.alerts := by
  unfold finishWrite; split_ifs <;> simp
@[simp] theorem finishWrite_ran (j : Job) (s : State) : (finishWrite j s).ran = s.ran := by
  unfold finishWrite; split_ifs <;> simp
@[simp] theorem finishWrite_draws (j : Job) (s : State) : (finishWrite j s).draws = s.draws := by
  unfold finishWrite; split_ifs <;> simp
@[simp] theorem finishWrite_pending (j : Job) (s : State) : (finishWrite j s).pending = s.pending := by
  unfold finishWrite; split_ifs <;> simp
@[simp] theorem finishWrite_lane (j : Job) (s : State) (k : LaneId) : (finishWrite j s).lane k = s.lane k := by
  simp [State.lane]

/-! ### endErases -/

@[simp] theorem endErases_regs (j : Job) (s : State) : (endErases j s).regs = s.regs := by
  rfl
@[simp] theorem endErases_reader (j : Job) (s : State) : (endErases j s).reader = s.reader := by
  rfl
@[simp] theorem endErases_lanes (j : Job) (s : State) : (endErases j s).lanes = s.lanes := by
  rfl
@[simp] theorem endErases_maps (j : Job) (s : State) : (endErases j s).maps = s.maps := by
  rfl
@[simp] theorem endErases_frames (j : Job) (s : State) : (endErases j s).frames = s.frames := by
  rfl
@[simp] theorem endErases_link (j : Job) (s : State) : (endErases j s).link = s.link := by
  rfl
@[simp] theorem endErases_cursor (j : Job) (s : State) : (endErases j s).cursor = s.cursor := by
  rfl
@[simp] theorem endErases_text (j : Job) (s : State) : (endErases j s).text = s.text := by
  rfl
@[simp] theorem endErases_carousels (j : Job) (s : State) : (endErases j s).carousels = s.carousels := by
  rfl
@[simp] theorem endErases_alerts (j : Job) (s : State) : (endErases j s).alerts = s.alerts := by
  rfl
@[simp] theorem endErases_posted (j : Job) (s : State) : (endErases j s).posted = s.posted := by
  rfl
@[simp] theorem endErases_ran (j : Job) (s : State) : (endErases j s).ran = s.ran := by
  rfl
@[simp] theorem endErases_draws (j : Job) (s : State) : (endErases j s).draws = s.draws := by
  rfl
@[simp] theorem endErases_pending (j : Job) (s : State) : (endErases j s).pending = s.pending := by
  rfl
@[simp] theorem endErases_lane (j : Job) (s : State) (k : LaneId) : (endErases j s).lane k = s.lane k := by
  simp [State.lane]

/-! ### choose -/

/-- What the store keeps when it chooses: everything but the job entries, the operation in progress and the directory
writes begun. -/
def storeKept (s t : State) : Prop :=
  t.store = { s.store with jobs := t.store.jobs, running := t.store.running, dirWrites := t.store.dirWrites }

theorem storeKept_refl (s : State) : storeKept s s := rfl

theorem storeKept_trans {s t u : State} (h : storeKept s t) (k : storeKept t u) : storeKept s u := by
  unfold storeKept at *
  rw [h] at k
  exact k

theorem storeKept_of_onlyJobs {s t : State} (h : onlyJobs s t) : storeKept s t := by
  unfold storeKept
  unfold onlyJobs at h
  rw [h]

theorem finishWrite_storeKept (j : Job) (s : State) : storeKept s (finishWrite j s) := by
  unfold finishWrite
  split_ifs <;> exact storeKept_of_onlyJobs (complete_onlyJobs _ _ _ _ _)

/-- The parts that the store's choice may change: its own, and what a completion changes. -/
theorem storeChoose_spec (n : Nat) : ∀ s : State,
    changesOnly [.store, .regs, .reader, .posted] s (storeChoose n s) ∧ storeKept s (storeChoose n s) := by
  induction n with
  | zero => intro s; exact ⟨changesOnly_refl _ s, rfl⟩
  | succ n ih =>
    intro s
    unfold storeChoose
    split
    · exact ⟨changesOnly_refl _ s, rfl⟩
    · split
      · refine ⟨fun p hp => ?_, ?_⟩
        · cases p <;> first | exact absurd hp (by decide) | simp [Part.same]
        · unfold startRecovery; split <;> rfl
      · split
        · exact ⟨changesOnly_refl _ s, rfl⟩
        · split
          · exact ⟨fun p hp => by cases p <;> first | exact absurd hp (by decide) | rfl, rfl⟩
          · exact ⟨fun p hp => by cases p <;> first | exact absurd hp (by decide) | rfl, rfl⟩
          · exact ⟨fun p hp => by cases p <;> first | exact absurd hp (by decide) | rfl, rfl⟩
          · refine ⟨changesOnly_trans (fun p hp => ?_) (ih _).1, storeKept_trans (finishWrite_storeKept _ _) (ih _).2⟩
            cases p <;> first | exact absurd hp (by decide) | simp [Part.same]
          · refine ⟨changesOnly_trans (fun p hp => ?_) (ih _).1, storeKept_trans rfl (ih _).2⟩
            cases p <;> first | exact absurd hp (by decide) | rfl

theorem choose_spec (s : State) : changesOnly [.store, .regs, .reader, .posted] s (choose s) ∧ storeKept s (choose s) :=
  storeChoose_spec _ s

@[simp] theorem choose_contents (s : State) : (choose s).store.contents = s.store.contents := by
  have h := (choose_spec s).2
  unfold storeKept at h
  rw [h]

@[simp] theorem choose_slot (s : State) (i : SlotId) : (choose s).slot i = s.slot i := by
  have h := (choose_spec s).2
  unfold storeKept at h
  unfold State.slot
  rw [h]

@[simp] theorem choose_lanes (s : State) : (choose s).lanes = s.lanes := (choose_spec s).1 .lanes (by decide)
@[simp] theorem choose_maps (s : State) : (choose s).maps = s.maps := (choose_spec s).1 .maps (by decide)
@[simp] theorem choose_frames (s : State) : (choose s).frames = s.frames := (choose_spec s).1 .frames (by decide)
@[simp] theorem choose_link (s : State) : (choose s).link = s.link := (choose_spec s).1 .link (by decide)
@[simp] theorem choose_cursor (s : State) : (choose s).cursor = s.cursor := (choose_spec s).1 .cursor (by decide)
@[simp] theorem choose_text (s : State) : (choose s).text = s.text := (choose_spec s).1 .text (by decide)
@[simp] theorem choose_carousels (s : State) : (choose s).carousels = s.carousels := (choose_spec s).1 .carousels (by decide)
@[simp] theorem choose_alerts (s : State) : (choose s).alerts = s.alerts := (choose_spec s).1 .alerts (by decide)
@[simp] theorem choose_ran (s : State) : (choose s).ran = s.ran := (choose_spec s).1 .ran (by decide)
@[simp] theorem choose_draws (s : State) : (choose s).draws = s.draws := (choose_spec s).1 .draws (by decide)
@[simp] theorem choose_pending (s : State) : (choose s).pending = s.pending := (choose_spec s).1 .pending (by decide)
@[simp] theorem choose_lane (s : State) (l : LaneId) : (choose s).lane l = s.lane l := by simp [State.lane]

/-! ### postReturn -/

@[simp] theorem postReturn_regs (l : LaneId) (held : Letter) (taken : Nat) (c : Return) (s : State) : (postReturn l held taken c s).regs = s.regs := by
  rfl
@[simp] theorem postReturn_reader (l : LaneId) (held : Letter) (taken : Nat) (c : Return) (s : State) : (postReturn l held taken c s).reader = s.reader := by
  rfl
@[simp] theorem postReturn_lanes (l : LaneId) (held : Letter) (taken : Nat) (c : Return) (s : State) : (postReturn l held taken c s).lanes = s.lanes := by
  rfl
@[simp] theorem postReturn_maps (l : LaneId) (held : Letter) (taken : Nat) (c : Return) (s : State) : (postReturn l held taken c s).maps = s.maps := by
  rfl
@[simp] theorem postReturn_frames (l : LaneId) (held : Letter) (taken : Nat) (c : Return) (s : State) : (postReturn l held taken c s).frames = s.frames := by
  rfl
@[simp] theorem postReturn_link (l : LaneId) (held : Letter) (taken : Nat) (c : Return) (s : State) : (postReturn l held taken c s).link = s.link := by
  rfl
@[simp] theorem postReturn_cursor (l : LaneId) (held : Letter) (taken : Nat) (c : Return) (s : State) : (postReturn l held taken c s).cursor = s.cursor := by
  rfl
@[simp] theorem postReturn_text (l : LaneId) (held : Letter) (taken : Nat) (c : Return) (s : State) : (postReturn l held taken c s).text = s.text := by
  rfl
@[simp] theorem postReturn_carousels (l : LaneId) (held : Letter) (taken : Nat) (c : Return) (s : State) : (postReturn l held taken c s).carousels = s.carousels := by
  rfl
@[simp] theorem postReturn_store (l : LaneId) (held : Letter) (taken : Nat) (c : Return) (s : State) : (postReturn l held taken c s).store = s.store := by
  rfl
@[simp] theorem postReturn_alerts (l : LaneId) (held : Letter) (taken : Nat) (c : Return) (s : State) : (postReturn l held taken c s).alerts = s.alerts := by
  rfl
@[simp] theorem postReturn_ran (l : LaneId) (held : Letter) (taken : Nat) (c : Return) (s : State) : (postReturn l held taken c s).ran = s.ran := by
  rfl
@[simp] theorem postReturn_draws (l : LaneId) (held : Letter) (taken : Nat) (c : Return) (s : State) : (postReturn l held taken c s).draws = s.draws := by
  rfl
@[simp] theorem postReturn_pending (l : LaneId) (held : Letter) (taken : Nat) (c : Return) (s : State) : (postReturn l held taken c s).pending = s.pending := by
  rfl
@[simp] theorem postReturn_lane (l : LaneId) (held : Letter) (taken : Nat) (c : Return) (s : State) (k : LaneId) : (postReturn l held taken c s).lane k = s.lane k := by
  simp [State.lane]

/-! ### returnPage -/

/-- What the return of a held page does (R28): the two writes, the feed state of a lane that holds none, and FEED when the
tab had NOTIFY set. -/
theorem returnPage_held (l : LaneId) (c : Return) (s : State) (p : Letter) (h : (s.lane l).feed.held = some p) :
    (returnPage l c s).lane l = { s.lane l with feed := feedReturned c p (s.lane l).feed } ∧
    otherLanesKept l s (returnPage l c s) ∧
    (returnPage l c s).regs = (if (s.lane l).feed.notify then withCause .feed s.regs else s.regs) ∧
    changesOnly [.lanes, .regs, .posted] s (returnPage l c s) := by
  have step : ∀ t : State, t = (postReturn l p (s.lane l).feed.taken c s).setFeed l (feedReturned c p (s.lane l).feed) →
      t.lane l = { s.lane l with feed := feedReturned c p (s.lane l).feed } ∧ otherLanesKept l s t ∧ t.regs = s.regs ∧
        changesOnly [.lanes, .regs, .posted] s t := by
    rintro t rfl
    refine ⟨by simp [State.setFeed], fun k hk => by simp [State.setFeed, State.lane_setLane_other _ _ _ _ hk], rfl, ?_⟩
    intro q hq
    cases q <;> first | exact absurd hq (by decide) | rfl
  have e : returnPage l c s =
      if (s.lane l).feed.notify then
        raiseNotice .feed ((postReturn l p (s.lane l).feed.taken c s).setFeed l (feedReturned c p (s.lane l).feed))
      else (postReturn l p (s.lane l).feed.taken c s).setFeed l (feedReturned c p (s.lane l).feed) := by
    simp only [returnPage, h]
  rw [e]
  obtain ⟨a, b, d, f⟩ := step _ rfl
  split_ifs
  · refine ⟨by simp [a], fun k hk => by simp [b k hk], by rw [(raiseNotice_spec _ _).1, d], ?_⟩
    intro q hq
    have := f q hq
    cases q <;> first | exact absurd hq (by decide) | simpa [Part.same] using this
  · exact ⟨a, b, d, f⟩

/-- A lane that holds no page is left as it is. -/
theorem returnPage_none (l : LaneId) (c : Return) (s : State) (h : (s.lane l).feed.held = none) : returnPage l c s = s := by
  simp only [returnPage, h]

/-- A return never changes more than lane records, notices and posted writes. -/
theorem returnPage_changesOnly (l : LaneId) (c : Return) (s : State) :
    changesOnly [.lanes, .regs, .posted] s (returnPage l c s) := by
  cases h : (s.lane l).feed.held with
  | none => rw [returnPage_none l c s h]; exact changesOnly_refl _ s
  | some p => exact (returnPage_held l c s p h).2.2.2

@[simp] theorem returnPage_reader (l : LaneId) (c : Return) (s : State) : (returnPage l c s).reader = s.reader :=
  returnPage_changesOnly l c s .reader (by decide)
@[simp] theorem returnPage_maps (l : LaneId) (c : Return) (s : State) : (returnPage l c s).maps = s.maps :=
  returnPage_changesOnly l c s .maps (by decide)
@[simp] theorem returnPage_frames (l : LaneId) (c : Return) (s : State) : (returnPage l c s).frames = s.frames :=
  returnPage_changesOnly l c s .frames (by decide)
@[simp] theorem returnPage_link (l : LaneId) (c : Return) (s : State) : (returnPage l c s).link = s.link :=
  returnPage_changesOnly l c s .link (by decide)
@[simp] theorem returnPage_cursor (l : LaneId) (c : Return) (s : State) : (returnPage l c s).cursor = s.cursor :=
  returnPage_changesOnly l c s .cursor (by decide)
@[simp] theorem returnPage_text (l : LaneId) (c : Return) (s : State) : (returnPage l c s).text = s.text :=
  returnPage_changesOnly l c s .text (by decide)
@[simp] theorem returnPage_carousels (l : LaneId) (c : Return) (s : State) : (returnPage l c s).carousels = s.carousels :=
  returnPage_changesOnly l c s .carousels (by decide)
@[simp] theorem returnPage_store (l : LaneId) (c : Return) (s : State) : (returnPage l c s).store = s.store :=
  returnPage_changesOnly l c s .store (by decide)
@[simp] theorem returnPage_alerts (l : LaneId) (c : Return) (s : State) : (returnPage l c s).alerts = s.alerts :=
  returnPage_changesOnly l c s .alerts (by decide)
@[simp] theorem returnPage_ran (l : LaneId) (c : Return) (s : State) : (returnPage l c s).ran = s.ran :=
  returnPage_changesOnly l c s .ran (by decide)
@[simp] theorem returnPage_draws (l : LaneId) (c : Return) (s : State) : (returnPage l c s).draws = s.draws :=
  returnPage_changesOnly l c s .draws (by decide)
@[simp] theorem returnPage_pending (l : LaneId) (c : Return) (s : State) : (returnPage l c s).pending = s.pending :=
  returnPage_changesOnly l c s .pending (by decide)

end Sys2Proof.Machine
end

