-- ==== Sys2Proof/Laws/Users.lean ====
section
/-! SUPPORT. What the shared operations of the store and of the alerts can do, in the terms of the statements: user counts and
the fall of a CONDEMNED slot's count to 0, the store's choice, and the command that decides a raise. -/

namespace Sys2Proof.Machine

/-! ### dropStraggler -/

@[simp] theorem dropStraggler_regs (l : LaneId) (s : State) : (dropStraggler l s).regs = s.regs := rfl
@[simp] theorem dropStraggler_reader (l : LaneId) (s : State) : (dropStraggler l s).reader = s.reader := rfl
@[simp] theorem dropStraggler_lanes (l : LaneId) (s : State) : (dropStraggler l s).lanes = s.lanes := rfl
@[simp] theorem dropStraggler_maps (l : LaneId) (s : State) : (dropStraggler l s).maps = s.maps := rfl
@[simp] theorem dropStraggler_link (l : LaneId) (s : State) : (dropStraggler l s).link = s.link := rfl
@[simp] theorem dropStraggler_cursor (l : LaneId) (s : State) : (dropStraggler l s).cursor = s.cursor := rfl
@[simp] theorem dropStraggler_text (l : LaneId) (s : State) : (dropStraggler l s).text = s.text := rfl
@[simp] theorem dropStraggler_carousels (l : LaneId) (s : State) : (dropStraggler l s).carousels = s.carousels := rfl
@[simp] theorem dropStraggler_store (l : LaneId) (s : State) : (dropStraggler l s).store = s.store := rfl
@[simp] theorem dropStraggler_alerts (l : LaneId) (s : State) : (dropStraggler l s).alerts = s.alerts := rfl
@[simp] theorem dropStraggler_posted (l : LaneId) (s : State) : (dropStraggler l s).posted = s.posted := rfl
@[simp] theorem dropStraggler_ran (l : LaneId) (s : State) : (dropStraggler l s).ran = s.ran := rfl
@[simp] theorem dropStraggler_draws (l : LaneId) (s : State) : (dropStraggler l s).draws = s.draws := rfl
@[simp] theorem dropStraggler_pending (l : LaneId) (s : State) : (dropStraggler l s).pending = s.pending := rfl
@[simp] theorem dropStraggler_frames (l : LaneId) (s : State) : (dropStraggler l s).frames =
    { s.frames with stragglers := s.frames.stragglers.filter fun g => g.lane ≠ l } := rfl
@[simp] theorem dropStraggler_lane (l k : LaneId) (s : State) : (dropStraggler l s).lane k = s.lane k := rfl
@[simp] theorem dropStraggler_slot (l : LaneId) (i : SlotId) (s : State) : (dropStraggler l s).slot i = s.slot i := rfl
@[simp] theorem dropStraggler_work (l : LaneId) (r : RecId) (s : State) : (dropStraggler l s).work r = s.work r := rfl

/-! ### User counts (R108) -/

/-- A user count set is the one slot's, and no other field of any slot changes. -/
theorem setUsers_slot (i k : SlotId) (n : Nat) (s : State) :
    (setUsers i n s).slot k = if k = i then { s.slot i with users := n } else s.slot k := by
  unfold setUsers
  dsimp only
  split_ifs <;> simp_all [State.slot, State.setSlot, beginDirWrite]
  all_goals exact Vector.getElem_set_ne _ _ (fun e => ‹¬ k = i› (Fin.ext e.symm))

/-- After the references have gone and come, each slot of the list given has its count moved by them once. -/
theorem retallySlots_users (old new : List SlotId) : ∀ (is : List SlotId), is.Nodup → ∀ (s : State) (i : SlotId),
    ((is.foldl (retallySlot old new) s).slot i).users =
      if i ∈ is then (s.slot i).users + new.count i - old.count i else (s.slot i).users
  | [], _, s, i => by simp
  | k :: is, h, s, i => by
    have hk : k ∉ is := (List.nodup_cons.mp h).1
    rw [List.foldl_cons, retallySlots_users old new is (List.nodup_cons.mp h).2]
    have one : ((retallySlot old new s k).slot i).users =
        if i = k then (s.slot k).users + new.count k - old.count k else (s.slot i).users := by
      unfold retallySlot
      split_ifs with e hi hi
      · subst hi; omega
      · rfl
      · rw [setUsers_slot, if_pos hi]
      · rw [setUsers_slot, if_neg hi]
    rw [one]
    by_cases hi : i = k
    · subst hi; simp [hk]
    · simp [hi]

/-- Each slot's count is moved by the references that have come and gone. -/
theorem retally_users (old new : List SlotId) (s : State) (i : SlotId) :
    ((retally old new s).slot i).users = (s.slot i).users + new.count i - old.count i := by
  rw [retally, retallySlots_users _ _ _ (List.nodup_finRange 64)]
  simp

theorem droppingBegun_refl (s : State) : droppingBegun s s :=
  ⟨fun _ => rfl, [], by simp, by simp, fun i _ a b => absurd b (by omega)⟩

/-- Falls of user counts that follow each other are one such fall. -/
theorem droppingBegun_trans {s t u : State} (h : droppingBegun s t) (k : droppingBegun t u)
    (falls : ∀ i, (u.slot i).users ≤ (t.slot i).users) : droppingBegun s u := by
  obtain ⟨hr, xs, hs, hx, hy⟩ := h
  obtain ⟨kr, ys, ks, kx, ky⟩ := k
  refine ⟨fun i => (kr i).trans (hr i), xs ++ ys, ?_, ?_, ?_⟩
  · rw [ks, hs]
    simp only [List.map_append, List.append_assoc, List.map_map, Store.mk.injEq, true_and, and_true]
    refine List.map_congr_left fun j _ => ?_
    simp only [Function.comp_apply, List.mem_append]
    by_cases a : j.slot ∈ xs <;> by_cases b : j.slot ∈ ys <;> by_cases c : j.state = .waiting <;> simp [a, b, c]
  · intro i hi
    rcases List.mem_append.mp hi with hi | hi
    · exact ⟨(hx i hi).1, by have := falls i; have := (hx i hi).2; omega⟩
    · exact ⟨by rw [← hr i]; exact (kx i hi).1, (kx i hi).2⟩
  · intro i hc h0 hu
    rw [List.mem_append]
    by_cases z : (t.slot i).users = 0
    · exact Or.inl (hy i hc h0 z)
    · exact Or.inr (ky i (by rw [hr i]; exact hc) (by omega) hu)

/-- A user count that does not rise is such a fall. -/
theorem setUsers_droppingBegun (i : SlotId) (n : Nat) (s : State) (falls : n ≤ (s.slot i).users) :
    droppingBegun s (setUsers i n s) := by
  have records : ∀ k, ((setUsers i n s).slot k).record = (s.slot k).record := (setUsers_onlyUsers i n s).2
  by_cases c : (s.slot i).record.state = .condemned ∧ n = 0
  · refine ⟨records, [i], ?_, ?_, ?_⟩
    · simp only [setUsers, c, and_self, if_true, beginDirWrite, State.setStore_store, writeDirectoryMirror_store,
        State.setSlot_store, List.map_cons, List.map_nil, List.mem_singleton]
      rfl
    · rintro k hk
      obtain rfl : k = i := by simpa using hk
      exact ⟨c.1, by simp [setUsers_slot, c.2]⟩
    · intro k _ h0 hu
      by_cases e : k = i
      · simp [e]
      · rw [setUsers_slot, if_neg e] at hu; omega
  · refine ⟨records, [], ?_, by simp, ?_⟩
    · simp [setUsers, c]
    · intro k hc h0 hu
      rw [setUsers_slot] at hu
      split_ifs at hu with e
      · subst e; exact absurd ⟨hc, hu⟩ c
      · omega

/-- References that only go are such a fall. -/
theorem retally_droppingBegun (old : List SlotId) (s : State) : droppingBegun s (retally old [] s) := by
  refine foldl_keeps (fun t => droppingBegun s t) _ (fun t i h => ?_) _ s (droppingBegun_refl s)
  unfold retallySlot
  split_ifs
  · exact h
  · have le : (t.slot i).users + ([] : List SlotId).count i - old.count i ≤ (t.slot i).users := by simp
    refine droppingBegun_trans h (setUsers_droppingBegun _ _ _ le) fun k => ?_
    rw [setUsers_slot]
    split_ifs with e
    · subst e; exact le
    · exact Nat.le_refl _

/-! ### The store's choice (R111) -/

theorem choose_storeChose (s : State) : storeChose s (choose s) := by
  refine ⟨?_, ?_, ?_⟩
  · have h := (choose_spec s).2
    unfold storeKept at h
    rw [h]
  · intro h
    obtain ⟨x, hx⟩ := Option.ne_none_iff_exists'.mp h
    simp [choose, storeChoose, hx]
  · intro h
    refine ⟨fun e he => ?_, fun hr hj => ?_, fun j op hr hj hop => ?_⟩
    · simp only [choose, storeChoose, h, he]
      refine ⟨?_, ?_, fun b bs hb => ?_⟩ <;> unfold startRecovery
      · split <;> rfl
      · split <;> rfl
      · rw [hb]; rfl
    · simp [choose, storeChoose, h, hr, hj]
    · simp only [choose, storeChoose, h, hr, hj]
      unfold Job.firstOperation at hop
      split at hop <;> cases hop <;> simp only [*] <;> exact ⟨rfl, rfl, rfl⟩

/-! ### The command that decides a raise (R145) -/

/-- Both commands that decide a raise do it by the one operation. -/
theorem decidesRaise_exec {c : Instr} {s : State} {r : RecId} {rest : List RecId} {w : WorkRecord}
    (h : decidesRaise c s r rest w) : exec c s =
      .next (decideRaise r (raiseOf w) (textAt c (raiseOf w)) (s.setAlerts { s.alerts with queue := rest, checking := none })) := by
  rcases h with ⟨rfl, ⟨hq, hw, hk⟩, hc, ht⟩ | ⟨h, rfl, hc, hw, rfl⟩
  · have reads : (raiseOf w).readsText = false := by
      unfold Raise.readsText
      rcases ht with ht | ht | ht <;> simp [ht]
    simp only [owed] at hq
    simp only [exec, execAlertRaise, alertDispatch, hc, hq, hw, hk, if_true, actAlertRaise, reads, textAt]
    simp
  · simp [exec, execAlertRaiseApply, alertRaiseApply, hc, hw, textAt]

/-! ### Work records (R110, R166) -/

/-- A work record has at most one store job in a state whose work records are sound. -/
theorem RecordsSound.jobs_nodup {s : State} (h : RecordsSound s) : (s.store.jobs.map Job.record).Nodup := by
  refine h.1.sublist ?_
  unfold heldRecords
  exact (((List.sublist_append_right _ _).trans (List.sublist_append_left _ _)).trans (List.sublist_append_left _ _)).trans
    (List.sublist_append_left _ _)

end Sys2Proof.Machine
end

