-- ==== Sys2Proof/WellFormed.lean ====
section
/-! DEFINITION. Which command terms stand for something that can reach the part: the operands that the types leave too
wide. A register write above 0x14 names a 32-bit register offset above 0x14 (R171), a host view lists bytes and errors
at 64-bit host addresses, and a list of begun fetches names each lane once (R34). -/

namespace Sys2Proof

/-- Every address of a host view is a 64-bit host address, and no address is listed twice. -/
def HostView.wf (h : HostView) : Bool :=
  h.cells.all (fun c => decide (c.1 < 2 ^ 64)) && h.errors.all (fun a => decide (a < 2 ^ 64)) &&
    decide ((h.cells.map Prod.fst).Nodup)

/-- The well-formed commands. -/
def Instr.wf : Instr → Bool
  | .registerWriteOther offset _ => decide (0x14 < offset.toNat) && decide (offset.toNat % 4 = 0)
  | .runClear _ begun => decide begun.Nodup
  | .airPull begun => decide begun.Nodup
  | .sweepHandRead h => h.wf
  | .slipVisit h => h.wf
  | .mapTableRead h => h.wf
  | .textPutApply h => h.wf
  | .alertRaiseApply h => h.wf
  | .writeHostRead h => h.wf
  | .laneFetch _ h => h.wf
  | .powerOnReset => true
  | .softReset _ _ => true
  | .runSet _ => true
  | .sweepMsWrite _ => true
  | .anchorLoWrite _ => true
  | .anchorHiWrite _ => true
  | .prompt _ => true
  | .noticeWrite _ => true
  | .noticeEnWrite _ => true
  | .sweepTimerExpiry => true
  | .laneSetup => true
  | .laneRetire => true
  | .laneHalt => true
  | .laneResume => true
  | .mapLoad => true
  | .textPut => true
  | .textDrop => true
  | .textClear => true
  | .carSet => true
  | .carJump => true
  | .picOpen => true
  | .picWrite => true
  | .picSeal => true
  | .picDrop => true
  | .alertRaise => true
  | .alertEnd => true
  | .blockEraseEnd => true
  | .pageProgramEnd => true
  | .sealReadEnd => true
  | .directoryWriteEnd => true
  | .storedDirectoryRead => true
  | .airRstFall => true
  | .airRstRise => true
  | .transmissionEnd => true
  | .pictureDataRead _ => true
  | .assemblyComplete => true

end Sys2Proof
end

