-- ==== Sys2Proof/Tests/Slice0.lean ====
section
/-! SUPPORT. The model's own tests: ill-formed commands refused, values from the worked examples of spec/, and for each
statement with hypotheses a state and operands that meet them (a `witness_` theorem named after the statement). -/

namespace Sys2Proof.Tests

open Sys2Proof.Machine

/-! ### Small states -/

/-- A host view of some bytes at an address. -/
def viewAt (a : Nat) (bs : List Byte) : HostView := ⟨(List.range bs.length).map fun i => (a + i, bs.getD i 0), []⟩

/-- A host view in which a read of an address fails. -/
def errorAt (a : Nat) : HostView := ⟨[], [a]⟩

/-- A work record of slip 5 with NOTIFY set. -/
def slipRec (kind : Byte) (args : List Byte) : WorkRecord :=
  { slip := 5, kind := kind, guard := 0, flags := 1, tag := 7, args := args }

/-- Work record 0 filled. -/
def holding (kind : Byte) (args : List Byte) (s : State) : State := fillRecord 0 (slipRec kind args) s

/-- Work record 0 dispatched to the owner of its kind. -/
def given (o : Owner) (kind : Byte) (args : List Byte) (s : State) : State := dispatchTo o 0 (holding kind args s)

/-- A lane READY with 4096-byte pages. -/
def readyLane : Lane := { Lane.fresh with state := .ready, pageA := 0x10000, pageB := 0x20000, pageSize := 4096, pace := 1 }

/-- Lane 2 READY. -/
def oneLane : State := State.reset.setLane 2 readyLane

/-- A map with lane 2 alone. -/
def smallMap : AirMap := { entries := [⟨2, 4, 100, 2, 9⟩], poolStart := 13, poolSize := 1187 }

/-- Lane 2 READY and aired. -/
def airedLane : State := oneLane.setMaps { oneLane.maps with active := smallMap }

/-- Lane 2 READY with another lane's change applied to it. -/
def laneWith (f : Lane → Lane) : State := State.reset.setLane 2 (f readyLane)

/-- RUN 1 and the interval timer running. -/
def runningRegs (s : State) : State :=
  (s.setRegs { s.regs with run := true, sweepMs := 5 }).setReader { s.reader with timer := some 5 }

/-- A link that is UP between transmissions. -/
def linkUp (s : State) : State := s.setLink { airRstN := true, airData := .idle }

/-- The stored directory read, and slot 1 as given. -/
def withSlot (x : Slot) : State :=
  State.reset.setStore { State.reset.store with loaded := true, slots := State.reset.store.slots.set 1 x }

/-- A slot of one block in bank 0 of the general region. -/
def slotIn (state : SlotState) (users : Nat) : Slot :=
  { record := { state := state, alertFlag := false, extent := some ⟨64, 1, 100⟩, version := 3, crc := none }, users := users }

/-- A store job of work record 0 on slot 1. -/
def jobFor (kind : JobKind) (work : JobWork) : Job :=
  { record := 0, kind := kind, slot := 1, bank := 0, state := .running, work := work, made := 0, cut := 0 }

/-- The store working for the job of work record 0. -/
def working (slot : Slot) (j : Job) (op : Operation) : State :=
  let s := holding 0x21 [] (withSlot slot)
  s.setStore { s.store with jobs := [j], running := some ⟨.job 0, op⟩ }

/-- An alert on air, taking AUDIO and TEXT of lane 2 from source lane 4. -/
def onAirAlert : Alert :=
  { id := 9, level := 1, state := .onAir, take := ⟨true, true, false⟩, targets := [2], source := some 4, width := 3,
    text := some [0x41], picture := none, onAirFrame := some 3, raiseRecord := 1, endRecord := none }

/-- A state with an alert at place 0. -/
def withAlert (a : Alert) (s : State) : State := setPlace 0 (some a) s

/-- A lane of a plan, as captured for lane `l` with 4 reserved cells. -/
def planned (l : LaneId) : PlanLane :=
  { entry := ⟨l, 4, 100, 2, 9⟩, halted := false, audio := .own, text := .own, picture := .own }

/-- A plan of the lanes given. -/
def planOf (ls : List LaneId) : Plan :=
  { counter := 0, generation := 0, next := 0, announce := 0, poolStart := 13, poolSize := 1187, lanes := ls.map planned,
    alerts := [] }

/-- An assembly with a plan of lanes 2 and 3 and a carriage record. -/
def assembling (c : Carriage) (s : State) : State := setAssembler (.assembling (planOf [2, 3]) c) (runningRegs s)

/-- The carriage record of an assembly with lanes still to fetch. -/
def fetchingOf (ls : List LaneId) : Carriage :=
  { stage := .fetching, toFetch := ls, fetched := [], lanes := [], toRead := [], cursorNext := 0 }

/-- Lane 2 holding page A with a byte count, at a cursor. -/
def holdingPage (count cursor : Nat) : State :=
  assembling (fetchingOf [2, 3])
    (laneWith fun x => { x with feed := { x.feed with held := some .a, byteCount := count, cursor := cursor } })

/-- A lane of a carriage record at its side items, with a picture read to make. -/
def carriageLane (l : LaneId) : LaneCarriage :=
  { lane := l, audio := .filler .underrun, grant := 0, credit := 0, saturated := false, fragment := none,
    picture := some ⟨none, 1, 3, 262144, 0, 100⟩, pictureCells := 3, pieces := [], stalled := false }

/-- A carriage record at its side items. -/
def itemsOf (reads : List LaneId) : Carriage :=
  { stage := .items, toFetch := [], fetched := [], lanes := [carriageLane 2], toRead := reads, cursorNext := 2 }

/-- A text message of one byte. -/
def note (id : Half) : Message := { id := id, body := [0x41], repeats := 0, airings := 0, version := 1 }

/-! ### Ill-formed commands are refused by the check -/

theorem test_wf_low_offset : Instr.wf (.registerWriteOther 0x14 0) = false := by decide
theorem test_wf_odd_offset : Instr.wf (.registerWriteOther 0x1A 0) = false := by decide
theorem test_wf_next_offset : Instr.wf (.registerWriteOther 0x18 0) = true := by decide
theorem test_wf_fetch_begun_twice : Instr.wf (.airPull [3, 3]) = false := by decide
theorem test_wf_stop_begun_twice : Instr.wf (.runClear 0 [3, 3]) = false := by decide
theorem test_wf_cell_beyond_host : Instr.wf (.slipVisit ⟨[(2 ^ 64, 0)], []⟩) = false := by decide
theorem test_wf_error_beyond_host : Instr.wf (.laneFetch 0 ⟨[], [2 ^ 64]⟩) = false := by decide
theorem test_wf_cell_twice : Instr.wf (.mapTableRead ⟨[(8, 1), (8, 2)], []⟩) = false := by decide

/-! ### Register words (10.2, 9.6) -/

theorem test_runctl_run : decodeRegisterWrite 0x08 0x0501 = .runSet 5 := by decide
theorem test_runctl_stop : decodeRegisterWrite 0x08 0x0500 = .runClear 5 [] := by decide
theorem test_runctl_reset_wins : decodeRegisterWrite 0x08 0x0503 = .softReset true 5 := by decide
theorem test_prompt_offset : decodeRegisterWrite 0x0C 9 = .prompt 9 := by decide
theorem test_no_word_spells_a_command : decodeTableWord 32 0x0501 = none := by decide
theorem test_runctl_reads_back : readRegister (runningRegs State.reset) 0x08 = 0x0501 := by decide
theorem test_doorbell_reads_zero : readRegister (runningRegs State.reset) 0x0C = 0 := by decide
theorem test_anchor_low_reads_aligned : withAnchorLo 0x1122334455667000 0x89ABCDEF = 0x1122334489ABC000 := by decide
theorem test_anchor_high_reads : withAnchorHi 0x1122334455667000 0x89ABCDEF = 0x89ABCDEF55667000 := by decide

/-! ### Check codes (R179, R180: the values over the nine bytes 0x31-0x39) -/

theorem test_crc16 : crc16 [0x31, 0x32, 0x33, 0x34, 0x35, 0x36, 0x37, 0x38, 0x39] = 0x29B1 := by decide +kernel
theorem test_crc32 : crc32 [0x31, 0x32, 0x33, 0x34, 0x35, 0x36, 0x37, 0x38, 0x39] = 0xCBF43926 := by decide +kernel

/-! ### The worked examples of spec/ -/

/-- The entries of 1.7 with lane 5's share corrected. -/
def exampleEntries : List RawEntry := [⟨2, 200, 128, 20⟩, ⟨0, 250, 512, 40⟩, ⟨1, 255, 256, 40⟩, ⟨5, 0, 100, 0⟩]

theorem test_example_map : formMap (exampleEntries.map clampEntry) =
    { entries := [⟨0, 250, 512, 40, 9⟩, ⟨1, 255, 256, 40, 259⟩, ⟨2, 200, 128, 20, 514⟩, ⟨5, 0, 100, 1, 0⟩],
      poolStart := 714, poolSize := 486 } := by decide

theorem test_example_map_refused :
    sumsOk ([⟨2, 200, 128, 20⟩, ⟨0, 250, 512, 40⟩, ⟨1, 255, 256, 40⟩, ⟨5, 0, 1500, 0⟩].map clampEntry) = false := by decide

/-- The lanes of 4.6 in ascending order. -/
def creditLanes : List PoolLane :=
  [⟨0, false, 30, 512, 40, 0, 0, false⟩, ⟨1, false, 5, 64, 40, 700, 0, false⟩, ⟨2, false, 0, 128, 20, 0, 0, false⟩]

theorem test_credit_limited_grants : sharePool 426 (rotating 1 creditLanes) =
    ([⟨1, false, 5, 64, 40, 22844, 5, false⟩, ⟨2, false, 0, 128, 20, 0, 0, false⟩,
      ⟨0, false, 30, 512, 40, 10240, 30, true⟩], 391) := by decide

theorem test_credit_limited_cursor : nextCursor 1 [0, 1, 2] = 2 := by decide

theorem test_small_pool : sharePool 20 (rotating 2
    [⟨0, false, 30, 512, 40, 10240, 0, false⟩, ⟨1, false, 10, 64, 40, 22844, 0, false⟩, ⟨2, false, 0, 128, 20, 0, 0, false⟩,
     ⟨3, false, 0, 0, 1, 0, 0, false⟩, ⟨4, false, 0, 0, 1, 0, 0, false⟩]) =
    ([⟨2, false, 0, 128, 20, 0, 0, false⟩, ⟨3, false, 0, 0, 1, 0, 0, false⟩, ⟨4, false, 0, 0, 1, 0, 0, false⟩,
      ⟨0, false, 30, 512, 40, 0, 20, false⟩, ⟨1, false, 10, 64, 40, 24124, 0, false⟩], 0) := by decide

theorem test_urgency_and_spill : sharePool 40 (rotating 5
    [⟨4, false, 8, 0, 6, 3000, 0, false⟩, ⟨7, true, 12, 100, 8, 4096, 0, false⟩, ⟨9, false, 20, 300, 2, 1900, 0, false⟩,
     ⟨15, false, 15, 200, 10, 0, 0, false⟩]) =
    ([⟨7, true, 12, 100, 8, 4096, 12, false⟩, ⟨9, false, 20, 300, 2, 0, 8, true⟩, ⟨15, false, 15, 200, 10, 832, 13, false⟩,
      ⟨4, false, 8, 0, 6, 952, 7, false⟩], 0) := by decide

theorem test_cursor_of_a_lane_that_left : nextCursor 5 [4, 7, 9, 15] = 7 := by decide
theorem test_cells_to_finish : cellsToFinish 1000 = 65 := by decide

theorem test_pieces_of_a_grant :
    (fillPieces [] 0 1 7 22 22 1000 0).map (fun q => (q.cells, q.data.length, q.offset, q.first, q.last)) =
      [(16, 248, 0, true, false), (6, 88, 248, false, false)] := by decide +kernel

theorem test_last_piece :
    (fillPieces [] 0 1 7 9 9 100 900).map (fun q => (q.cells, q.data.length, q.offset, q.first, q.last)) =
      [(7, 100, 900, false, true)] := by decide

/-- The text state of 5.7 after frame 102: A at fragment 2 of 3, B behind it. -/
def twelveFrames : TextState :=
  { TextState.fresh with
    queue := [{ id := 0x11, body := List.replicate 30 1, repeats := 1, airings := 0, version := 1 },
              { id := 0x22, body := List.replicate 10 1, repeats := 0, airings := 0, version := 2 }]
    position := 2, toggle := true, pacing := 2, seed := 2 }

theorem test_text_airing_ends :
    (fun u : TextState => (u.queue.map fun m => (m.id, m.airings), u.position, u.toggle, u.pacing))
      (commitText (ownFragment 2 twelveFrames) twelveFrames) = ([(0x22, 0), (0x11, 1)], 0, false, 1) := by decide

theorem test_text_last_fragment_cell :
    (ownFragment 2 twelveFrames).map Fragment.bytes =
      some (0x20 :: 0xC2 :: (List.replicate 2 1 ++ List.replicate 12 0)) := by decide

theorem test_write_across_pages :
    (writeReps 0x1000 0 200 100 3 1000).map (fun p => (p.host, p.dest, p.length)) =
      [(0x1000, 200, 56), (0x1064, 300, 100), (0x10C8, 400, 100), (0x112C, 500, 12)] := by decide

theorem test_write_cut_off : (cutBytes 200 100 3 1000, cutBytes 900 256 0 1000) = (132, 156) := by decide

theorem test_program_clears_bits :
    storeRead (storeProgram (storeProgram [] 200 [0xF0, 0x12, 0x77]) 200 [0x3C, 0xFF, 0x00, 0xA5]) 200 4 =
      [0x30, 0x12, 0x00, 0xA5] := by decide

/-- The owners of 6.6's blocks. -/
def allocated : State :=
  State.reset.setStore { State.reset.store with
    slots := (((State.reset.store.slots.set 3 ⟨⟨.ready, false, some ⟨64, 36, 147456⟩, 1, none⟩, 0⟩).set 9
      ⟨⟨.ready, false, some ⟨120, 380, 1556480⟩, 1, none⟩, 0⟩).set 10
      ⟨⟨.ready, false, some ⟨541, 475, 1945600⟩, 1, none⟩, 0⟩) }

theorem test_run_does_not_cross_banks : findRun allocated false 25 = some 512 := by decide
theorem test_run_of_twenty : findRun allocated false 20 = some 100 := by decide
theorem test_run_with_alert_flag : findRun allocated true 25 = some 0 := by decide

/-- The carousel of 7.7. -/
def busyList : Carousel :=
  { entries := [12, 7, 12, 30, 7], position := ⟨.on, 2⟩, airing := some ⟨12, 7, 3000⟩, jump := some 4, showing := none }

theorem test_condemned_slot_leaves : dropEntries 12 busyList =
    { entries := [7, 30, 7], position := ⟨.next, 1⟩, airing := some ⟨12, 7, 3000⟩, jump := some 2, showing := none } := by
  decide

theorem test_airing_ends_at_its_jump : (endAiring (dropEntries 12 busyList)).position = ⟨.next, 2⟩ := by decide

/-- The restore log of 8.8 with the three alerts raised. -/
def threeAlerts : List LogEntry :=
  [⟨10, 2, .text, .own⟩, ⟨10, 2, .picture, .own⟩, ⟨10, 3, .text, .own⟩, ⟨10, 3, .picture, .own⟩, ⟨20, 3, .audio, .own⟩,
   ⟨20, 3, .text, .alert 10⟩, ⟨20, 4, .audio, .own⟩, ⟨20, 4, .text, .own⟩, ⟨30, 3, .text, .alert 20⟩]

theorem test_buried_end :
    (passUp 20 threeAlerts (State.reset.lanes.set 3 { Lane.fresh with audioFrom := .alert 20, textFrom := .alert 30 })).1 =
      [⟨10, 2, .text, .own⟩, ⟨10, 2, .picture, .own⟩, ⟨10, 3, .text, .own⟩, ⟨10, 3, .picture, .own⟩,
       ⟨30, 3, .text, .alert 10⟩] := by decide

theorem test_buried_end_restores_audio :
    (fun x : Lane => (x.audioFrom, x.textFrom))
      ((passUp 20 threeAlerts (State.reset.lanes.set 3
        { Lane.fresh with audioFrom := .alert 20, textFrom := .alert 30 })).2[3]) = (.own, .alert 30) := by decide

theorem test_sweep_wraps :
    (sweepOrder 120).filter (fun i => i ∈ [(2 : SlipId), 9, 40, 60, 122, 125, 127]) = [122, 125, 127, 2, 9, 40, 60] := by decide

/-- The pull, RUN, pull of 3.10 from a reset with the link UP: counters after each. -/
theorem test_start_counts : (sendVoid (linkUp State.reset)).frames.counter = 1 := by decide
theorem test_unit_cells : (unitCells 520, unitCells 300, unitCells 170, unitCells 250) = (33, 19, 11, 16) := by decide

/-! ### Witnesses -/

/-- Nothing is passed over while every work record is free and the store holds no slip and no job. -/
theorem not_passedOver {s : State} {i : SlipId} {slip : List Byte} (hand : slip.getD 0 0 = 1)
    (free : ∀ r, s.work r = none) (room : s.store.queue.length + s.store.jobs.length < 8) : ¬ passedOver s i slip := by
  rintro (h | ⟨r, v, h, -⟩ | ⟨-, h⟩)
  · exact h hand
  · simp [free r] at h
  · omega

theorem witness_EventsThatCannotOccurChangeNothing_idle : let s := State.reset
    (∀ r rest w k, ¬ laneSlipAt .lane .laneSetup s r rest w k) ∧ (∀ r rest w, ¬ slipAt .store .picOpen s r rest w) ∧
    s.store.loaded = false ∧ s.maps.mapLoads = [] ∧ s.maps.checking = none ∧ s.text.putting = none ∧
    s.alerts.checking = none ∧ s.reader.sweep ≠ .readingHands ∧
    (∀ r i rest last, s.reader.sweep ≠ .visiting r i rest last) ∧ s.reader.timer = none ∧
    (∀ x b, s.store.running ≠ some ⟨x, .erase b⟩) ∧ (∀ r p, s.store.running ≠ some ⟨.job r, .hostRead p⟩) ∧
    (∀ r a d, s.store.running ≠ some ⟨.job r, .program a d⟩) ∧ (∀ r, s.store.running ≠ some ⟨.job r, .sealRead⟩) ∧
    s.store.dirWrites = [] ∧ (∀ g ∈ s.frames.stragglers, g.lane ≠ 2) ∧
    (∀ p c, s.frames.assembler = .assembling p c → c.stage = .fetching → (2 : LaneId) ∉ c.toFetch) ∧
    (∀ p c, s.frames.assembler = .assembling p c → c.stage = .items → c.toRead ≠ []) ∧ s.link.airRstN = false ∧
    (∀ f, s.link.airData ≠ .sending f) := by
  simp [State.reset, laneSlipAt, slipAt, owed]

theorem witness_EventsThatCannotOccurChangeNothing_busy :
    (State.reset.setText { queue := [0], putting := some 1 }).text.putting ≠ none ∧
    (State.reset.setAlerts { State.reset.alerts with checking := some 1 }).alerts.checking ≠ none ∧
    (State.reset.setMaps { State.reset.maps with checking := some 1 }).maps.checking ≠ none := by decide

theorem witness_RegisterWritesActOnTheirFields :
    State.reset.regs.run = false ∧ (runningRegs State.reset).regs.run = true := by decide

theorem witness_RunSetBeginsAnAssembly :
    oneLane.regs.run = false ∧ oneLane.ran = false ∧ (runningRegs airedLane).regs.run = true := by decide

theorem witness_RunClearThrowsTheFrameAway :
    (assembling (fetchingOf [2]) airedLane).regs.run = true ∧ airedLane.regs.run = false := by decide

theorem witness_SweepTriggersBeginOrOweASweep : (runningRegs State.reset).reader.timer = some 5 := by decide

/-- RUN 1 and the hands being read. -/
def reading : State := setSweep .readingHands (runningRegs State.reset)

theorem witness_HandReadChoosesTheVisits :
    reading.reader.sweep = .readingHands ∧
    hostGather (viewAt 8128 [1]) (handAddrs reading.regs.anchor) = some (List.replicate 127 0 ++ [1]) ∧
    hostGather (errorAt 8128) (handAddrs reading.regs.anchor) = none := by decide +kernel

/-- Slip 3 being visited. -/
def visiting : State := setSweep (.visiting 0 3 [4] false) (runningRegs State.reset)

/-- A slip of 64 bytes with a hand, kind, guard, flags and lane. -/
def slipBytes (hand kind guard flags lane : Byte) : List Byte :=
  padTo 64 ([hand, kind, guard, flags] ++ List.replicate 16 0 ++ [lane])

/-- The slips that the visits below read. -/
def visitedSlips : List (List Byte) :=
  [slipBytes 1 0x03 0 0 23, slipBytes 1 0x03 4 0 0, slipBytes 1 0x05 0 0 0, slipBytes 1 0x03 0 0 24,
   slipBytes 1 0x03 2 2 0, slipBytes 1 0x03 2 0 0, slipBytes 2 0x03 0 0 0]

theorem visited_read : ∀ slip ∈ visitedSlips,
    hostRead (viewAt 192 slip) (slipAddr visiting.regs.anchor 3) 64 = some slip := by decide +kernel

theorem visiting_free : ∀ r, visiting.work r = none := by decide

theorem witness_VisitTakesAndDispatchesASlip : let slip := slipBytes 1 0x03 0 0 23
    visiting.reader.sweep = .visiting 0 3 [4] false ∧
    hostRead (viewAt 192 slip) (slipAddr visiting.regs.anchor 3) 64 = some slip ∧ ¬ passedOver visiting 3 slip ∧
    guardTrue visiting (parseSlip 3 slip) ∧ kindOf (parseSlip 3 slip).kind = some .laneHalt ∧
    (namesLane .laneHalt = true → (parseSlip 3 slip).arg 0 1 < 24) :=
  ⟨rfl, visited_read _ (by simp [visitedSlips]), not_passedOver rfl visiting_free (by decide), Or.inl rfl, rfl, by decide⟩

theorem witness_VisitCompletesOrLeavesItsSlip_completes :
    (∀ slip ∈ visitedSlips, hostRead (viewAt 192 slip) (slipAddr visiting.regs.anchor 3) 64 = some slip) ∧
    (∀ kind guard flags lane, ¬ passedOver visiting 3 (slipBytes 1 kind guard flags lane)) ∧
    3 < (parseSlip 3 (slipBytes 1 0x03 4 0 0)).guard.toNat ∧
    guardTrue visiting (parseSlip 3 (slipBytes 1 0x05 0 0 0)) ∧ kindOf (parseSlip 3 (slipBytes 1 0x05 0 0 0)).kind = none ∧
    guardTrue visiting (parseSlip 3 (slipBytes 1 0x03 0 0 24)) ∧
    (∃ k, kindOf (parseSlip 3 (slipBytes 1 0x03 0 0 24)).kind = some k ∧ namesLane k = true) ∧
    23 < (parseSlip 3 (slipBytes 1 0x03 0 0 24)).arg 0 1 ∧
    (parseSlip 3 (slipBytes 1 0x03 2 2 0)).guard.toNat ≤ 3 ∧ ¬ guardTrue visiting (parseSlip 3 (slipBytes 1 0x03 2 2 0)) ∧
    (parseSlip 3 (slipBytes 1 0x03 2 2 0)).flags.getLsbD 1 = true := by
  refine ⟨visited_read, fun _ _ _ _ => not_passedOver rfl visiting_free (by decide), by decide, Or.inl rfl, by decide,
    Or.inl rfl, ⟨.laneHalt, rfl, rfl⟩, by decide, by decide, ?_, by decide⟩
  rintro (h | ⟨h, -⟩ | ⟨-, h⟩ | ⟨h, -⟩) <;> revert h <;> decide

theorem witness_VisitCompletesOrLeavesItsSlip_leaves :
    passedOver visiting 3 (slipBytes 2 0x03 0 0 0) ∧
    (parseSlip 3 (slipBytes 1 0x03 2 0 0)).guard.toNat ≤ 3 ∧ ¬ guardTrue visiting (parseSlip 3 (slipBytes 1 0x03 2 0 0)) ∧
    (parseSlip 3 (slipBytes 1 0x03 2 0 0)).flags.getLsbD 1 = false ∧
    hostRead (errorAt 255) (slipAddr visiting.regs.anchor 3) 64 = none := by
  refine ⟨Or.inl (by decide), by decide, ?_, by decide, by decide +kernel⟩
  rintro (h | ⟨h, -⟩ | ⟨-, h⟩ | ⟨h, -⟩) <;> revert h <;> decide

/-- A LANE_SETUP's arguments: lane 2, pace 17, page size. -/
def setupArgs (size : List Byte) : List Byte := [2, 17, 0, 0] ++ size

theorem witness_LaneSetupFillsOrReconfiguresALane :
    let a := given .lane 0x01 (setupArgs [0, 0x10, 0, 0]) State.reset
    let b := given .lane 0x01 (setupArgs [0, 0, 1, 0]) oneLane
    let w := slipRec 0x01 (setupArgs [0, 0x10, 0, 0])
    let v := slipRec 0x01 (setupArgs [0, 0, 1, 0])
    laneSlipAt .lane .laneSetup a 0 [] w 2 ∧ (a.lane 2).state = .unused ∧ w.arg 4 4 = 4096 ∧
    laneSlipAt .lane .laneSetup b 0 [] v 2 ∧ (b.lane 2).state ≠ .unused ∧ mapped b 2 = false ∧ v.arg 4 4 = 65536 :=
  ⟨⟨⟨rfl, rfl, rfl⟩, rfl⟩, rfl, rfl, ⟨⟨rfl, rfl, rfl⟩, rfl⟩, by decide, by decide, rfl⟩

/-- Lane 2 READY with a fetch of an abandoned assembly still to end. -/
def straggling : State := oneLane.setFrames { oneLane.frames with stragglers := [⟨2, [4]⟩] }

theorem witness_LaneRetireMakesALaneUnused : let s := given .lane 0x02 [2] straggling
    laneSlipAt .lane .laneRetire s 0 [] (slipRec 0x02 [2]) 2 ∧ (s.lane 2).state ≠ .unused ∧ mapped s 2 = false ∧
    ∀ a ∈ activeAlerts s, a.source ≠ some 2 :=
  ⟨⟨⟨rfl, rfl, rfl⟩, rfl⟩, by decide, by decide, by decide⟩

/-- A retired lane is not fetched (R39): no fetch of it is left. -/
theorem test_retired_lane_has_no_fetch : (retireLane 2 straggling).frames.stragglers = [] := by decide +kernel

theorem witness_LaneHaltAndResumeChangeTheStateAlone :
    let a := given .lane 0x03 [2] oneLane
    let b := given .lane 0x04 [2] (laneWith fun x => { x with state := .halted })
    laneSlipAt .lane .laneHalt a 0 [] (slipRec 0x03 [2]) 2 ∧ (a.lane 2).state = .ready ∧
    laneSlipAt .lane .laneResume b 0 [] (slipRec 0x04 [2]) 2 ∧ (b.lane 2).state = .halted :=
  ⟨⟨⟨rfl, rfl, rfl⟩, rfl⟩, rfl, ⟨⟨rfl, rfl, rfl⟩, rfl⟩, rfl⟩

theorem witness_LaneSlipsAreRefusedInOrder :
    let setup := given .lane 0x01 (setupArgs [1, 0x10, 0, 0])
    laneSlipAt .lane .laneSetup (setup airedLane) 0 [] (slipRec 0x01 (setupArgs [1, 0x10, 0, 0])) 2 ∧
    ((setup airedLane).lane 2).state ≠ .unused ∧ mapped (setup airedLane) 2 = true ∧
    ((setup State.reset).lane 2).state = .unused ∧ mapped (setup oneLane) 2 = false ∧
    (slipRec 0x01 (setupArgs [1, 0x10, 0, 0])).arg 4 4 = 4097 ∧
    laneSlipAt .lane .laneRetire (given .lane 0x02 [2] State.reset) 0 [] (slipRec 0x02 [2]) 2 ∧
    ((given .lane 0x02 [2] State.reset).lane 2).state = .unused ∧ mapped (given .lane 0x02 [2] airedLane) 2 = true ∧
    (let s := withAlert { onAirAlert with source := some 2, targets := [3] } (given .lane 0x02 [2] oneLane)
     (s.lane 2).state ≠ .unused ∧ mapped s 2 = false ∧ ∃ a ∈ activeAlerts s, a.source = some 2) ∧
    laneSlipAt .lane .laneHalt (given .lane 0x03 [2] State.reset) 0 [] (slipRec 0x03 [2]) 2 ∧
    ((given .lane 0x03 [2] State.reset).lane 2).state ≠ .ready ∧
    laneSlipAt .lane .laneResume (given .lane 0x04 [2] oneLane) 0 [] (slipRec 0x04 [2]) 2 ∧
    ((given .lane 0x04 [2] oneLane).lane 2).state ≠ .halted := by
  refine ⟨⟨⟨rfl, rfl, rfl⟩, rfl⟩, by decide, by decide, rfl, by decide, rfl, ⟨⟨rfl, rfl, rfl⟩, rfl⟩, rfl, by decide,
    ⟨by decide, by decide, by decide⟩, ⟨⟨rfl, rfl, rfl⟩, rfl⟩, by decide, ⟨⟨rfl, rfl, rfl⟩, rfl⟩, by decide⟩

/-- A MAP_LOAD in its checks: an entry count, and the table at host address 256. -/
def checkingMap (count : Byte) (s : State) : State :=
  let s1 := holding 0x08 ([count] ++ List.replicate 7 0 ++ [0, 1]) s
  s1.setMaps { s1.maps with checking := some 0 }

/-- The work record of `checkingMap`. -/
def mapRec (count : Byte) : WorkRecord := slipRec 0x08 ([count] ++ List.replicate 7 0 ++ [0, 1])

/-- A pending map with an announce count. -/
def announced (count : Nat) (s : State) : State :=
  s.setMaps { s.maps with upcoming := some { map := smallMap, announce := count, record := 1 } }

theorem witness_MapLoadStartsItsReadOrIsRefused_load :
    let s := given .map 0x08 [1] oneLane
    slipAt .map .mapLoad s 0 [] (slipRec 0x08 [1]) ∧ s.maps.checking = none ∧ s.maps.upcoming = none ∧
    slipAt .map .mapLoad (announced 16 s) 0 [] (slipRec 0x08 [1]) ∧ (announced 16 s).maps.upcoming ≠ none :=
  ⟨⟨rfl, rfl, rfl⟩, rfl, rfl, ⟨rfl, rfl, rfl⟩, by decide⟩

theorem witness_MapLoadStartsItsReadOrIsRefused_table :
    let s := checkingMap 1 oneLane
    let a := withAlert { onAirAlert with targets := [3] } s
    let h := viewAt 256 [2, 4, 100, 0, 2, 0, 0, 0]
    s.maps.checking = some 0 ∧ s.work 0 = some (mapRec 1) ∧
    hostRead (errorAt 263) ((mapRec 1).argAddr 8) (8 * min ((mapRec 1).arg 0 1) 24) = none ∧
    24 < (mapRec 25).arg 0 1 ∧
    hostRead h ((mapRec 1).argAddr 8) (8 * min ((mapRec 1).arg 0 1) 24) = some [2, 4, 100, 0, 2, 0, 0, 0] ∧
    (∃ x ∈ activeAlerts a, ∃ l ∈ x.targets, ∀ e ∈ (List.range 1).map (rawEntry [2, 4, 100, 0, 2, 0, 0, 0]),
      e.lane = l.val → x.take.audio = true ∧ e.reserved < x.width) := by
  refine ⟨rfl, rfl, by decide +kernel, by decide, by decide +kernel, by decide +kernel⟩

/-- The alert that decides is the lowest by id, and its lowest failing target: too narrow, or without an entry. -/
theorem witness_MapLoadStartsItsReadOrIsRefused_alerts :
    let es := (List.range 1).map (rawEntry [2, 4, 100, 0, 2, 0, 0, 0])
    let a : Alert := { onAirAlert with targets := [2, 3], width := 5 }
    let b : Alert := { a with id := 10, targets := [3] }
    let s := setPlace 1 (some b) (withAlert a (checkingMap 1 oneLane))
    ((activeAlerts s).map Alert.id).Nodup ∧ (∀ a ∈ activeAlerts s, a.targets.Pairwise (· < ·)) ∧ activeAlerts s = [a, b] ∧
    (∀ e ∈ es, e.lane = 2 → a.take.audio = true ∧ e.reserved < a.width) ∧ ¬ (∀ e ∈ es, e.lane ≠ 2) ∧
    ¬ (∀ e ∈ es, e.lane = 2 → onAirAlert.take.audio = true ∧ e.reserved < onAirAlert.width) ∧ (∀ e ∈ es, e.lane ≠ 3) := by
  decide +kernel

theorem witness_CheckedMapTableFormsThePendingMap :
    let s := withAlert { onAirAlert with width := 4 } (checkingMap 1 oneLane)
    let w := mapRec 1
    let es := (List.range (w.arg 0 1)).map (rawEntry [2, 4, 100, 0, 0, 0, 0, 0])
    s.maps.checking = some 0 ∧ s.work 0 = some w ∧ w.arg 0 1 ≤ 24 ∧
    hostRead (viewAt 256 [2, 4, 100, 0, 0, 0, 0, 0]) (w.argAddr 8) (8 * w.arg 0 1) = some [2, 4, 100, 0, 0, 0, 0, 0] ∧
    (es.map RawEntry.lane).Nodup ∧ (∀ e ∈ es, ∃ l, laneOf e.lane = some l ∧ (s.lane l).state ≠ .unused) ∧
    (es.map RawEntry.reserved).sum ≤ 1191 ∧ (es.map fun e => min e.share 1023).sum ≤ 1024 ∧
    (∀ a ∈ activeAlerts s, ∀ l ∈ a.targets, ∃ e ∈ es, e.lane = l.val ∧ (a.take.audio = true → a.width ≤ e.reserved)) := by
  refine ⟨rfl, rfl, by decide, by decide +kernel, by decide +kernel, by decide +kernel, by decide +kernel,
    by decide +kernel, by decide +kernel⟩

theorem witness_SwitchOverAdoptsThePendingMap :
    (∀ p, (announced 1 oneLane).maps.upcoming = some p → 0 < p.announce) ∧
    (announced 0 oneLane).maps.upcoming = some ⟨smallMap, 0, 1⟩ ∧
    smallMap.entry? 2 = some ⟨2, 4, 100, 2, 9⟩ ∧ aired (announced 0 airedLane) 2 = true ∧
    (smallMap.entry? 2).isSome ≠ aired (announced 0 oneLane) 2 ∧ smallMap.entry? 3 = none ∧
    aired (announced 0 oneLane) 3 = false := by
  refine ⟨?_, rfl, by decide, by decide, by decide, by decide, by decide⟩
  rintro p ⟨⟩; decide

theorem holdingPage_underWay (count cursor : Nat) :
    fetchUnderWay (holdingPage count cursor) (planOf [2, 3]) (fetchingOf [2, 3]) 2 :=
  ⟨rfl, rfl, by decide, ⟨3, by decide, by decide⟩, by simp [holdingPage, assembling, laneWith, setAssembler, runningRegs,
    State.setFrames, State.setReader, State.setRegs, State.setLane, State.setLanes, State.reset], rfl⟩

theorem witness_LaneFetchReadsTheNextUnit :
    let s := holdingPage 5 0
    let h := viewAt 0x10000 [3, 0, 7, 8, 9]
    let x := s.lane 2
    fetchUnderWay s (planOf [2, 3]) (fetchingOf [2, 3]) 2 ∧ x.feed.held = some .a ∧
    x.feed.cursor + 2 + leNat [3, 0] ≤ x.feed.byteCount ∧
    hostRead h (addrAt (pageAddr x .a) x.feed.cursor) 2 = some [3, 0] ∧
    (candidateLimits (planOf [2, 3]) 2).any (fun m => decide (2 + leNat [3, 0] ≤ 16 * m)) = true ∧
    hostRead h (addrAt (pageAddr x .a) (x.feed.cursor + 2)) (leNat [3, 0]) = some [7, 8, 9] :=
  ⟨holdingPage_underWay 5 0, rfl, by decide, by decide +kernel, by decide, by decide +kernel⟩

theorem witness_LaneFetchReturnsADamagedPage :
    (∀ count cursor, fetchUnderWay (holdingPage count cursor) (planOf [2, 3]) (fetchingOf [2, 3]) 2 ∧
      ((holdingPage count cursor).lane 2).feed.held = some .a) ∧
    (let f := ((holdingPage 5 4).lane 2).feed; f.byteCount < f.cursor + 2) ∧
    (let x := (holdingPage 2 0).lane 2
     x.feed.cursor + 2 ≤ x.feed.byteCount ∧ hostRead (errorAt 0x10001) (addrAt (pageAddr x .a) x.feed.cursor) 2 = none) ∧
    (let x := (holdingPage 4 0).lane 2
     hostRead (viewAt 0x10000 [3, 0]) (addrAt (pageAddr x .a) x.feed.cursor) 2 = some [3, 0] ∧
       x.feed.byteCount < x.feed.cursor + 2 + leNat [3, 0]) ∧
    (let x := (holdingPage 5 0).lane 2
     let h : HostView := ⟨[(0x10000, 3)], [0x10004]⟩
     hostRead h (addrAt (pageAddr x .a) x.feed.cursor) 2 = some [3, 0] ∧ x.feed.cursor + 2 + leNat [3, 0] ≤ x.feed.byteCount ∧
       (candidateLimits (planOf [2, 3]) 2).any (fun m => decide (2 + leNat [3, 0] ≤ 16 * m)) = true ∧
       hostRead h (addrAt (pageAddr x .a) (x.feed.cursor + 2)) (leNat [3, 0]) = none) := by
  refine ⟨fun count cursor => ⟨holdingPage_underWay count cursor, rfl⟩, by decide, ⟨by decide, by decide +kernel⟩,
    ⟨by decide +kernel, by decide⟩, by decide +kernel, by decide, by decide, by decide +kernel⟩

/-- Lane 2 holding no page, with lanes 2 and 3 still to fetch. -/
def expecting : State := assembling (fetchingOf [2, 3]) oneLane

/-- A LOADED tab with a byte count. -/
def loadedTab (count : Byte) : List Byte := [1, 1, 0, 0, count, 0, 0, 0, 41, 0, 0, 0, 0, 0, 0, 0]

theorem witness_LaneFetchTakesTheExpectedPage :
    fetchUnderWay expecting (planOf [2, 3]) (fetchingOf [2, 3]) 2 ∧ (expecting.lane 2).feed.held = none ∧
    (let a := tabAddr expecting.regs.anchor 2 .a
     hostRead (errorAt (a.toNat + 15)) a 16 = none ∧ hostRead (viewAt a.toNat []) a 16 = some (List.replicate 16 0) ∧
     hostRead (viewAt a.toNat (loadedTab 0)) a 16 = some (loadedTab 0) ∧
     hostRead (viewAt a.toNat (loadedTab 1)) a 16 = some (loadedTab 1)) ∧
    min (leNat (slice (loadedTab 0) 4 4)) (expecting.lane 2).pageSize = 0 ∧
    min (leNat (slice (loadedTab 1) 4 4)) (expecting.lane 2).pageSize = 1 := by
  refine ⟨⟨rfl, rfl, by decide, ⟨3, by decide, by decide⟩, by simp [expecting, oneLane, assembling, setAssembler,
    runningRegs, State.setFrames, State.setReader, State.setRegs, State.setLane, State.setLanes, State.reset], rfl⟩, rfl,
    by decide +kernel, by decide, by decide⟩

/-- The fetch of lane 2 stands between those of two other lanes, and alone. -/
theorem witness_AbandonedFetchRunsToItsEnd :
    (let s := straggling.setFrames { straggling.frames with stragglers := [⟨1, []⟩, ⟨2, [4]⟩, ⟨3, [4]⟩] }
     s.frames.stragglers = [⟨1, []⟩] ++ ⟨2, [4]⟩ :: [⟨3, [4]⟩] ∧
       ∀ g ∈ [(⟨1, []⟩ : Straggler)] ++ [⟨3, [4]⟩], g.lane ≠ 2) ∧
    straggling.frames.stragglers = [] ++ ⟨2, [4]⟩ :: [] ∧ ∀ g ∈ [] ++ ([] : List Straggler), g.lane ≠ 2 := by decide

theorem witness_PoolSharingAccountsForEveryCell : ∀ x ∈ creditLanes, x.demand ≤ 49 := by decide

theorem witness_AccrualRaisesAndClampsCredit :
    let x (urgent : Bool) (demand share credit : Nat) : PoolLane := ⟨7, urgent, demand, share, 1, credit, 0, false⟩
    (x true 1 1 0).saturated = false ∧ (x true 1 1 0).urgent = true ∧
    (x false 0 1 9).urgent = false ∧ (x false 0 1 9).demand = 0 ∧
    0 < (x false 1 1 0).demand ∧ (x false 1 1 0).credit + (x false 1 1 0).share * 1024 ≤ (x false 1 1 0).burst * 1024 ∧
    (x false 1 1 0).burst * 1024 < (x false 1 1 0).credit + (x false 1 1 0).share * 1025 ∧
    (x false 1 0 1024).share = 0 ∧ (x false 1 0 1024).credit ≤ (x false 1 0 1024).burst * 1024 ∧
    (x false 1 1023 1024).share ≤ 1023 ∧ (1191 : Nat) ≤ 1191 ∧ (x false 1 1023 261120).credit ≤ 261120 := by decide

theorem witness_PieceFillingFollowsItsSteps :
    (1 : Nat) = cellsToFinish 8 ∧ (65 : Nat) = cellsToFinish 1000 ∧
    (fillPieces [] 0 1 7 16 16 248 0).map Piece.cells = [16] := by decide +kernel

/-- A TEXT_PUT for lane 2: repeat 0, id 7, a length, the body at host address 256. -/
def putArgs (length : List Byte) : List Byte := [2, 0, 7, 0] ++ length ++ [0, 0, 0, 1]

/-- That TEXT_PUT with its body being read. -/
def putting (length : List Byte) (s : State) : State :=
  let s1 := holding 0x10 (putArgs length) s
  s1.setText { s1.text with putting := some 0 }

theorem witness_TextPutStartsItsReadOrIsRefused :
    (let s := given .text 0x10 (putArgs [0, 0]) State.reset
     laneSlipAt .text .textPut s 0 [] (slipRec 0x10 (putArgs [0, 0])) 2 ∧ s.text.putting = none ∧
       (s.lane 2).state = .unused) ∧
    ((given .text 0x10 (putArgs [0, 0]) oneLane).lane 2).state ≠ .unused ∧ (slipRec 0x10 (putArgs [0, 0])).arg 4 2 = 0 ∧
    (slipRec 0x10 (putArgs [1, 0])).arg 4 2 = 1 ∧
    (let w := slipRec 0x10 (putArgs [1, 0])
     (putting [1, 0] State.reset).text.putting = some 0 ∧ (putting [1, 0] State.reset).work 0 = some w ∧ w.lane = some 2 ∧
       hostRead (errorAt 256) (w.argAddr 8) (min (w.arg 4 2) 128) = none ∧
       hostRead (viewAt 256 [0]) (w.argAddr 8) (min (w.arg 4 2) 128) = some [0] ∧
       hostRead (viewAt 256 [1]) (w.argAddr 8) (min (w.arg 4 2) 128) = some [1] ∧
       ((putting [1, 0] State.reset).lane 2).state = .unused) := by
  refine ⟨⟨⟨⟨rfl, rfl, rfl⟩, rfl⟩, rfl, rfl⟩, by decide, rfl, rfl, rfl, rfl, rfl, ?_⟩
  decide +kernel

theorem witness_TextPutReplacesOrAppends :
    let w := slipRec 0x10 (putArgs [1, 0])
    let queueOf (ms : List Message) := putting [1, 0] (laneWith fun x => { x with text := { x.text with queue := ms } })
    (queueOf []).text.putting = some 0 ∧ (queueOf []).work 0 = some w ∧ w.lane = some 2 ∧
    hostRead (viewAt 256 [1]) (w.argAddr 8) (min (w.arg 4 2) 128) = some [1] ∧ (0 : Byte) ∉ [(1 : Byte)] ∧
    ((queueOf []).lane 2).state ≠ .unused ∧
    ((queueOf [note 7]).lane 2).text.queue.find? (fun m => m.id = BitVec.ofNat 16 (w.arg 2 2)) = some (note 7) ∧
    (∀ m ∈ List.replicate 7 (note 8), m.id ≠ BitVec.ofNat 16 (w.arg 2 2)) ∧ (List.replicate 7 (note 8)).length < 8 ∧
    (∀ m ∈ List.replicate 8 (note 8), m.id ≠ BitVec.ofNat 16 (w.arg 2 2)) ∧
    8 ≤ (List.replicate 8 (note 8)).length := by
  refine ⟨rfl, rfl, rfl, by decide +kernel, by decide, by decide, by decide, by decide, by decide, by decide, by decide⟩

theorem witness_TextDropAndClearRemoveMessages :
    let queued (f : Lane → Lane) := given .text 0x11 [2, 0, 7] (laneWith f)
    let w := slipRec 0x11 [2, 0, 7]
    laneSlipAt .text .textDrop (queued id) 0 [] w 2 ∧ (queued id).text.putting = none ∧
    ((queued fun x => { x with state := .unused }).lane 2).state = .unused ∧ ((queued id).lane 2).state ≠ .unused ∧
    (∀ m ∈ ((queued id).lane 2).text.queue, m.id ≠ BitVec.ofNat 16 (w.arg 2 2)) ∧
    ((queued fun x => { x with text := { x.text with queue := [note 7] } }).lane 2).text.queue.find?
      (fun m => m.id = BitVec.ofNat 16 (w.arg 2 2)) = some (note 7) ∧
    laneSlipAt .text .textClear (given .text 0x12 [2] oneLane) 0 [] (slipRec 0x12 [2]) 2 ∧
    ((given .text 0x12 [2] oneLane).lane 2).state ≠ .unused ∧
    ((given .text 0x12 [2] State.reset).lane 2).state = .unused := by
  refine ⟨⟨⟨rfl, rfl, rfl⟩, rfl⟩, rfl, by decide, by decide, by decide, by decide, ⟨⟨rfl, rfl, rfl⟩, rfl⟩, by decide, rfl⟩

theorem witness_EndOfATextAiringMovesTheQueueOn :
    let m : Message := ⟨0x11, List.replicate 30 1, 1, 0, 1⟩
    let rest : List Message := [⟨0x22, List.replicate 10 1, 0, 0, 2⟩]
    let f : Fragment := ⟨none, 0x11, 1, 2, true, []⟩
    twelveFrames.queue = m :: rest ∧ f.alert = none ∧ f.textId = m.id ∧ f.version = m.version ∧ f.last = true := by decide

theorem witness_CarouselSlipsSetAndJump_accepted :
    let shown := (withSlot (slotIn .ready 0)).setLane 2 { readyLane with carousel := { Carousel.fresh with entries := [1] } }
    let s := given .carousel 0x18 [2, 1, 1] shown
    let t := given .carousel 0x19 [2, 0] shown
    (s.lane 2).state ≠ .unused ∧ laneSlipAt .carousel .carSet s 0 [] (slipRec 0x18 [2, 1, 1]) 2 ∧
    (slipRec 0x18 [2, 1, 1]).arg 1 1 ≤ 12 ∧
    [(1 : SlotId)].map (fun i => i.val) =
      (List.range ((slipRec 0x18 [2, 1, 1]).arg 1 1)).map (fun n => (slipRec 0x18 [2, 1, 1]).arg (2 + n) 1) ∧
    (∀ i ∈ [(1 : SlotId)], (s.slot i).record.state = .ready) ∧
    laneSlipAt .carousel .carJump t 0 [] (slipRec 0x19 [2, 0]) 2 ∧
    (slipRec 0x19 [2, 0]).arg 1 1 < (t.lane 2).carousel.entries.length := by
  refine ⟨by decide, ⟨⟨rfl, rfl, rfl⟩, rfl⟩, by decide, by decide, by decide, ⟨⟨rfl, rfl, rfl⟩, rfl⟩, by decide⟩

theorem witness_CarouselSlipsSetAndJump_refused :
    let set (args : List Byte) (s : State) := given .carousel 0x18 ([2] ++ args) s
    laneSlipAt .carousel .carSet (set [1, 1] State.reset) 0 [] (slipRec 0x18 [2, 1, 1]) 2 ∧
    ((set [1, 1] State.reset).lane 2).state = .unused ∧ ((set [13] oneLane).lane 2).state ≠ .unused ∧
    12 < (slipRec 0x18 [2, 13]).arg 1 1 ∧
    (∃ n ∈ (List.range ((slipRec 0x18 [2, 1, 64]).arg 1 1)).map (fun n => (slipRec 0x18 [2, 1, 64]).arg (2 + n) 1), 63 < n) ∧
    (∃ i : SlotId, i.val ∈ (List.range ((slipRec 0x18 [2, 1, 63]).arg 1 1)).map
      (fun n => (slipRec 0x18 [2, 1, 63]).arg (2 + n) 1) ∧ ((set [1, 63] oneLane).slot i).record.state ≠ .ready) ∧
    laneSlipAt .carousel .carJump (given .carousel 0x19 [2, 0] oneLane) 0 [] (slipRec 0x19 [2, 0]) 2 ∧
    ((given .carousel 0x19 [2, 0] State.reset).lane 2).state = .unused ∧
    ((given .carousel 0x19 [2, 0] oneLane).lane 2).carousel.entries.length ≤ (slipRec 0x19 [2, 0]).arg 1 1 := by
  refine ⟨⟨⟨rfl, rfl, rfl⟩, rfl⟩, rfl, by decide, by decide, by decide, ⟨63, by decide, by decide⟩,
    ⟨⟨rfl, rfl, rfl⟩, rfl⟩, rfl, by decide⟩

/-- A refused CAR_JUMP has aux 0 (R131). -/
theorem test_refused_jump_has_aux_zero :
    (carouselDispatch .carJump actCarJump (given .carousel 0x19 [2, 0] oneLane)).posted =
      (finish 0 statusBadArg 0 (given .carousel 0x19 [2, 0] oneLane)).posted := by decide +kernel

theorem witness_CondemnedSlotLeavesACarousel :
    (3 : SlotId) ∉ busyList.entries ∧ (12 : SlotId) ∈ busyList.entries ∧
    busyList.entries[busyList.position.entry]? = some 12 ∧ busyList.entries[(4 : Nat)]? = some 7 ∧
    busyList.jump = some 4 ∧ (7 : SlotId) ∈ busyList.entries ∧ busyList.entries[(2 : Nat)]? ≠ some 7 := by decide

/-- A picture slip on a slot of a loaded store. -/
def onSlot (slot : Slot) (kind : Byte) (args : List Byte) : State := given .store kind args (withSlot slot)

theorem slotOne_runFits : runFits (onSlot Slot.vacant 0x20 [1, 0, 0, 0, 1]) false 64 1 := by
  have vacant : ∀ i, ((onSlot Slot.vacant 0x20 [1, 0, 0, 0, 1]).slot i).record.extent = none := by decide +kernel
  exact ⟨by decide, fun i e h => absurd ((vacant i).symm.trans h) (by simp)⟩

theorem witness_PicOpenTakesTheLowestRun : let s := onSlot Slot.vacant 0x20 [1, 0, 0, 0, 1]
    let w := slipRec 0x20 [1, 0, 0, 0, 1]
    slipAt .store .picOpen s 0 [] w ∧ s.store.loaded = true ∧ w.arg 0 1 = (1 : SlotId).val ∧
    (s.slot 1).record.state = .empty ∧ 0 < w.arg 4 4 ∧ w.arg 4 4 ≤ 262144 ∧
    ((w.argByte 1).getLsbD 0 = true → activeAlerts s = []) ∧
    runFits s ((w.argByte 1).getLsbD 0) 64 ((w.arg 4 4 + 4095) / 4096) ∧
    (∀ f < 64, ¬ runFits s ((w.argByte 1).getLsbD 0) f ((w.arg 4 4 + 4095) / 4096)) := by
  refine ⟨⟨rfl, rfl, rfl⟩, rfl, rfl, rfl, by decide, by decide, by decide, slotOne_runFits, ?_⟩
  rintro f hf ⟨h, -⟩
  have : ¬ ((64 ≤ f ∧ f + 1 ≤ 512) ∨ (512 ≤ f ∧ f + 1 ≤ 1016)) := by omega
  exact this h

theorem witness_WriteRepetitionsStayInPageAndPicture : (0 : Nat) < 1 := by decide

theorem witness_PicWriteQueuesItsPrograms :
    let s := onSlot (slotIn .filling 0) 0x21 [1, 0, 1, 0, 100]
    let w := slipRec 0x21 [1, 0, 1, 0, 100]
    slipAt .store .picWrite s 0 [] w ∧ s.store.loaded = true ∧ w.arg 0 1 = (1 : SlotId).val ∧
    (s.slot 1).record.state = .filling ∧ 0 < w.arg 2 2 ∧ w.arg 2 2 ≤ 256 ∧
    writeReps (w.argAddr 8) (slotBase s 1) (w.arg 4 4) (w.arg 2 2) (w.arg 1 1) (slotLength s 1) = [] ∧
    storeIdle s ∧ bankHeld s (slotBank s 1) = false ∧ (∀ k ∈ s.store.jobs, k.record ≠ 0) := by
  refine ⟨⟨rfl, rfl, rfl⟩, rfl, rfl, rfl, by decide, by decide, by decide +kernel, ⟨rfl, ?_, ?_⟩, by decide, ?_⟩ <;>
    simp [onSlot, given, dispatchTo, holding, fillRecord, withSlot, State.setStore, State.setReader, State.reset]

theorem witness_PicSealChecksThePicture :
    let s := onSlot (slotIn .filling 0) 0x22 [1]
    let t := working (slotIn .sealing 0) (jobFor .seal (.sealRead 5)) .sealRead
    slipAt .store .picSeal s 0 [] (slipRec 0x22 [1]) ∧ s.store.loaded = true ∧
    (slipRec 0x22 [1]).arg 0 1 = (1 : SlotId).val ∧ (s.slot 1).record.state = .filling ∧
    t.store.running = some ⟨.job 0, .sealRead⟩ ∧ jobOf t 0 = some (jobFor .seal (.sealRead 5)) ∧
    (jobFor .seal (.sealRead 5)).work = .sealRead 5 :=
  ⟨⟨rfl, rfl, rfl⟩, rfl, rfl, rfl, rfl, by decide, rfl⟩

theorem witness_PicDropErasesOrCondemns :
    let s (slot : Slot) := onSlot slot 0x23 [1]
    (∀ slot, slipAt .store .picDrop (s slot) 0 [] (slipRec 0x23 [1])) ∧ (s (slotIn .ready 2)).store.loaded = true ∧
    (slipRec 0x23 [1]).arg 0 1 = (1 : SlotId).val ∧ activeAlerts (s (slotIn .ready 2)) = [] ∧
    ((s (slotIn .ready 2)).slot 1).record.extent = some ⟨64, 1, 100⟩ ∧
    ((s (slotIn .filling 0)).slot 1).record.state = .filling ∧
    ((s (slotIn .ready 0)).slot 1).record.state = .ready ∧ ((s (slotIn .ready 0)).slot 1).users = 0 ∧
    0 < ((s (slotIn .ready 1)).slot 1).users :=
  ⟨fun _ => ⟨rfl, rfl, rfl⟩, rfl, rfl, by decide, rfl, rfl, rfl, rfl, by decide⟩

/-- A READY slot with one carousel entry naming it: with one user none is left, with two one is. -/
theorem witness_PicDropErasesOrCondemns_condemned :
    let s (users : Nat) := (onSlot (slotIn .ready users) 0x23 [1]).setLane 2
      { readyLane with carousel := { Carousel.fresh with entries := [1] } }
    (∀ users, slipAt .store .picDrop (s users) 0 [] (slipRec 0x23 [1])) ∧ (s 1).store.loaded = true ∧
    activeAlerts (s 1) = [] ∧ ((s 1).slot 1).record.extent = some ⟨64, 1, 100⟩ ∧
    ((s 1).slot 1).record.state = .ready ∧ 0 < ((s 1).slot 1).users ∧ (s 1).store.running = none ∧
    ((s 1).slot 1).users - (entriesNaming (s 1) 1).count 1 = 0 ∧
    ((s 2).slot 1).users - (entriesNaming (s 2) 1).count 1 = 1 :=
  ⟨fun _ => ⟨rfl, rfl, rfl⟩, rfl, by decide, rfl, rfl, by decide, rfl, by decide +kernel, by decide +kernel⟩

/-- The alert-flagged form of a slot. -/
def flagged (slot : Slot) : Slot := { slot with record := { slot.record with alertFlag := true } }

theorem witness_PictureSlipsAreRefusedInOrder_open :
    let s := onSlot Slot.vacant 0x20
    slipAt .store .picOpen (s [64]) 0 [] (slipRec 0x20 [64]) ∧ (s [64]).store.loaded = true ∧
    63 < (slipRec 0x20 [64]).arg 0 1 ∧ (slipRec 0x20 [1]).arg 0 1 = (1 : SlotId).val ∧
    ((onSlot (slotIn .filling 0) 0x20 [1]).slot 1).record.state ≠ .empty ∧ ((s [1]).slot 1).record.state = .empty ∧
    (slipRec 0x20 [1]).arg 4 4 = 0 ∧ 262144 < (slipRec 0x20 [1, 0, 0, 0, 1, 0, 4]).arg 4 4 ∧
    ((slipRec 0x20 [1, 1, 0, 0, 1]).argByte 1).getLsbD 0 = true ∧
    activeAlerts (withAlert onAirAlert (s [1, 1, 0, 0, 1])) ≠ [] := by
  refine ⟨⟨rfl, rfl, rfl⟩, rfl, by decide, rfl, by decide, rfl, rfl, by decide, rfl, by decide⟩

theorem witness_PictureSlipsAreRefusedInOrder_full :
    ∀ f, ¬ runFits (withSlot ⟨⟨.ready, true, some ⟨0, 64, 262144⟩, 1, none⟩, 0⟩) true f 1 := by
  rintro f ⟨h, free⟩
  have := free 1 ⟨0, 64, 262144⟩ rfl
  simp at h this
  omega

theorem witness_PictureSlipsAreRefusedInOrder_others :
    slipAt .store .picWrite (onSlot (slotIn .filling 0) 0x21 [64]) 0 [] (slipRec 0x21 [64]) ∧
    63 < (slipRec 0x21 [64]).arg 0 1 ∧ ((onSlot (slotIn .ready 0) 0x21 [1]).slot 1).record.state ≠ .filling ∧
    ((onSlot (slotIn .filling 0) 0x21 [1]).slot 1).record.state = .filling ∧ (slipRec 0x21 [1]).arg 2 2 = 0 ∧
    256 < (slipRec 0x21 [1, 0, 1, 1]).arg 2 2 ∧
    slipAt .store .picSeal (onSlot (slotIn .ready 0) 0x22 [1]) 0 [] (slipRec 0x22 [1]) ∧
    ((onSlot (slotIn .ready 0) 0x22 [1]).slot 1).record.state ≠ .filling ∧
    slipAt .store .picDrop (onSlot (slotIn .sealing 0) 0x23 [1]) 0 [] (slipRec 0x23 [1]) ∧
    ((onSlot (slotIn .sealing 0) 0x23 [1]).slot 1).record.state ≠ .ready ∧
    (∃ a ∈ activeAlerts (withAlert { onAirAlert with picture := some (1, 3) } (onSlot (slotIn .ready 1) 0x23 [1])),
      a.picture = some (1, 3)) ∧
    ((onSlot (flagged (slotIn .ready 0)) 0x23 [1]).slot 1).record.alertFlag = true ∧
    (∀ a ∈ activeAlerts (withAlert onAirAlert (onSlot (flagged (slotIn .ready 0)) 0x23 [1])), a.picture = none) := by
  refine ⟨⟨rfl, rfl, rfl⟩, by decide, by decide, rfl, rfl, by decide, ⟨rfl, rfl, rfl⟩, by decide, ⟨rfl, rfl, rfl⟩, by decide,
    by decide, rfl, by decide⟩

theorem witness_BlockEraseEndGoesOnWithTheJob :
    let j (blocks : List Nat) := jobFor .drop (.erases blocks)
    let s (blocks : List Nat) := working (slotIn .dropping 0) (j blocks) (.erase 64)
    let held (blocks : List Nat) := (s blocks).setStore { (s blocks).store with hold := 1 }
    let rec_ (blocks : List Nat) : State :=
      State.reset.setStore { State.reset.store with recovery := [⟨1, 0, blocks⟩], running := some ⟨.recovery 1, .erase 64⟩ }
    (s [64, 65]).store.running = some ⟨.job 0, .erase 64⟩ ∧ jobOf (s [64, 65]) 0 = some (j [64, 65]) ∧
    (j [64, 65]).work = .erases (64 :: [65]) ∧ bankHeld (s [64, 65]) 0 = false ∧ bankHeld (held [64, 65]) 0 = true ∧
    (j [64]).work = .erases (64 :: []) ∧ (rec_ [64, 65]).store.running = some ⟨.recovery 1, .erase 64⟩ ∧
    (rec_ [64, 65]).store.recovery.find? (fun x => x.slot = 1) = some ⟨1, 0, [64, 65]⟩ ∧
    bankHeld (rec_ [64, 65]) 0 = false ∧
    bankHeld ((rec_ [64, 65]).setStore { (rec_ [64, 65]).store with hold := 1 }) 0 = true ∧
    (rec_ [64]).store.recovery.find? (fun x => x.slot = 1) = some ⟨1, 0, 64 :: []⟩ := by decide +kernel

/-- One repetition of 2 bytes from host address 256. -/
def rep : Program := { host := 256, dest := 262144, length := 2 }

theorem witness_WriteHostReadStartsTheProgram :
    let j := jobFor .writing (.programs [rep])
    let s := working (slotIn .filling 0) j (.hostRead rep)
    let held := s.setStore { s.store with hold := 1 }
    s.store.running = some ⟨.job 0, .hostRead rep⟩ ∧ jobOf s 0 = some j ∧ s.work 0 = some (slipRec 0x21 []) ∧
    (s.store.jobs.map Job.record).Nodup ∧ (held.store.jobs.map Job.record).Nodup ∧ hostRead (viewAt 256 [1, 2]) rep.host rep.length = some [1, 2] ∧ bankHeld s j.bank = false ∧
    bankHeld held j.bank = true ∧ hostRead (errorAt 257) rep.host rep.length = none := by decide +kernel

theorem witness_PageProgramEndClearsBits :
    let j := jobFor .writing (.programs [rep, rep])
    let s := working (slotIn .filling 0) j (.program 262144 [1, 2])
    StoreSound s ∧ s.store.running = some ⟨.job 0, .program 262144 [1, 2]⟩ ∧ jobOf s 0 = some j ∧
    j.work = .programs (rep :: [rep]) ∧ (jobFor .writing (.programs [rep])).work = .programs (rep :: []) ∧
    bankHeld s j.bank = false ∧ bankHeld (s.setStore { s.store with hold := 1 }) j.bank = true ∧
    s.work 0 = some (slipRec 0x21 []) :=
  ⟨rfl, rfl, by decide, rfl, rfl, by decide, by decide, rfl⟩

theorem witness_DirectoryWriteEndChangesTheSlot :
    (let s := beginDirWrite ⟨1, .toReady 5, some ⟨0, 0, 4⟩⟩ (holding 0x22 [1] (withSlot (slotIn .sealing 0)))
     s.store.dirWrites = ⟨1, .toReady 5, some ⟨0, 0, 4⟩⟩ :: []) ∧
    (withSlot Slot.vacant).store.loaded = true ∧ State.reset.store.loaded = false := by decide +kernel

/-- An ALERT_RAISE's arguments: id, level, take set, source, width, slot, text length, targets, text at host address 256. -/
def raiseArgs (id level take source width slot length targets : Byte) : List Byte :=
  [id, level, take, source, width, slot, length, 0, targets, 0, 0, 0, 0, 1]

/-- A raise in its checks. -/
def checkingRaise (args : List Byte) (s : State) : State :=
  let s1 := holding 0x30 args s
  s1.setAlerts { s1.alerts with checking := some 0 }

/-- Lanes 2 and 4 READY, lane 2 aired, slot 1 an alert-flagged READY picture. -/
def stage : State :=
  let s := withSlot (flagged (slotIn .ready 0))
  ((s.setLane 2 readyLane).setLane 4 readyLane).setMaps { s.maps with active := smallMap }

/-- A raise with a text in its checks, and one without at the front of the alert slips. -/
theorem decides (args : List Byte) (s : State) (h : HostView) :
    decidesRaise (.alertRaiseApply h) (checkingRaise args s) 0 s.alerts.queue (slipRec 0x30 args) :=
  Or.inr ⟨h, rfl, rfl, by simp [checkingRaise, holding, fillRecord, State.work, State.setReader, State.setAlerts], rfl⟩

theorem witness_AlertRaiseTakesItsFields :
    (let w := slipRec 0x30 (raiseArgs 9 3 7 4 4 1 128 4)
     slipAt .alert .alertRaise (given .alert 0x30 (raiseArgs 9 3 7 4 4 1 128 4) State.reset) 0 [] w ∧
       State.reset.alerts.checking = none ∧ (raiseOf w).take.text = true ∧ (raiseOf w).textLength = 128) ∧
    (let args := raiseArgs 9 3 7 4 4 1 1 4
     let c := Instr.alertRaiseApply (viewAt 256 [0x41])
     decidesRaise c (checkingRaise args stage) 0 [] (slipRec 0x30 args) ∧ (raiseOf (slipRec 0x30 args)).targets = [2] ∧
       raiseFault (checkingRaise args stage) (raiseOf (slipRec 0x30 args)) (textAt c (raiseOf (slipRec 0x30 args))) = none) ∧
    (let args := raiseArgs 9 3 5 4 4 1 1 4
     let s := given .alert 0x30 args stage
     decidesRaise .alertRaise s 0 [] (slipRec 0x30 args) ∧
       raiseFault s (raiseOf (slipRec 0x30 args)) (textAt .alertRaise (raiseOf (slipRec 0x30 args))) = none) := by
  refine ⟨⟨⟨rfl, rfl, rfl⟩, rfl, by decide, by decide⟩, ⟨decides _ _ _, by decide, by decide +kernel⟩,
    ⟨Or.inl ⟨rfl, ⟨rfl, rfl, rfl⟩, rfl, Or.inl (by decide)⟩, by decide +kernel⟩⟩

/-- A raise with no text to read is decided at its dispatch (R145): applied, or refused at once. -/
theorem test_raise_without_text_is_decided :
    (alertDispatch .alertRaise actAlertRaise (given .alert 0x30 (raiseArgs 9 3 5 4 4 1 1 4) stage)).alerts.log =
      [⟨9, 2, .audio, .own⟩, ⟨9, 2, .picture, .own⟩] := by decide +kernel

theorem witness_AlertRaiseIsRefusedInOrder :
    (∀ (args : List Byte) (h : HostView),
      decidesRaise (.alertRaiseApply h) (checkingRaise args stage) 0 [] (slipRec 0x30 args)) ∧
    decidesRaise .alertRaise (given .alert 0x30 (raiseArgs 9 3 2 4 4 1 0 4) stage) 0 []
      (slipRec 0x30 (raiseArgs 9 3 2 4 4 1 0 4)) ∧
    raiseBadArg (raiseOf (slipRec 0x30 (raiseArgs 9 3 2 4 4 1 0 4))) = true :=
  ⟨fun args h => decides args stage h, Or.inl ⟨rfl, ⟨rfl, rfl, rfl⟩, rfl, Or.inr (Or.inl (by decide))⟩, by decide +kernel⟩

theorem witness_AlertRaiseIsRefusedInOrder_checks :
    let of (args : List Byte) (h : HostView) (s : State) :=
      raiseFault (checkingRaise args s) (raiseOf (slipRec 0x30 args)) (readAlertText h (raiseOf (slipRec 0x30 args)))
    let text := viewAt 256 [0x41]
    of (raiseArgs 9 3 7 4 4 1 1 4) text (withAlert onAirAlert stage) = some (21, 0) ∧
    of (raiseArgs 8 3 7 4 4 1 1 4) text
      (stage.setAlerts { stage.alerts with places := Vector.replicate 4 (some onAirAlert) }) = some (17, 0) ∧
    of (raiseArgs 9 4 7 4 4 1 1 4) text stage = some (5, 0) ∧ of (raiseArgs 9 0 7 4 4 1 1 4) text stage = some (5, 0) ∧
    of (raiseArgs 9 3 7 24 4 1 1 4) text stage = some (5, 0) ∧ of (raiseArgs 9 3 7 4 4 64 1 4) text stage = some (5, 0) ∧
    of (raiseArgs 9 3 7 4 4 1 129 4) text stage = some (5, 0) ∧
    of (raiseArgs 9 3 7 4 4 1 1 20) text stage = some (6, 4) ∧ of (raiseArgs 9 3 7 255 4 1 1 4) text stage = some (5, 0) ∧
    of (raiseArgs 9 3 7 4 5 1 1 4) text stage = some (18, 2) ∧
    of (raiseArgs 9 3 7 4 4 1 1 4) text
      (stage.setMaps { stage.maps with upcoming := some ⟨AirMap.vacant, 16, 1⟩ }) = some (19, 2) ∧
    of (raiseArgs 9 3 7 4 4 2 1 4) text stage = some (11, 0) ∧
    of (raiseArgs 9 3 7 4 4 1 1 4) text
      (stage.setAlerts { stage.alerts with log := List.replicate 62 ⟨1, 0, .text, .own⟩ }) = some (16, 2) ∧
    of (raiseArgs 9 3 7 4 4 1 1 4) (errorAt 256) stage = some (23, 0) ∧
    of (raiseArgs 9 3 7 4 4 1 1 4) (viewAt 256 [0]) stage = some (5, 0) := by decide +kernel

theorem witness_AlertEndRemovesItsEntries :
    let s (a : Alert) (id : Byte) := withAlert a (given .alert 0x31 [id] oneLane)
    slipAt .alert .alertEnd (s onAirAlert 9) 0 [] (slipRec 0x31 [9]) ∧ (s onAirAlert 9).alerts.checking = none ∧
    ((activeAlerts (s onAirAlert 9)).map Alert.id).Nodup ∧
    (∀ a ∈ activeAlerts (s onAirAlert 8), a.id ≠ (slipRec 0x31 [8]).argByte 0) ∧
    (s onAirAlert 9).alerts.places[(0 : PlaceId)] = some onAirAlert ∧ onAirAlert.id = (slipRec 0x31 [9]).argByte 0 ∧
    ({ onAirAlert with state := .raised } : Alert).state ≠ .onAir ∧ onAirAlert.state = .onAir := by
  refine ⟨⟨rfl, rfl, rfl⟩, by decide, by decide, by decide, rfl, rfl, by decide, rfl⟩

/-- The lanes of 8.8 with the three alerts raised. -/
def takenLanes : Vector Lane 24 :=
  ((State.reset.lanes.set 2 { Lane.fresh with textFrom := .alert 10, pictureFrom := .alert 10 }).set 3
    { Lane.fresh with audioFrom := .alert 20, textFrom := .alert 30, pictureFrom := .alert 10 }).set 4
    { Lane.fresh with audioFrom := .alert 20, textFrom := .alert 20 }

theorem witness_PassUpKeepsTheCrosspointTrue :
    (threeAlerts.map fun e => (e.alert, e.lane, e.field)).Nodup ∧ logChained [] threeAlerts ∧
    (∀ (l : LaneId) (f : Field), takenLanes[l].sourceOf f = logSource threeAlerts l f) := by
  refine ⟨by decide +kernel, by simp [threeAlerts, logChained, logSource], ?_⟩
  intro l f
  cases f <;> revert l <;> decide +kernel

/-- A link that is UP with a frame in transmission. -/
def sendingFrame : State := setAirData (.sending [0]) (linkUp State.reset)

theorem witness_LinkEventsAndPullInStopped :
    sendingFrame.link.airRstN = true ∧ sendingFrame.link.airData = .sending [0] ∧ State.reset.link.airRstN = false ∧
    (linkUp State.reset).link.airRstN = true ∧ (∀ f, (linkUp State.reset).link.airData ≠ .sending f) ∧
    (linkUp State.reset).frames.assembler = .stopped ∧ (linkUp State.reset).maps.switched = none ∧
    (let s := holding 0x08 [0] (linkUp (State.reset.setMaps { State.reset.maps with switched := some 0 }))
     s.maps.switched = some 0 ∧ s.work 0 = some (slipRec 0x08 [0])) := by
  refine ⟨rfl, rfl, rfl, rfl, ?_, rfl, rfl, rfl, rfl⟩
  simp [linkUp, State.setLink]

theorem witness_LatePullAbandonsTheAssembly : let s := linkUp (assembling (fetchingOf [2, 3]) airedLane)
    s.link.airRstN = true ∧ (∀ f, s.link.airData ≠ .sending f) ∧
    s.frames.assembler = .assembling (planOf [2, 3]) (fetchingOf [2, 3]) := by
  refine ⟨rfl, ?_, rfl⟩
  simp [linkUp, State.setLink]

theorem witness_PullInReadySendsTheFrame :
    let plan := { planOf [2] with alerts := [{ onAirAlert with state := .raised }] }
    let s := withAlert { onAirAlert with state := .raised }
      (linkUp (setAssembler (.ready plan (itemsOf []) [1]) (runningRegs airedLane)))
    s.link.airRstN = true ∧ (∀ f, s.link.airData ≠ .sending f) ∧ s.frames.assembler = .ready plan (itemsOf []) [1] ∧
    (∃ a ∈ activeAlerts s, a.state = .raised ∧ ∃ b ∈ plan.alerts, b.id = a.id) ∧
    (∃ a ∈ activeAlerts (withAlert { onAirAlert with state := .ending, endRecord := some 2 } s),
      freedBy (planOf [2]) a = true ∧ a.endRecord = some 2) ∧
    (holding 0x30 [9] s).work 0 = some (slipRec 0x30 [9]) ∧ (slipRec 0x30 [9]).wantsNotice = true ∧
    (∀ j ∈ s.store.jobs, j.record ≠ 3) := by
  refine ⟨rfl, ?_, rfl, by decide +kernel, by decide +kernel, rfl, by decide, by decide⟩
  simp [withAlert, setPlace, State.setAlerts, linkUp, State.setLink]

theorem witness_SendCommitsTheCarriageRecord :
    ((itemsOf []).lanes.map LaneCarriage.lane).Nodup ∧ (∀ lc ∈ (itemsOf []).lanes, lc.lane ≠ 3) ∧
    carriageLane 2 ∈ (itemsOf []).lanes ∧
    (let f : Fragment := ⟨none, 0x11, 1, 0, false, []⟩
     f.alert = none ∧ f.last = false ∧ (∃ m rest, twelveFrames.queue = m :: rest ∧ m.id = f.textId ∧ m.version = f.version) ∧
       (∀ m, TextState.fresh.queue.head? = some m → m.id ≠ f.textId ∨ m.version ≠ f.version)) := by
  refine ⟨by decide, by decide, List.mem_singleton.mpr rfl, rfl, rfl, ⟨_, _, rfl, rfl, rfl⟩, ?_⟩
  simp [TextState.fresh]

theorem witness_LastFetchSharesThePool : let s := assembling (fetchingOf [2]) airedLane
    s.frames.assembler = .assembling (planOf [2, 3]) (fetchingOf [2]) ∧ (fetchingOf [2]).stage = .fetching ∧
    (fetchingOf [2]).toFetch = [2] ∧ s.frames.stragglers = [] ∧
    ((planOf [2, 3]).lanes.map fun pl => pl.entry.lane).Nodup ∧ fetchAllowed (planOf [2, 3]) 2 s = true ∧
    fetchAllowed (planOf [2, 3]) 4 s = false :=
  ⟨rfl, rfl, rfl, rfl, by decide, rfl, by decide⟩

/-- Lane 4, outside the plan and UNUSED, is to be fetched beside lane 2. -/
theorem witness_LastFetchSharesThePool_unaired : let s := assembling (fetchingOf [2, 4]) airedLane
    s.frames.assembler = .assembling (planOf [2, 3]) (fetchingOf [2, 4]) ∧ (fetchingOf [2, 4]).stage = .fetching ∧
    s.frames.stragglers = [] ∧ (∀ pl ∈ (planOf [2, 3]).lanes, pl.entry.lane ≠ 4) ∧ (s.lane 4).state ≠ .ready ∧
    (4 : LaneId) ∈ (fetchingOf [2, 4]).toFetch ∧ ∃ k ∈ (fetchingOf [2, 4]).toFetch, k ≠ 4 :=
  ⟨rfl, rfl, rfl, by decide, by decide, by decide, 2, by decide, by decide⟩

theorem witness_PictureReadsAndCompletionEndAnAssembly :
    (assembling (itemsOf [2]) airedLane).frames.assembler = .assembling (planOf [2, 3]) (itemsOf [2]) ∧
    (itemsOf [2]).stage = .items ∧ (2 : LaneId) ∈ (itemsOf [2]).toRead ∧
    (assembling (itemsOf []) airedLane).frames.assembler = .assembling (planOf [2, 3]) (itemsOf []) ∧
    (itemsOf []).toRead = [] := ⟨rfl, rfl, by decide, rfl, rfl⟩

theorem itemsOf_fits : carriageFits (planOf [2]) (itemsOf []) := by
  refine ⟨?_, by decide, by decide⟩
  intro pl h
  obtain rfl : pl = planned 2 := by simpa [planOf] using h
  exact ⟨carriageLane 2, rfl, by decide, by decide⟩

theorem witness_EveryFormedFrameIsWhole :
    highestLevel ((activeAlerts (withAlert onAirAlert State.reset)).filter fun a => a.state = .onAir) 1 ∧
    carriageFits (planOf [2]) (itemsOf []) ∧ highestLevel (planOf [2]).alerts 0 ∧
    ((planOf [2]).lanes.map fun pl => pl.entry.lane).Nodup ∧
    (itemsOf []).lanes.map LaneCarriage.lane = (planOf [2]).lanes.map (fun pl => pl.entry.lane) ∧
    (itemsOf []).lane? 2 = some (carriageLane 2) ∧ (planOf [2]).lanes = [] ++ planned 2 :: [] := by
  refine ⟨⟨by decide, Or.inr (by decide)⟩, itemsOf_fits, ⟨by decide, Or.inl rfl⟩, by decide, by decide, rfl, rfl⟩

theorem witness_ResetsKeepTheStore :
    StoreSound (working (slotIn .dropping 0) (jobFor .drop (.erases [64])) (.erase 64)) ∧
    (Instr.powerOnReset = .powerOnReset ∨ ∃ run ms, Instr.powerOnReset = .softReset run ms) ∧
    (Instr.softReset true 5 = .powerOnReset ∨ ∃ run ms, Instr.softReset true 5 = .softReset run ms) :=
  ⟨rfl, Or.inl rfl, Or.inr ⟨true, 5, rfl⟩⟩

theorem witness_EveryStepKeepsControlStateSound :
    RunSound State.reset ∧ LinkSound State.reset ∧ AnchorSound State.reset ∧ step State.reset = .next State.reset :=
  ⟨⟨⟨fun _ => rfl, fun _ => rfl⟩, fun _ => rfl⟩, fun f h => by simp [State.reset] at h, rfl, rfl⟩

/-- Slot 1 READY and shown by a carousel entry of lane 2, with its one user. -/
def shownSlot : State :=
  (withSlot (slotIn .ready 1)).setLane 2 { readyLane with carousel := { Carousel.fresh with entries := [1] } }

theorem shownSlot_users : UsersSound shownSlot := by
  refine ⟨by decide +kernel, by decide, by decide +kernel, by decide⟩

/-- The job of work record 0 at its end, its directory write under way, with work record 1 dispatched behind it. -/
def endingJob : State :=
  let s := working (slotIn .erasing 0) { jobFor .opening (.erases []) with state := .ended } (.erase 64)
  beginDirWrite ⟨1, .toFilling, some ⟨0, 0, 64⟩⟩
    (dispatchTo .store 1 (fillRecord 1 (slipRec 0x21 []) (s.setStore { s.store with running := none })))

theorem endingJob_records : RecordsSound endingJob := by
  refine ⟨by decide +kernel, by decide +kernel, ?_, by decide +kernel, by decide +kernel, ?_⟩
  · rintro _ _ _ _ ⟨⟩
  · rintro _ _ ⟨⟩

theorem witness_EveryStepKeepsTheStoreCanonical :
    (let s := (working (slotIn .filling 0) (jobFor .writing (.programs [rep])) (.program 262144 [1, 2])).withPending
      [.pageProgramEnd]
     StoreSound s ∧ ∃ t, step s = .next t) ∧
    (UsersSound (shownSlot.withPending [.carSet]) ∧ ∃ t, step (shownSlot.withPending [.carSet]) = .next t) ∧
    RecordsSound (endingJob.withPending [.directoryWriteEnd]) ∧
    ∃ t, step (endingJob.withPending [.directoryWriteEnd]) = .next t :=
  ⟨⟨rfl, _, rfl⟩, ⟨shownSlot_users, _, rfl⟩, endingJob_records, _, rfl⟩

theorem smallMap_sound : smallMap.Sound := by
  refine ⟨by decide, by decide, by decide, by decide, by decide, by decide, ?_⟩
  rintro before e after h
  cases before with
  | nil =>
    obtain rfl : e = ⟨2, 4, 100, 2, 9⟩ := (List.cons.inj h).1.symm
    rfl
  | cons x xs => simp [smallMap] at h

/-- Lane 2 aired with an alert on air on it, and another map of the same lane to come. -/
def takenLane : State := withAlert onAirAlert (announced 16 airedLane)

theorem takenLane_maps : MapsSound takenLane := by
  have carried : smallMap.carries onAirAlert := by
    intro l h
    obtain rfl : l = 2 := by simpa [onAirAlert] using h
    exact ⟨⟨2, 4, 100, 2, 9⟩, by decide, by decide⟩
  refine ⟨smallMap_sound, ?_, ?_, by rintro p c ⟨⟩⟩
  · rintro p ⟨⟩
    exact ⟨smallMap_sound, by decide⟩
  · intro a h
    obtain rfl : a = onAirAlert := by
      have : activeAlerts takenLane = [onAirAlert] := by decide
      simpa [this] using h
    refine ⟨carried, ?_⟩
    rintro p ⟨⟩
    exact carried

/-- An assembly of the map of lane 2, at its side items. -/
def heldFrame : State := setAssembler (.assembling (planOf [2]) (itemsOf [2])) (runningRegs airedLane)

theorem heldFrame_maps : MapsSound heldFrame := by
  refine ⟨smallMap_sound, ?_, ?_, by rintro p c ⟨⟩; decide⟩
  · rintro p ⟨⟩
  · intro a h
    have none : activeAlerts heldFrame = [] := by decide
    exact absurd (none ▸ h) (List.not_mem_nil)

theorem witness_EveryStepKeepsTheMapsSound :
    (MapsSound takenLane ∧ ∃ t, step (takenLane.withPending [.runSet 0]) = .next t) ∧
    MapsSound heldFrame ∧ heldFrame.frames.assembler.held = some (planOf [2], itemsOf [2]) ∧
    ∃ t, step (heldFrame.withPending [.pictureDataRead 2]) = .next t :=
  ⟨⟨takenLane_maps, _, rfl⟩, heldFrame_maps, rfl, _, rfl⟩

theorem heldFrame_log : LogSound heldFrame := by
  refine ⟨by decide, by decide, ?_, by decide, by decide, ?_, trivial⟩
  · intro e h
    cases h
  · intro l f
    cases f <;> revert l <;> decide +kernel

theorem heldFrame_frame : FrameSound heldFrame := by
  rintro p c ⟨⟩
  refine ⟨rfl, rfl, by decide, ?_, ?_, fun _ => ⟨itemsOf_fits, by decide, ?_⟩, ?_⟩
  · intro pl h id a l k
    obtain rfl : pl = planned 2 := by simpa [planOf] using h
    cases k
  · intro f h
    cases h
  · intro pl h lc k
    obtain rfl : pl = planned 2 := by simpa [planOf] using h
    obtain rfl : carriageLane 2 = lc := Option.some.inj k
    exact ⟨by decide, by decide, by decide, by decide, by decide⟩
  · rintro frame ⟨⟩

theorem witness_EveryStepKeepsCreditsWithinTheCeiling :
    CreditSound (airedLane.setLane 2 { readyLane with credit := 2048 }) ∧ MapsSound heldFrame ∧ LogSound heldFrame ∧
    CreditSound heldFrame ∧ FrameSound heldFrame ∧ ∃ t, step (heldFrame.withPending [.pictureDataRead 2]) = .next t := by
  refine ⟨⟨by decide +kernel, ?_⟩, heldFrame_maps, heldFrame_log, ⟨by decide +kernel, ?_⟩, heldFrame_frame, _, rfl⟩
  · intro p c h
    cases h
  · rintro p c ⟨⟩
    exact ⟨rfl, by decide⟩

theorem witness_EveryStepKeepsTheRestoreLogTrue :
    let s := withAlert onAirAlert (State.reset.setLane 2 { readyLane with textFrom := .alert 9 })
    LogSound (s.setAlerts { s.alerts with log := [⟨9, 2, .text, .own⟩] }) := by
  refine ⟨by decide, by decide, ?_, by decide, by decide, ?_, ⟨rfl, trivial⟩⟩
  · intro e he
    obtain rfl : e = ⟨9, 2, .text, .own⟩ := by simpa using he
    exact ⟨onAirAlert, by decide, rfl, by decide, by decide, by decide⟩
  · intro l f
    cases f <;> revert l <;> decide +kernel

end Sys2Proof.Tests
end

/-! ## Proofs: credit accrual (R75) and piece filling (R83)

Each branch of `accrue` has its equation. Piece filling is reduced to one recursion: `fillPieces_eq_cons` lays the next piece
and goes on with the cells and bytes left, the bound on the number of pieces being gone; the induction over an airing and the
steps of O25 follow from it. -/

section
namespace Sys2Proof.Machine

/-! ### The branches of the accrual -/

theorem accrue_of_urgent (p : Nat) {x : PoolLane} (hu : x.urgent = true) : accrue p x = x := by
  simp [accrue, hu]

theorem accrue_of_demand_zero (p : Nat) {x : PoolLane} (hu : x.urgent = false) (hd : x.demand = 0) :
    accrue p x = { x with credit := 0 } := by
  simp [accrue, hu, hd]

theorem accrue_of_within {p : Nat} {x : PoolLane} (hu : x.urgent = false) (hd : 0 < x.demand)
    (hs : x.credit + x.share * p ≤ x.burst * 1024) :
    accrue p x = { x with credit := x.credit + x.share * p, saturated := false } := by
  simp [accrue, hu, hd.ne', hs]

theorem accrue_of_over {p : Nat} {x : PoolLane} (hu : x.urgent = false) (hd : 0 < x.demand)
    (hs : x.burst * 1024 < x.credit + x.share * p) :
    accrue p x = { x with credit := x.burst * 1024, saturated := true } := by
  simp [accrue, hu, hd.ne', hs, hs.le]

/-- Settles O24: each clause is a branch of the accrual, and the bounds are those of the largest share, pool and credit. -/
theorem accrualRaisesAndClampsCredit : Obligations.AccrualRaisesAndClampsCredit := by
  intro p x fresh
  refine ⟨accrue_of_urgent p, accrue_of_demand_zero p, fun hu hd hs => ?_, accrue_of_over, fun hu hd h0 hc => ?_,
    fun hshare hpool hcredit => ?_⟩
  · rw [accrue_of_within hu hd hs, ← fresh]
  · rw [accrue_of_within hu hd (by simpa [h0] using hc)]
    simp [h0]
  · have product : x.share * p ≤ 1023 * 1191 := Nat.mul_le_mul hshare hpool
    omega

/-! ### The cells and bytes of one piece -/

theorem pieceCells_le_cells (c b : Nat) : pieceCells c b ≤ c :=
  (Nat.min_le_right _ _).trans (Nat.min_le_left _ _)

theorem pieceCells_le_sixteen (c b : Nat) : pieceCells c b ≤ 16 := Nat.min_le_left _ _

theorem pieceCells_pos {c : Nat} (hc : 0 < c) (b : Nat) : 0 < pieceCells c b := by
  unfold pieceCells ceilDiv
  omega

theorem pieceBytes_pos {c b : Nat} (hc : 0 < c) (hb : 0 < b) : 0 < pieceBytes c b := by
  have := pieceCells_pos hc b
  unfold pieceBytes
  omega

theorem pieceBytes_le (c b : Nat) : pieceBytes c b ≤ 248 := by
  have := pieceCells_le_sixteen c b
  unfold pieceBytes
  omega

/-- One cell has room for 8 data bytes, so that a piece stays below that only where the airing ends in it. -/
theorem pieceBytes_eq_of_lt_eight {c b : Nat} (hc : 0 < c) (h : pieceBytes c b < 8) : pieceBytes c b = b := by
  have := pieceCells_pos hc b
  unfold pieceBytes at h ⊢
  omega

@[simp] theorem storeRead_length (m : List Host.Cell) (a n : Nat) : (storeRead m a n).length = n := by
  simp [storeRead]

theorem storeRead_getD (m : List Host.Cell) (a : Nat) {n i : Nat} (h : i < n) :
    (storeRead m a n).getD i 0 = storeByte m (a + i) := by
  simp [storeRead, h]

/-- The header is 8 bytes long, so that what is left of the cells after the data is zero bytes. -/
theorem pieceCellsBytes_eq (q : Piece) : pieceCellsBytes q =
    [0x30, BitVec.ofNat 8 q.slot.val, q.version, BitVec.ofNat 8 (q.first.toNat + 2 * q.last.toNat)] ++
      beBytes 3 q.offset ++ [BitVec.ofNat 8 q.data.length] ++ q.data ++
      List.replicate (16 * q.cells - 8 - q.data.length) 0 := by
  have flags : flagBits [q.first, q.last] = q.first.toNat + 2 * q.last.toNat := by simp [flagBits]
  have header (f : Byte) : ([0x30, BitVec.ofNat 8 q.slot.val, q.version, f] ++ beBytes 3 q.offset ++
      [BitVec.ofNat 8 q.data.length]).length = 8 := rfl
  rw [pieceCellsBytes, flags, padTo, List.length_append, header, Nat.sub_sub]

/-! ### The recursion of piece filling -/

/-- The piece that filling lays next with `c` cells and `b` bytes left from offset `off`. -/
def nextPiece (contents : List Host.Cell) (base : Nat) (slot : SlotId) (version : Byte) (c b off : Nat) : Piece :=
  { slot := slot, version := version, offset := off, cells := pieceCells c b,
    data := storeRead contents (base + off) (pieceBytes c b), first := decide (off = 0),
    last := decide (pieceBytes c b = b) }

@[simp] theorem nextPiece_cells (contents : List Host.Cell) (base : Nat) (slot : SlotId) (version : Byte) (c b off : Nat) :
    (nextPiece contents base slot version c b off).cells = pieceCells c b := rfl

@[simp] theorem nextPiece_data_length (contents : List Host.Cell) (base : Nat) (slot : SlotId) (version : Byte)
    (c b off : Nat) : (nextPiece contents base slot version c b off).data.length = pieceBytes c b := storeRead_length _ _ _

@[simp] theorem nextPiece_last_iff (contents : List Host.Cell) (base : Nat) (slot : SlotId) (version : Byte)
    (c b off : Nat) : (nextPiece contents base slot version c b off).last = true ↔ pieceBytes c b = b := decide_eq_true_iff

section
variable (contents : List Host.Cell) (base : Nat) (slot : SlotId) (version : Byte)

theorem fillPieces_of_done (n : Nat) {c b : Nat} (h : c = 0 ∨ b = 0) (off : Nat) :
    fillPieces contents base slot version n c b off = [] := by
  cases n with
  | zero => rfl
  | succ n => rw [fillPieces, if_pos h]

theorem fillPieces_succ (n : Nat) {c b : Nat} (hc : 0 < c) (hb : 0 < b) (off : Nat) :
    fillPieces contents base slot version (n + 1) c b off =
      nextPiece contents base slot version c b off ::
        fillPieces contents base slot version n (c - pieceCells c b) (b - pieceBytes c b) (off + pieceBytes c b) := by
  rw [fillPieces, if_neg (by omega)]
  rfl

/-- Every piece has a cell, so that a bound of at least the cells left does not cut the filling. -/
theorem fillPieces_eq_of_le (n m c b off : Nat) (hn : c ≤ n) (hm : c ≤ m) :
    fillPieces contents base slot version n c b off = fillPieces contents base slot version m c b off := by
  induction n generalizing m c b off with
  | zero => rw [fillPieces_of_done _ _ _ _ 0 (by omega), fillPieces_of_done _ _ _ _ m (by omega)]
  | succ n ih =>
    by_cases done : c = 0 ∨ b = 0
    · rw [fillPieces_of_done _ _ _ _ _ done, fillPieces_of_done _ _ _ _ _ done]
    · have hc : 0 < c := by omega
      have hb : 0 < b := by omega
      obtain ⟨m, rfl⟩ : ∃ k, m = k + 1 := ⟨m - 1, by omega⟩
      have := pieceCells_pos hc b
      rw [fillPieces_succ _ _ _ _ n hc hb, fillPieces_succ _ _ _ _ m hc hb, ih m _ _ _ (by omega) (by omega)]

theorem fillPieces_eq_cons {c b : Nat} (hc : 0 < c) (hb : 0 < b) (off : Nat) :
    fillPieces contents base slot version c c b off =
      nextPiece contents base slot version c b off ::
        fillPieces contents base slot version (c - pieceCells c b) (c - pieceCells c b) (b - pieceBytes c b)
          (off + pieceBytes c b) := by
  have := pieceCells_pos hc b
  obtain ⟨n, rfl⟩ : ∃ k, c = k + 1 := ⟨c - 1, by omega⟩
  rw [fillPieces_succ _ _ _ _ n hc hb, fillPieces_eq_of_le _ _ _ _ n _ _ _ _ (by omega) le_rfl]

/-- Each piece filled is the next piece at some place of the filling, with cells and bytes left there. -/
theorem mem_fillPieces {n c b off : Nat} {q : Piece} (h : q ∈ fillPieces contents base slot version n c b off) :
    ∃ c' b' off', 0 < c' ∧ 0 < b' ∧ q = nextPiece contents base slot version c' b' off' := by
  induction n generalizing c b off with
  | zero => cases h
  | succ n ih =>
    by_cases done : c = 0 ∨ b = 0
    · rw [fillPieces_of_done _ _ _ _ _ done] at h
      cases h
    · have hc : 0 < c := by omega
      have hb : 0 < b := by omega
      rw [fillPieces_succ _ _ _ _ n hc hb] at h
      rcases List.mem_cons.mp h with rfl | later
      · exact ⟨c, b, off, hc, hb, rfl⟩
      · exact ih later

/-! ### The cells needed to finish (R71) -/

/-- One piece finishes up to 248 bytes. -/
theorem piece_of_cellsToFinish_le {b : Nat} (hb : 0 < b) (h : b ≤ 248) :
    pieceCells (cellsToFinish b) b = cellsToFinish b ∧ pieceBytes (cellsToFinish b) b = b := by
  have cells : cellsToFinish b = (b + 8 + 15) / 16 := by
    unfold cellsToFinish ceilDiv
    split <;> omega
  unfold pieceBytes pieceCells ceilDiv
  omega

/-- More than 248 bytes need a full piece and the cells for the rest. -/
theorem piece_of_cellsToFinish_gt {b : Nat} (h : 248 < b) :
    pieceCells (cellsToFinish b) b = 16 ∧ pieceBytes (cellsToFinish b) b = 248 ∧
      cellsToFinish b = 16 + cellsToFinish (b - 248) := by
  have rest : cellsToFinish b = 16 + cellsToFinish (b - 248) := by
    have same : (b - 248) % 248 = b % 248 := (Nat.mod_eq_sub_mod h.le).symm
    unfold cellsToFinish
    rw [same]
    omega
  unfold pieceBytes pieceCells ceilDiv
  omega

theorem cellsToFinish_pos {b : Nat} (hb : 0 < b) : 0 < cellsToFinish b := by
  unfold cellsToFinish ceilDiv
  split <;> omega

/-- Full pieces of 248 bytes are laid until at most that many bytes are left, and the last piece takes these. -/
theorem fillPieces_cellsToFinish {b : Nat} (hb : 0 < b) (off : Nat) :
    let ps := fillPieces contents base slot version (cellsToFinish b) (cellsToFinish b) b off
    (ps.map Piece.cells).sum = cellsToFinish b ∧ (ps.map fun q => q.data.length).sum = b ∧ anyLast ps = true := by
  induction b using Nat.strong_induction_on generalizing off with
  | _ b ih =>
    rw [fillPieces_eq_cons _ _ _ _ (cellsToFinish_pos hb) hb]
    by_cases one : b ≤ 248
    · obtain ⟨cells, bytes⟩ := piece_of_cellsToFinish_le hb one
      rw [cells, bytes, fillPieces_of_done _ _ _ _ _ (by omega)]
      simp [anyLast, cells, bytes]
    · obtain ⟨cells, bytes, more⟩ := piece_of_cellsToFinish_gt (b := b) (by omega)
      have left : cellsToFinish b - 16 = cellsToFinish (b - 248) := by omega
      obtain ⟨sumCells, sumBytes, last⟩ := ih (b - 248) (by omega) (by omega) (off + 248)
      rw [cells, bytes, left]
      simp only [List.map_cons, List.sum_cons, nextPiece_cells, nextPiece_data_length, sumCells, sumBytes, cells, bytes]
      refine ⟨more.symm, by omega, ?_⟩
      rw [anyLast, List.any_cons, ← anyLast, last, Bool.or_true]
end

/-- Settles O25: the steps are the recursion of `fillPieces`, the bounds those of one piece, and the cells needed to finish
are used up by induction over full pieces. -/
theorem pieceFillingFollowsItsSteps : Obligations.PieceFillingFollowsItsSteps := by
  intro contents base slot version c b off fill
  refine ⟨fun done => fillPieces_of_done _ _ _ _ c done off, fun hc hb => ?_, fun q hq => ?_, ?_⟩
  · refine ⟨nextPiece contents base slot version c b off, rfl, nextPiece_data_length _ _ _ _ _ _ _, fun i hi => ?_,
      rfl, rfl, rfl, decide_eq_true_iff, ?_, ?_⟩
    · exact storeRead_getD _ _ (nextPiece_data_length _ _ _ _ _ _ _ ▸ hi)
    · rw [nextPiece_last_iff, nextPiece_data_length]
    · rw [nextPiece_data_length]
      exact fillPieces_eq_cons _ _ _ _ hc hb off
  · obtain ⟨c', b', off', hc, hb, rfl⟩ := mem_fillPieces _ _ _ _ hq
    rw [nextPiece_last_iff, nextPiece_data_length, nextPiece_cells]
    exact ⟨pieceCells_pos hc b', pieceCells_le_sixteen c' b', pieceBytes_pos hc hb, pieceBytes_le c' b',
      pieceBytes_eq_of_lt_eight hc, by rw [pieceCellsBytes_eq, nextPiece_data_length, nextPiece_cells]⟩
  · rintro hb rfl
    exact fillPieces_cellsToFinish _ _ _ _ hb off

end Sys2Proof.Machine
end

/-! ## Proofs: the end of a text airing (R98)

The commit of the LAST fragment of an unchanged head is `endTextAiring` with the pacing count at 1 (R97). What that does to the
queue is `queueAfterAiring_eq`, and to the toggle one equation for an empty queue and one for a queue with a head. -/

section
namespace Sys2Proof.Machine

/-! ### The queue and the toggle at the end of an airing -/

/-- An airings count of 255 stays at 255 (R87). -/
theorem satIncByte_eq (c : Byte) : satIncByte c = if c = 255 then 255 else c + 1 := by
  unfold satIncByte
  split
  next full => exact full
  next => rfl

/-- The message whose airing has ended stays as it was but for its airings done, and goes to the tail or leaves (R98 steps 1
and 2). -/
theorem queueAfterAiring_eq (m : Message) (rest : List Message) :
    queueAfterAiring m rest =
      let done : Message := { m with airings := if m.airings = 255 then 255 else m.airings + 1 }
      if m.repeats = 255 ∨ done.airings.toNat < m.repeats.toNat + 1 then rest ++ [done] else rest := by
  rw [queueAfterAiring, satIncByte_eq]

/-- Alone in its queue, the message whose airing has ended is followed by nothing or by itself. -/
theorem head_queueAfterAiring_alone {m n : Message} {tail : List Message} (h : queueAfterAiring m [] = n :: tail) :
    n.id = m.id ∧ n.version = m.version := by
  simp only [queueAfterAiring] at h
  split at h
  · obtain ⟨rfl, -⟩ := List.cons.inj h
    exact ⟨rfl, rfl⟩
  · cases h

section
variable {t : TextState} {m : Message} {rest : List Message} (hq : t.queue = m :: rest)
include hq

/-- The end of an airing changes the queue, the position and the toggle, and no other field. -/
theorem endTextAiring_eq : endTextAiring t =
    { t with queue := queueAfterAiring m rest, position := 0, toggle := (endTextAiring t).toggle } := by
  rw [endTextAiring, hq]

theorem endTextAiring_toggle_of_emptied (left : queueAfterAiring m rest = []) : (endTextAiring t).toggle = t.toggle := by
  simp only [endTextAiring, hq, left]

theorem endTextAiring_toggle_of_head {n : Message} {tail : List Message} (left : queueAfterAiring m rest = n :: tail) :
    (endTextAiring t).toggle = if n.id ≠ m.id ∨ n.version ≠ m.version then !t.toggle else t.toggle := by
  simp only [endTextAiring, hq, left]

/-- The LAST fragment of the lane's own head, sent with the head unchanged, ends the airing (R97). -/
theorem commitText_of_last {f : Fragment} (own : f.alert = none) (id : f.textId = m.id) (version : f.version = m.version)
    (last : f.last = true) : commitText (some f) t = { endTextAiring t with pacing := 1 } := by
  have unchanged : headMatches f t = true := by simp [headMatches, hq, id, version]
  simp [commitText, commitFragment, own, unchanged, last]
end

theorem endTextAiring_toggle_of_alone {t : TextState} {m : Message} (hq : t.queue = [m]) :
    (endTextAiring t).toggle = t.toggle := by
  cases left : queueAfterAiring m [] with
  | nil => exact endTextAiring_toggle_of_emptied hq left
  | cons n tail =>
    obtain ⟨id, version⟩ := head_queueAfterAiring_alone left
    rw [endTextAiring_toggle_of_head hq left, if_neg (by simp [id, version])]

/-- A lane's own text is due when its queue holds a message and its pacing count has reached the pace (R95). -/
theorem ownFragment_isSome_iff (pace : Nat) (t : TextState) :
    (ownFragment pace t).isSome = true ↔ t.queue ≠ [] ∧ pace ≤ t.pacing := by
  unfold ownFragment
  split
  next empty => simp [empty]
  next m rest held => simp [held]

/-- Settles O29: the commit is the end of the airing, whose queue and toggle have their equations; the toggle goes by the
head that is left, and the pacing count of 1 makes that head due at pace 1. -/
theorem endOfATextAiringMovesTheQueueOn : Obligations.EndOfATextAiringMovesTheQueueOn := by
  intro t m rest f hq own id version last done u
  have ended : u = { endTextAiring t with pacing := 1 } := commitText_of_last hq own id version last
  have fields : u = { t with
      queue := queueAfterAiring m rest, position := 0, toggle := (endTextAiring t).toggle, pacing := 1 } := by
    rw [ended, endTextAiring_eq hq]
  have queue : u.queue = queueAfterAiring m rest := by rw [fields]
  have toggle : u.toggle = (endTextAiring t).toggle := by rw [fields]
  have pacing : u.pacing = 1 := by rw [fields]
  refine ⟨queue.trans (queueAfterAiring_eq m rest), by rw [fields], ?_, ?_, pacing, by rw [fields], by rw [fields],
    by rw [fields], fun held => (ownFragment_isSome_iff 1 u).mpr ⟨held, pacing.ge⟩⟩
  · rw [toggle, queue]
    cases left : queueAfterAiring m rest with
    | nil => exact endTextAiring_toggle_of_emptied hq left
    | cons n tail => exact endTextAiring_toggle_of_head hq left
  · rintro rfl
    exact toggle.trans (endTextAiring_toggle_of_alone hq)

end Sys2Proof.Machine
end

/-! ## Proofs: what each operation touches

Every invariant and every frame condition asks which fields of the state an operation leaves alone. `Aspect` names the fields
one by one, `touches` says that nothing outside a list of them changes and that posted writes are only added, and each shared
operation has one lemma that gives its list. The list of a composed operation is put together from those of its parts. -/

section
namespace Sys2Proof.Machine

/-! ### Aspects of the state -/

/-- The fields of the state, one name each; those of a lane stand for that field of every lane. -/
inductive Aspect where
  | run | sweepMs | anchor | notice | noticeEn
  | sweep | sweepCursor | owed | timer | records
  | laneState | pageA | pageB | pageSize | pace | audioFrom | textFrom | pictureFrom | credit | saturation | feed | laneText | carousel | counts
  | active | generation | upcoming | mapChecking | switched | laneSlips | mapLoads
  | counter | voidCount | assembler | stragglers
  | airRstN | airData | poolCursor
  | textQueue | putting | carouselQueue
  | contents | stored | slotRecords | slotUsers | loaded | storeQueue | jobs | running | recovery | hold | dirWrites
  | places | log | alertQueue | raiseChecking
  | posted | ran | draws | pending
  deriving DecidableEq

/-- Two lane records agree on an aspect; nothing is asked for an aspect that is not a lane's. -/
def Aspect.laneSame (x y : Lane) : Aspect → Prop
  | .laneState => y.state = x.state
  | .pageA => y.pageA = x.pageA
  | .pageB => y.pageB = x.pageB
  | .pageSize => y.pageSize = x.pageSize
  | .pace => y.pace = x.pace
  | .audioFrom => y.audioFrom = x.audioFrom
  | .textFrom => y.textFrom = x.textFrom
  | .pictureFrom => y.pictureFrom = x.pictureFrom
  | .credit => y.credit = x.credit
  | .saturation => y.saturation = x.saturation
  | .feed => y.feed = x.feed
  | .laneText => y.text = x.text
  | .carousel => y.carousel = x.carousel
  | .counts => y.counts = x.counts
  | _ => True

/-- Two states agree on an aspect. -/
def Aspect.same (s t : State) : Aspect → Prop
  | .run => t.regs.run = s.regs.run
  | .sweepMs => t.regs.sweepMs = s.regs.sweepMs
  | .anchor => t.regs.anchor = s.regs.anchor
  | .notice => t.regs.notice = s.regs.notice
  | .noticeEn => t.regs.noticeEn = s.regs.noticeEn
  | .sweep => t.reader.sweep = s.reader.sweep
  | .sweepCursor => t.reader.cursor = s.reader.cursor
  | .owed => t.reader.owed = s.reader.owed
  | .timer => t.reader.timer = s.reader.timer
  | .records => t.reader.records = s.reader.records
  | .laneState => ∀ l, Aspect.laneSame (s.lane l) (t.lane l) .laneState
  | .pageA => ∀ l, Aspect.laneSame (s.lane l) (t.lane l) .pageA
  | .pageB => ∀ l, Aspect.laneSame (s.lane l) (t.lane l) .pageB
  | .pageSize => ∀ l, Aspect.laneSame (s.lane l) (t.lane l) .pageSize
  | .pace => ∀ l, Aspect.laneSame (s.lane l) (t.lane l) .pace
  | .audioFrom => ∀ l, Aspect.laneSame (s.lane l) (t.lane l) .audioFrom
  | .textFrom => ∀ l, Aspect.laneSame (s.lane l) (t.lane l) .textFrom
  | .pictureFrom => ∀ l, Aspect.laneSame (s.lane l) (t.lane l) .pictureFrom
  | .credit => ∀ l, Aspect.laneSame (s.lane l) (t.lane l) .credit
  | .saturation => ∀ l, Aspect.laneSame (s.lane l) (t.lane l) .saturation
  | .feed => ∀ l, Aspect.laneSame (s.lane l) (t.lane l) .feed
  | .laneText => ∀ l, Aspect.laneSame (s.lane l) (t.lane l) .laneText
  | .carousel => ∀ l, Aspect.laneSame (s.lane l) (t.lane l) .carousel
  | .counts => ∀ l, Aspect.laneSame (s.lane l) (t.lane l) .counts
  | .active => t.maps.active = s.maps.active
  | .generation => t.maps.generation = s.maps.generation
  | .upcoming => t.maps.upcoming = s.maps.upcoming
  | .mapChecking => t.maps.checking = s.maps.checking
  | .switched => t.maps.switched = s.maps.switched
  | .laneSlips => t.maps.laneSlips = s.maps.laneSlips
  | .mapLoads => t.maps.mapLoads = s.maps.mapLoads
  | .counter => t.frames.counter = s.frames.counter
  | .voidCount => t.frames.voidCount = s.frames.voidCount
  | .assembler => t.frames.assembler = s.frames.assembler
  | .stragglers => t.frames.stragglers = s.frames.stragglers
  | .airRstN => t.link.airRstN = s.link.airRstN
  | .airData => t.link.airData = s.link.airData
  | .poolCursor => t.cursor = s.cursor
  | .textQueue => t.text.queue = s.text.queue
  | .putting => t.text.putting = s.text.putting
  | .carouselQueue => t.carousels = s.carousels
  | .contents => t.store.contents = s.store.contents
  | .stored => t.store.stored = s.store.stored
  | .slotRecords => ∀ i, (t.slot i).record = (s.slot i).record
  | .slotUsers => ∀ i, (t.slot i).users = (s.slot i).users
  | .loaded => t.store.loaded = s.store.loaded
  | .storeQueue => t.store.queue = s.store.queue
  | .jobs => t.store.jobs = s.store.jobs
  | .running => t.store.running = s.store.running
  | .recovery => t.store.recovery = s.store.recovery
  | .hold => t.store.hold = s.store.hold
  | .dirWrites => t.store.dirWrites = s.store.dirWrites
  | .places => t.alerts.places = s.alerts.places
  | .log => t.alerts.log = s.alerts.log
  | .alertQueue => t.alerts.queue = s.alerts.queue
  | .raiseChecking => t.alerts.checking = s.alerts.checking
  | .posted => t.posted = s.posted
  | .ran => t.ran = s.ran
  | .draws => t.draws = s.draws
  | .pending => t.pending = s.pending

/-- From `s` to `t` nothing changes but the aspects of the list, and of what was posted nothing is taken back. -/
def touches (changed : List Aspect) (s t : State) : Prop :=
  (∀ a, a ∉ changed → a.same s t) ∧ ∃ more, t.posted = s.posted ++ more

theorem Aspect.laneSame_refl (a : Aspect) (x : Lane) : a.laneSame x x := by
  cases a <;> first | rfl | trivial

theorem Aspect.laneSame_trans {a : Aspect} {x y z : Lane} (h : a.laneSame x y) (k : a.laneSame y z) : a.laneSame x z := by
  cases a <;> first | exact Eq.trans k h | trivial

theorem Aspect.same_refl (a : Aspect) (s : State) : a.same s s := by
  cases a <;> first | rfl | exact fun _ => rfl

theorem Aspect.same_trans {a : Aspect} {s t u : State} (h : a.same s t) (k : a.same t u) : a.same s u := by
  cases a <;> first | exact Eq.trans k h | exact fun i => Eq.trans (k i) (h i)

theorem touches_refl (changed : List Aspect) (s : State) : touches changed s s :=
  ⟨fun a _ => a.same_refl s, [], by simp⟩

/-- Operations one after the other touch what either touches. -/
theorem touches.trans {xs ys zs : List Aspect} {s t u : State} (h : touches xs s t) (k : touches ys t u)
    (hx : xs ⊆ zs := by decide) (hy : ys ⊆ zs := by decide) : touches zs s u := by
  obtain ⟨same, more, posted⟩ := h
  obtain ⟨same', more', posted'⟩ := k
  refine ⟨fun a ha => Aspect.same_trans (same a fun m => ha (hx m)) (same' a fun m => ha (hy m)), more ++ more', ?_⟩
  rw [posted', posted, List.append_assoc]

theorem touches.mono {xs ys : List Aspect} {s t : State} (h : touches xs s t) (sub : xs ⊆ ys := by decide) :
    touches ys s t := ⟨fun a ha => h.1 a fun m => ha (sub m), h.2⟩

/-- What every step of a fold touches, the fold touches. -/
theorem touches_foldl {α : Type} {xs : List Aspect} {f : State → α → State} (step : ∀ s a, touches xs s (f s a)) (as : List α)
    (s : State) : touches xs s (as.foldl f s) :=
  foldl_keeps (fun t => touches xs s t) f (fun t a h => h.trans (step t a) (List.Subset.refl _) (List.Subset.refl _)) as s
    (touches_refl xs s)

/-- Either branch of a condition touches the list. -/
theorem touches_ite {xs : List Aspect} {s t u : State} {c : Prop} [Decidable c] (h : c → touches xs s t)
    (k : ¬ c → touches xs s u) : touches xs s (if c then t else u) := by
  split
  next yes => exact h yes
  next no => exact k no

theorem touches.same {xs : List Aspect} {s t : State} (h : touches xs s t) (a : Aspect) (ha : a ∉ xs := by decide) :
    a.same s t := h.1 a ha

/-! ### From aspects to parts -/

/-- The part of the state that an aspect belongs to. -/
def Aspect.part : Aspect → Part
  | .run | .sweepMs | .anchor | .notice | .noticeEn => .regs
  | .sweep | .sweepCursor | .owed | .timer | .records => .reader
  | .laneState | .pageA | .pageB | .pageSize | .pace | .audioFrom | .textFrom | .pictureFrom | .credit
  | .saturation | .feed | .laneText | .carousel | .counts => .lanes
  | .active | .generation | .upcoming | .mapChecking | .switched | .laneSlips | .mapLoads => .maps
  | .counter | .voidCount | .assembler | .stragglers => .frames
  | .airRstN | .airData => .link
  | .poolCursor => .cursor
  | .textQueue | .putting => .text
  | .carouselQueue => .carousels
  | .contents | .stored | .slotRecords | .slotUsers | .loaded | .storeQueue | .jobs | .running | .recovery | .hold
  | .dirWrites => .store
  | .places | .log | .alertQueue | .raiseChecking => .alerts
  | .posted => .posted
  | .ran => .ran
  | .draws => .draws
  | .pending => .pending

theorem lanes_eq_of_lane {s t : State} (h : ∀ l, t.lane l = s.lane l) : t.lanes = s.lanes :=
  Vector.ext fun i hi => h ⟨i, hi⟩

theorem slots_eq_of_slot {s t : State} (h : ∀ i, t.slot i = s.slot i) : t.store.slots = s.store.slots :=
  Vector.ext fun i hi => h ⟨i, hi⟩

theorem lane_eq_of_same {x y : Lane} (h : ∀ a : Aspect, a.laneSame x y) : y = x := by
  show Lane.mk y.state y.pageA y.pageB y.pageSize y.pace y.audioFrom y.textFrom y.pictureFrom y.credit y.saturation y.feed
    y.text y.carousel y.counts = x
  rw [h .laneState, h .pageA, h .pageB, h .pageSize, h .pace, h .audioFrom, h .textFrom, h .pictureFrom, h .credit,
    h .saturation, h .feed, h .laneText, h .carousel, h .counts]

/-- Two states agree on a part when they agree on all its aspects. -/
theorem Part.same_of_aspects {s t : State} (p : Part) (h : ∀ a : Aspect, a.part = p → a.same s t) : p.same s t := by
  cases p
  case lanes =>
    refine lanes_eq_of_lane fun l => lane_eq_of_same fun a => ?_
    have := h a
    cases a <;> first | exact this rfl l | trivial
  case store =>
    have slots : t.store.slots = s.store.slots := slots_eq_of_slot fun i => by
      have record : (t.slot i).record = (s.slot i).record := h .slotRecords rfl i
      have users : (t.slot i).users = (s.slot i).users := h .slotUsers rfl i
      show Slot.mk (t.slot i).record (t.slot i).users = s.slot i
      rw [record, users]
    show Store.mk t.store.contents t.store.stored t.store.slots t.store.loaded t.store.queue t.store.jobs t.store.running
      t.store.recovery t.store.hold t.store.dirWrites = s.store
    rw [slots, h .contents rfl, h .stored rfl, h .loaded rfl, h .storeQueue rfl, h .jobs rfl, h .running rfl,
      h .recovery rfl, h .hold rfl, h .dirWrites rfl]
  case regs =>
    show Registers.mk t.regs.anchor t.regs.run t.regs.sweepMs t.regs.notice t.regs.noticeEn = s.regs
    rw [h .anchor rfl, h .run rfl, h .sweepMs rfl, h .notice rfl, h .noticeEn rfl]
  case reader =>
    show Reader.mk t.reader.sweep t.reader.cursor t.reader.owed t.reader.timer t.reader.records = s.reader
    rw [h .sweep rfl, h .sweepCursor rfl, h .owed rfl, h .timer rfl, h .records rfl]
  case maps =>
    show MapControl.mk t.maps.active t.maps.generation t.maps.upcoming t.maps.checking t.maps.switched t.maps.laneSlips
      t.maps.mapLoads = s.maps
    rw [h .active rfl, h .generation rfl, h .upcoming rfl, h .mapChecking rfl, h .switched rfl, h .laneSlips rfl,
      h .mapLoads rfl]
  case frames =>
    show FrameControl.mk t.frames.counter t.frames.voidCount t.frames.assembler t.frames.stragglers = s.frames
    rw [h .counter rfl, h .voidCount rfl, h .assembler rfl, h .stragglers rfl]
  case link =>
    show Link.mk t.link.airRstN t.link.airData = s.link
    rw [h .airRstN rfl, h .airData rfl]
  case text =>
    show TextEngine.mk t.text.queue t.text.putting = s.text
    rw [h .textQueue rfl, h .putting rfl]
  case alerts =>
    show AlertControl.mk t.alerts.places t.alerts.log t.alerts.queue t.alerts.checking = s.alerts
    rw [h .places rfl, h .log rfl, h .alertQueue rfl, h .raiseChecking rfl]
  case cursor => exact h .poolCursor rfl
  case carousels => exact h .carouselQueue rfl
  case posted => exact h .posted rfl
  case ran => exact h .ran rfl
  case draws => exact h .draws rfl
  case pending => exact h .pending rfl

/-- An operation changes only the parts whose aspects it touches. -/
theorem touches.changesOnly {xs : List Aspect} {s t : State} (h : touches xs s t) {ps : List Part}
    (sub : xs.map Aspect.part ⊆ ps := by decide) : changesOnly ps s t := fun p hp =>
  p.same_of_aspects fun _ ha => h.1 _ fun m => hp (sub (ha ▸ List.mem_map_of_mem m))

/-! ### Blocks of which only some fields are touched -/

theorem touches.regs_notice {xs : List Aspect} {s t : State} (h : touches xs s t)
    (away : ∀ a ∈ [Aspect.run, .sweepMs, .anchor, .noticeEn], a ∉ xs := by decide) :
    t.regs = { s.regs with notice := t.regs.notice } := by
  show Registers.mk t.regs.anchor t.regs.run t.regs.sweepMs t.regs.notice t.regs.noticeEn = _
  rw [h.same .anchor (away _ (by decide)), h.same .run (away _ (by decide)), h.same .sweepMs (away _ (by decide)),
    h.same .noticeEn (away _ (by decide))]

theorem touches.reader_records {xs : List Aspect} {s t : State} (h : touches xs s t)
    (away : ∀ a ∈ [Aspect.sweep, .sweepCursor, .owed, .timer], a ∉ xs := by decide) :
    t.reader = { s.reader with records := t.reader.records } := by
  show Reader.mk t.reader.sweep t.reader.cursor t.reader.owed t.reader.timer t.reader.records = _
  rw [h.same .sweep (away _ (by decide)), h.same .sweepCursor (away _ (by decide)), h.same .owed (away _ (by decide)),
    h.same .timer (away _ (by decide))]

theorem touches.posted {xs : List Aspect} {s t : State} (h : touches xs s t) : ∃ more, t.posted = s.posted ++ more := h.2

/-! ### Updates of one block -/

theorem touches_of_same {xs : List Aspect} {s t : State} (h : ∀ a, a ∉ xs → a.same s t) (posted : t.posted = s.posted) :
    touches xs s t := ⟨h, [], by simp [posted]⟩

theorem touches_setLanes {xs : List Aspect} {s : State} {x : Vector Lane 24}
    (h : ∀ (l : LaneId) (a : Aspect), a ∉ xs → a.laneSame (s.lane l) x[l]) : touches xs s (s.setLanes x) :=
  touches_of_same (fun a ha => by
    cases a <;> first | exact fun l => h l _ ha | rfl | exact fun _ => rfl) rfl

theorem touches_setLane {xs : List Aspect} {s : State} {l : LaneId} {x : Lane}
    (h : ∀ a : Aspect, a ∉ xs → a.laneSame (s.lane l) x) : touches xs s (s.setLane l x) := by
  refine touches_setLanes fun k a ha => ?_
  have at_k : (s.lanes.set l x)[k] = if k = l then x else s.lane k := s.lane_setLane l k x
  rw [at_k]
  split
  next e => subst e; exact h a ha
  next => exact a.laneSame_refl _

theorem touches_post (s : State) (p : Posted) : touches [.posted] s (s.post p) :=
  ⟨fun a ha => by cases a <;> first | rfl | exact fun _ => rfl | simp at ha, [p], rfl⟩

theorem touches_postRecord (s : State) (a : Addr) (bs : List Byte) : touches [.posted] s (s.postRecord a bs) :=
  touches_post s _

end Sys2Proof.Machine
end

section
namespace Sys2Proof.Machine

/-! ### Notices and completions -/

theorem raiseNotice_touches (c : Cause) (s : State) : touches [.notice, .posted] s (raiseNotice c s) :=
  ⟨fun a ha => by
    cases a <;> first
      | exact fun l => by rw [raiseNotice_lane]; rfl
      | (simp [Aspect.same, State.slot]; done)
      | (simp [Aspect.same, (raiseNotice_spec c s).1, withCause]; done)
      | simp at ha, messageFor c s.regs, (raiseNotice_spec c s).2⟩

theorem postInterrupts_touches : ∀ (n : Nat) (s : State), touches [.posted] s (postInterrupts n s)
  | 0, s => touches_refl _ s
  | n + 1, s => (touches_post s _).trans (postInterrupts_touches n _) (by decide) (by decide)

theorem fillRecord_touches (r : RecId) (w : WorkRecord) (s : State) : touches [.records] s (fillRecord r w s) :=
  touches_of_same (fun a ha => by cases a <;> first | rfl | exact fun _ => rfl | simp at ha) rfl

theorem freeRecord_touches (r : RecId) (s : State) : touches [.records] s (freeRecord r s) :=
  touches_of_same (fun a ha => by cases a <;> first | rfl | exact fun _ => rfl | simp at ha) rfl

theorem freeEntry_touches (r : RecId) (s : State) : touches [.jobs] s (freeEntry r s) :=
  touches_of_same (fun a ha => by cases a <;> first | rfl | exact fun _ => rfl | simp at ha) rfl

theorem postCompletion_touches (w : WorkRecord) (status : Nat) (aux frame : Word) (s : State) :
    touches [.posted] s (postCompletion w status aux frame s) :=
  (touches_post s _).trans (touches_postRecord _ _ _) (by decide) (by decide)

theorem noticeSlip_touches (w : WorkRecord) (s : State) : touches [.notice, .posted] s (noticeSlip w s) :=
  touches_ite (fun _ => raiseNotice_touches _ s) fun _ => touches_refl _ s

/-- What the completion of a slip touches. -/
def completionAspects : List Aspect := [.notice, .records, .jobs, .posted]

theorem complete_touches (r : RecId) (status : Nat) (aux frame : Word) (s : State) :
    touches completionAspects s (complete r status aux frame s) := by
  unfold complete
  split
  · exact touches_refl _ s
  · exact (((postCompletion_touches _ _ _ _ s).trans (zs := completionAspects) (freeRecord_touches _ _)).trans
      (zs := completionAspects) (freeEntry_touches _ _)).trans (noticeSlip_touches _ _)

theorem finish_touches (r : RecId) (status : Nat) (aux : Word) (s : State) :
    touches completionAspects s (finish r status aux s) := complete_touches _ _ _ _ s

theorem setDraws_touches (n : Nat) (s : State) : touches [.draws] s (s.setDraws n) :=
  touches_of_same (fun a ha => by cases a <;> first | rfl | exact fun _ => rfl | simp at ha) rfl

theorem finishUnstated_touches (r : RecId) (status : Nat) (s : State) :
    touches (.draws :: completionAspects) s (finishUnstated r status s) :=
  (setDraws_touches _ s).trans (finish_touches _ _ _ _) (by decide) (by decide)

/-! ### Mirrors, directory writes and user counts -/

theorem writeDirectoryMirror_touches (i : SlotId) (s : State) : touches [.posted] s (writeDirectoryMirror i s) :=
  touches_ite (fun _ => touches_postRecord s _ _) fun _ => touches_refl _ s

theorem beginDirWrite_touches (w : DirWrite) (s : State) : touches [.dirWrites] s (beginDirWrite w s) :=
  touches_of_same (fun a ha => by cases a <;> first | rfl | exact fun _ => rfl | simp at ha) rfl

theorem setSlot_users_touches (i : SlotId) (n : Nat) (s : State) :
    touches [.slotUsers] s (s.setSlot i { s.slot i with users := n }) :=
  touches_of_same (fun a ha => by
    cases a
    case slotRecords => intro k; rw [State.slot_setSlot]; split <;> simp_all
    all_goals first | rfl | exact fun _ => rfl | simp at ha) rfl

/-- What a user count, and the fall of a CONDEMNED slot's count to 0, touches. -/
def userAspects : List Aspect := [.slotUsers, .jobs, .dirWrites, .posted]

theorem setUsers_touches (i : SlotId) (n : Nat) (s : State) : touches userAspects s (setUsers i n s) := by
  have counted : touches userAspects s (writeDirectoryMirror i (s.setSlot i { s.slot i with users := n })) :=
    (setSlot_users_touches i n s).trans (writeDirectoryMirror_touches i _)
  have woken (t : State) : touches [.jobs] t (t.setStore { t.store with jobs := t.store.jobs.map (wakeJob i) }) :=
    touches_of_same (fun a ha => by cases a <;> first | rfl | exact fun _ => rfl | simp at ha) rfl
  exact touches_ite (fun _ => (counted.trans (zs := userAspects) (woken _)).trans (beginDirWrite_touches _ _)) fun _ => counted

theorem retally_touches (old new : List SlotId) (s : State) : touches userAspects s (retally old new s) :=
  touches_foldl (fun _ _ => touches_ite (fun _ => touches_refl _ _) fun _ => setUsers_touches _ _ _) _ s

theorem recordSlot_touches (i : SlotId) (d : DirRecord) (s : State) :
    touches [.stored, .slotRecords, .posted] s (recordSlot i d s) := by
  have written : touches [.stored, .slotRecords] s (s.setStore { s.store with
      stored := s.store.stored.set i d, slots := s.store.slots.set i { s.slot i with record := d } }) := by
    refine touches_of_same (fun a ha => ?_) rfl
    cases a
    case slotUsers =>
      intro k
      show ((s.setSlot i { s.slot i with record := d }).slot k).users = _
      rw [State.slot_setSlot]
      split <;> simp_all
    all_goals first | rfl | exact fun _ => rfl | simp at ha
  exact written.trans (writeDirectoryMirror_touches i _) (by decide) (by decide)

/-! ### Store jobs -/

theorem updateJob_touches (r : RecId) (f : Job → Job) (s : State) : touches [.jobs] s (updateJob r f s) :=
  touches_of_same (fun a ha => by cases a <;> first | rfl | exact fun _ => rfl | simp at ha) rfl

theorem setRunning_touches (x : Option Running) (s : State) : touches [.running] s (setRunning x s) :=
  touches_of_same (fun a ha => by cases a <;> first | rfl | exact fun _ => rfl | simp at ha) rfl

theorem enterJob_touches (j : Job) (s : State) : touches [.jobs] s (enterJob j s) :=
  touches_of_same (fun a ha => by cases a <;> first | rfl | exact fun _ => rfl | simp at ha) rfl

theorem setContents_touches (m : List Host.Cell) (s : State) :
    touches [.contents] s (s.setStore { s.store with contents := m }) :=
  touches_of_same (fun a ha => by cases a <;> first | rfl | exact fun _ => rfl | simp at ha) rfl

theorem setRecovery_touches (x : List Recovery) (s : State) :
    touches [.recovery] s (s.setStore { s.store with recovery := x }) :=
  touches_of_same (fun a ha => by cases a <;> first | rfl | exact fun _ => rfl | simp at ha) rfl

theorem updateRecovery_touches (i : SlotId) (bs : List Nat) (s : State) :
    touches [.recovery] s (updateRecovery i bs s) := setRecovery_touches _ s

theorem startRecovery_touches (e : Recovery) (s : State) : touches [.running] s (startRecovery e s) := by
  unfold startRecovery
  split
  · exact setRunning_touches _ s
  · exact touches_refl _ s

theorem startJob_touches (r : RecId) (op : Operation) (s : State) : touches [.jobs, .running] s (startJob r op s) :=
  (updateJob_touches _ _ s).trans (setRunning_touches _ _) (by decide) (by decide)

theorem finishWrite_touches (j : Job) (s : State) : touches completionAspects s (finishWrite j s) :=
  touches_ite (fun _ => finish_touches _ _ _ s) fun _ => finish_touches _ _ _ s

theorem endErases_touches (j : Job) (s : State) : touches [.jobs, .dirWrites] s (endErases j s) :=
  (updateJob_touches _ _ s).trans (beginDirWrite_touches _ _) (by decide) (by decide)

/-- What the store's choice touches. -/
def choiceAspects : List Aspect := [.notice, .records, .jobs, .posted, .running, .dirWrites]

theorem storeChoose_touches : ∀ (n : Nat) (s : State), touches choiceAspects s (storeChoose n s)
  | 0, s => touches_refl _ s
  | n + 1, s => by
    unfold storeChoose
    split
    · exact touches_refl _ s
    split
    · exact (startRecovery_touches _ s).mono (by decide)
    split
    · exact touches_refl _ s
    split
    · exact (startJob_touches _ _ s).mono (by decide)
    · exact (startJob_touches _ _ s).mono (by decide)
    · exact (startJob_touches _ _ s).mono (by decide)
    · exact (finishWrite_touches _ s).trans (storeChoose_touches n _) (by decide) (by decide)
    · exact (endErases_touches _ s).trans (storeChoose_touches n _) (by decide) (by decide)

theorem choose_touches (s : State) : touches choiceAspects s (choose s) := storeChoose_touches _ s

theorem goOn_touches (j : Job) (op : Operation) (s : State) : touches choiceAspects s (goOn j op s) :=
  touches_ite (fun _ => ((updateJob_touches _ _ s).trans (zs := choiceAspects) (setRunning_touches _ _)).trans
    (choose_touches _)) fun _ => (setRunning_touches _ s).mono

theorem afterJobErase_touches (j : Job) (s : State) : touches choiceAspects s (afterJobErase j s) := by
  unfold afterJobErase
  split
  · exact (updateJob_touches _ _ s).trans (goOn_touches _ _ _)
  · exact (((updateJob_touches _ _ s).trans (zs := choiceAspects) (setRunning_touches _ _)).trans (zs := choiceAspects)
      (endErases_touches _ _)).trans (choose_touches _)

theorem afterRecoveryErase_touches (e : Recovery) (s : State) :
    touches (.recovery :: choiceAspects) s (afterRecoveryErase e s) := by
  unfold afterRecoveryErase
  split
  · have updated := updateRecovery_touches e.slot
    exact touches_ite (fun _ => ((updated _ s).trans (zs := .recovery :: choiceAspects) (setRunning_touches _ _)).trans
      (choose_touches _)) fun _ => (updated _ s).trans (setRunning_touches _ _)
  · exact (((setRecovery_touches _ s).trans (zs := .recovery :: choiceAspects) (setRunning_touches _ _)).trans
      (zs := .recovery :: choiceAspects) (beginDirWrite_touches _ _)).trans (choose_touches _)

theorem afterProgram_touches (j : Job) (s : State) : touches choiceAspects s (afterProgram j s) := by
  unfold afterProgram
  split
  · exact (updateJob_touches _ _ s).trans (goOn_touches _ _ _)
  · exact ((setRunning_touches _ s).trans (zs := choiceAspects) (finishWrite_touches _ _)).trans (choose_touches _)

/-! ### Lane records -/

theorem setTextState_touches (l : LaneId) (t : TextState) (s : State) : touches [.laneText] s (s.setTextState l t) :=
  touches_setLane fun a ha => by cases a <;> first | rfl | trivial

theorem setCarousel_touches (l : LaneId) (c : Carousel) (s : State) : touches [.carousel] s (s.setCarousel l c) :=
  touches_setLane fun a ha => by cases a <;> first | rfl | trivial

theorem setFeed_touches (l : LaneId) (f : Feed) (s : State) : touches [.feed] s (s.setFeed l f) :=
  touches_setLane fun a ha => by cases a <;> first | rfl | trivial

theorem setCounts_touches (l : LaneId) (c : Counts) (s : State) : touches [.counts] s (s.setCounts l c) :=
  touches_setLane fun a ha => by cases a <;> first | rfl | trivial

/-! ### Feed pages -/

theorem dropStraggler_touches (l : LaneId) (s : State) : touches [.stragglers] s (dropStraggler l s) :=
  touches_of_same (fun a ha => by cases a <;> first | rfl | exact fun _ => rfl | simp at ha) rfl

theorem returnPage_touches (l : LaneId) (c : Return) (s : State) :
    touches [.feed, .notice, .posted] s (returnPage l c s) := by
  unfold returnPage
  dsimp only
  split
  · exact touches_refl _ s
  · have written (p : Letter) (n : Nat) : touches [.posted] s (postReturn l p n c s) :=
      (touches_post s _).trans (touches_postRecord _ _ _)
    exact touches_ite (fun _ => ((written _ _).trans (zs := [.feed, .notice, .posted]) (setFeed_touches _ _ _)).trans
      (raiseNotice_touches _ _)) fun _ => (written _ _).trans (setFeed_touches _ _ _)

/-- What a fetch touches. -/
def fetchAspects : List Aspect := [.feed, .counts, .notice, .posted]

theorem advance_touches (l : LaneId) (len : Nat) (s : State) :
    touches [.feed, .notice, .posted] s (advance l len s) :=
  touches_ite (fun _ => (setFeed_touches _ _ s).trans (returnPage_touches _ _ _)) fun _ => (setFeed_touches _ _ s).mono

theorem pageFault_touches (l : LaneId) (s : State) : touches fetchAspects s (pageFault l s).1 :=
  (setCounts_touches _ _ s).trans (returnPage_touches _ _ _) (by decide) (by decide)

theorem offerUnit_touches (l : LaneId) (limits : List Nat) (data : Addr) (len : Nat) (h : HostView) (s : State) :
    touches fetchAspects s (offerUnit l limits data len h s).1 := by
  unfold offerUnit
  split
  · exact (setCounts_touches _ _ s).trans (advance_touches _ _ _) (by decide) (by decide)
  · have counted : touches [.counts] s
        (if limits.any (fun m => decide (m < unitCells len)) then countOversize l s else s) :=
      touches_ite (fun _ => setCounts_touches _ _ s) fun _ => touches_refl _ s
    dsimp only
    split
    · split
      · exact counted.trans (pageFault_touches _ _) (by decide) (by decide)
      · exact counted.trans (advance_touches _ _ _) (by decide) (by decide)
    · exact counted.trans (advance_touches _ _ _) (by decide) (by decide)

theorem readUnit_touches (l : LaneId) (held : Letter) (limits : List Nat) (h : HostView) (s : State) :
    touches fetchAspects s (readUnit l held limits h s).1 := by
  unfold readUnit
  dsimp only
  split
  · exact (returnPage_touches _ _ s).mono (by decide)
  split
  · exact pageFault_touches _ s
  split
  · exact (returnPage_touches _ _ s).mono (by decide)
  split
  · exact (advance_touches _ _ s).mono (by decide)
  · exact offerUnit_touches _ _ _ _ _ s

theorem takePage_touches (l : LaneId) (limits : List Nat) (h : HostView) (s : State) :
    touches fetchAspects s (takePage l limits h s).1 := by
  unfold takePage
  dsimp only
  split
  · exact (setCounts_touches _ _ s).mono (by decide)
  split
  · split
    · exact (setFeed_touches _ _ s).trans (returnPage_touches _ _ _) (by decide) (by decide)
    · exact (setFeed_touches _ _ s).trans (readUnit_touches _ _ _ _ _) (by decide) (by decide)
  · exact touches_refl _ s

theorem fetchUnit_touches (l : LaneId) (limits : List Nat) (h : HostView) (s : State) :
    touches fetchAspects s (fetchUnit l limits h s).1 := by
  unfold fetchUnit
  split
  · exact readUnit_touches _ _ _ _ s
  · exact takePage_touches _ _ _ s

end Sys2Proof.Machine
end

section
namespace Sys2Proof.Machine

/-! ### Text slips -/

theorem touches_setText_queue (q : List RecId) (s : State) : touches [.textQueue] s (s.setText { s.text with queue := q }) :=
  touches_of_same (fun a ha => by cases a <;> first | rfl | exact fun _ => rfl | simp at ha) rfl

theorem touches_setText_putting (x : Option RecId) (s : State) :
    touches [.putting] s (s.setText { s.text with putting := x }) :=
  touches_of_same (fun a ha => by cases a <;> first | rfl | exact fun _ => rfl | simp at ha) rfl

theorem textDispatch_touches {xs : List Aspect} {k : Kind} {act : RecId → WorkRecord → LaneId → State → State}
    (h : ∀ r w l s, touches xs s (act r w l s)) (s : State) : touches (.textQueue :: xs) s (textDispatch k act s) := by
  have unchanged := touches_refl (.textQueue :: xs) s
  unfold textDispatch
  split
  · exact unchanged
  split
  · split
    · split
      · exact touches_ite (fun _ => (touches_setText_queue _ s).trans (h _ _ _ _) (by simp) (by simp)) fun _ => unchanged
      · exact unchanged
    · exact unchanged
  · exact unchanged

theorem actTextPut_touches (r : RecId) (w : WorkRecord) (l : LaneId) (s : State) :
    touches (.putting :: .draws :: completionAspects) s (actTextPut r w l s) :=
  touches_ite (fun _ => (finishUnstated_touches _ _ s).mono) fun _ =>
    touches_ite (fun _ => (finishUnstated_touches _ _ s).mono) fun _ => (touches_setText_putting _ s).mono

theorem applyPut_touches (r : RecId) (w : WorkRecord) (l : LaneId) (body : List Byte) (s : State) :
    touches (.laneText :: completionAspects) s (applyPut r w l body s) := by
  unfold applyPut
  dsimp only
  split
  · exact (setTextState_touches _ _ s).trans (finish_touches _ _ _ _)
  · exact touches_ite (fun _ => (setTextState_touches _ _ s).trans (finish_touches _ _ _ _)) fun _ =>
      (finish_touches _ _ _ s).mono

theorem textPutApply_touches (h : HostView) (s : State) :
    touches (.putting :: .laneText :: .draws :: completionAspects) s (textPutApply h s) := by
  have begun := touches_setText_putting none s
  unfold textPutApply
  split
  · exact touches_refl _ s
  dsimp only
  split
  · exact begun.mono
  split
  · exact begun.mono
  split
  · exact begun.trans (finishUnstated_touches _ _ _)
  split
  · exact begun.trans (finishUnstated_touches _ _ _)
  split
  · exact begun.trans (finish_touches _ _ _ _)
  · exact begun.trans (applyPut_touches _ _ _ _ _)

theorem actTextDrop_touches (r : RecId) (w : WorkRecord) (l : LaneId) (s : State) :
    touches (.laneText :: .draws :: completionAspects) s (actTextDrop r w l s) := by
  unfold actTextDrop
  dsimp only
  split
  · exact (finishUnstated_touches _ _ s).mono
  split
  · exact (finishUnstated_touches _ _ s).mono
  · exact (setTextState_touches _ _ s).trans (finish_touches _ _ _ _)

theorem actTextClear_touches (r : RecId) (w : WorkRecord) (l : LaneId) (s : State) :
    touches (.laneText :: .draws :: completionAspects) s (actTextClear r w l s) :=
  touches_ite (fun _ => (finishUnstated_touches _ _ s).mono) fun _ =>
    (setTextState_touches _ _ s).trans (finish_touches _ _ _ _)

/-! ### Carousels -/

theorem carouselDispatch_touches {xs : List Aspect} {k : Kind} {act : RecId → WorkRecord → LaneId → State → State}
    (h : ∀ r w l s, touches xs s (act r w l s)) (s : State) :
    touches (.carouselQueue :: xs) s (carouselDispatch k act s) := by
  have unchanged := touches_refl (.carouselQueue :: xs) s
  have taken (q : List RecId) : touches [.carouselQueue] s (s.setCarousels q) :=
    touches_of_same (fun a ha => by cases a <;> first | rfl | exact fun _ => rfl | simp at ha) rfl
  unfold carouselDispatch
  split
  · split
    · split
      · exact touches_ite (fun _ => (taken _).trans (h _ _ _ _) (by simp) (by simp)) fun _ => unchanged
      · exact unchanged
    · exact unchanged
  · exact unchanged

/-- What a change of a lane's carousel touches, with the user counts that follow it. -/
def airingAspects : List Aspect := .carousel :: userAspects

theorem actCarSet_touches (r : RecId) (w : WorkRecord) (l : LaneId) (s : State) :
    touches (airingAspects ++ completionAspects) s (actCarSet r w l s) := by
  have refused (status : Nat) : touches (airingAspects ++ completionAspects) s (finish r status 0 s) :=
    (finish_touches _ _ _ s).mono
  exact touches_ite (fun _ => refused _) fun _ => touches_ite (fun _ => refused _) fun _ => touches_ite (fun _ => refused _)
    fun _ => touches_ite (fun _ => refused _) fun _ =>
      ((setCarousel_touches _ _ s).trans (zs := airingAspects) (retally_touches _ _ _)).trans (finish_touches _ _ _ _)

theorem actCarJump_touches (r : RecId) (w : WorkRecord) (l : LaneId) (s : State) :
    touches (.carousel :: completionAspects) s (actCarJump r w l s) :=
  touches_ite (fun _ => (finish_touches _ _ _ s).mono) fun _ => touches_ite (fun _ => (finish_touches _ _ _ s).mono)
    fun _ => (setCarousel_touches _ _ s).trans (finish_touches _ _ _ _)

theorem abandonAiring_touches (l : LaneId) (s : State) : touches airingAspects s (abandonAiring l s) := by
  unfold abandonAiring
  dsimp only
  split
  · exact touches_refl _ s
  · exact (setCarousel_touches _ _ s).trans (retally_touches _ _ _)

theorem startAiring_touches (pl : PlanLane) (s : State) : touches airingAspects s (startAiring pl s) := by
  unfold startAiring
  dsimp only
  split
  · split
    · exact (setCarousel_touches _ _ s).trans (retally_touches _ _ _)
    · exact touches_refl _ s
  · exact touches_refl _ s

theorem reachCarousel_touches (pl : PlanLane) (s : State) : touches airingAspects s (reachCarousel pl s) :=
  (setCarousel_touches _ _ s).trans (startAiring_touches _ _)

theorem commitOwnPieces_touches (l : LaneId) (ch : PictureChoice) (ps : List Piece) (s : State) :
    touches airingAspects s (commitOwnPieces l ch ps s) := by
  unfold commitOwnPieces
  dsimp only
  split
  · exact touches_refl _ s
  · exact touches_ite (fun _ => touches_ite (fun _ => (setCarousel_touches _ _ s).trans (retally_touches _ _ _)) fun _ =>
      (setCarousel_touches _ _ s).mono) fun _ => touches_refl _ s

theorem commitAlertPieces_touches (l : LaneId) (id : Byte) (ps : List Piece) (s : State) :
    touches [.carousel] s (commitAlertPieces l id ps s) := by
  unfold commitAlertPieces
  dsimp only
  split
  · exact touches_refl _ s
  · exact touches_ite (fun _ => setCarousel_touches _ _ s) fun _ => touches_refl _ s

theorem commitPieces_touches (lc : LaneCarriage) (s : State) : touches airingAspects s (commitPieces lc s) := by
  unfold commitPieces
  split
  · exact touches_refl _ s
  split
  · exact touches_refl _ s
  split
  · exact commitOwnPieces_touches _ _ _ s
  · exact (commitAlertPieces_touches _ _ _ s).mono

theorem countStall_touches (l : LaneId) (s : State) : touches [.counts] s (countStall l s) :=
  touches_setLane fun a ha => by cases a <;> first | rfl | trivial

theorem commitPicture_touches (s : State) (lc : LaneCarriage) :
    touches (.counts :: airingAspects) s (commitPicture s lc) :=
  touches_ite (fun _ => (commitPieces_touches lc s).trans (countStall_touches _ _)) fun _ => (commitPieces_touches lc s).mono

/-! ### Alerts -/

theorem touches_setAlerts_queue (q : List RecId) (s : State) :
    touches [.alertQueue] s (s.setAlerts { s.alerts with queue := q }) :=
  touches_of_same (fun a ha => by cases a <;> first | rfl | exact fun _ => rfl | simp at ha) rfl

theorem touches_setAlerts_checking (x : Option RecId) (s : State) :
    touches [.raiseChecking] s (s.setAlerts { s.alerts with checking := x }) :=
  touches_of_same (fun a ha => by cases a <;> first | rfl | exact fun _ => rfl | simp at ha) rfl

theorem setPlace_touches (p : PlaceId) (a : Option Alert) (s : State) : touches [.places] s (setPlace p a s) :=
  touches_of_same (fun a ha => by cases a <;> first | rfl | exact fun _ => rfl | simp at ha) rfl

theorem alertDispatch_touches {xs : List Aspect} {k : Kind} {act : RecId → WorkRecord → State → State}
    (h : ∀ r w s, touches xs s (act r w s)) (s : State) : touches (.alertQueue :: xs) s (alertDispatch k act s) := by
  have unchanged := touches_refl (.alertQueue :: xs) s
  unfold alertDispatch
  split
  · exact unchanged
  split
  · split
    · exact touches_ite (fun _ => (touches_setAlerts_queue _ s).trans (h _ _ _) (by simp) (by simp)) fun _ => unchanged
    · exact unchanged
  · exact unchanged

theorem Lane.laneSame_setSource (x : Lane) (f : Field) (v : Source) (a : Aspect)
    (ha : a ∉ [Aspect.audioFrom, .textFrom, .pictureFrom]) : a.laneSame x (x.setSource f v) := by
  cases f <;> cases a <;> first | rfl | trivial

/-- What a raise takes: log entries, source fields and the own airings that it abandons. -/
def takeAspects : List Aspect := [.log, .audioFrom, .textFrom, .pictureFrom] ++ airingAspects

theorem takeField_touches (id : Byte) (s : State) (lf : LaneId × Field) : touches takeAspects s (takeField id s lf) := by
  have logged (x : List LogEntry) : touches [.log] s (s.setAlerts { s.alerts with log := x }) :=
    touches_of_same (fun a ha => by cases a <;> first | rfl | exact fun _ => rfl | simp at ha) rfl
  have sourced (t : State) (l : LaneId) (f : Field) (v : Source) :
      touches [.audioFrom, .textFrom, .pictureFrom] t (t.setLane l ((t.lane l).setSource f v)) :=
    touches_setLane fun a ha => Lane.laneSame_setSource _ f v a ha
  have taken := (logged (s.alerts.log ++ [⟨id, lf.1, lf.2, (s.lane lf.1).sourceOf lf.2⟩])).trans
    (zs := takeAspects) (sourced _ lf.1 lf.2 (.alert id))
  exact touches_ite (fun _ => taken.trans (abandonAiring_touches _ _)) fun _ => taken

theorem setHold_touches (n : Nat) (s : State) : touches [.hold] s (s.setStore { s.store with hold := n }) :=
  touches_of_same (fun a ha => by cases a <;> first | rfl | exact fun _ => rfl | simp at ha) rfl

theorem holdPicture_touches (a : Alert) (s : State) : touches (.hold :: userAspects) s (holdPicture a s) := by
  unfold holdPicture
  split
  · exact touches_refl _ s
  · exact (retally_touches _ _ s).trans (setHold_touches _ _)

/-- What the decision of a raise touches. -/
def raiseAspects : List Aspect := .places :: .hold :: (takeAspects ++ choiceAspects)

theorem applyRaise_touches (r : RecId) (q : Raise) (t : TextRead) (p : PlaceId) (s : State) :
    touches raiseAspects s (applyRaise r q t p s) :=
  ((((setPlace_touches p _ s).trans (zs := raiseAspects) (touches_foldl (takeField_touches q.id) _ _)).trans
    (zs := raiseAspects) (holdPicture_touches _ _)).trans (zs := raiseAspects) (touches_postRecord _ _ _)).trans
    (choose_touches _)

theorem decideRaise_touches (r : RecId) (q : Raise) (t : TextRead) (s : State) :
    touches raiseAspects s (decideRaise r q t s) := by
  unfold decideRaise
  split
  · exact (finish_touches _ _ _ s).mono
  · split
    · exact applyRaise_touches _ _ _ _ s
    · exact touches_refl _ s

theorem actAlertRaise_touches (r : RecId) (w : WorkRecord) (s : State) :
    touches (.raiseChecking :: raiseAspects) s (actAlertRaise r w s) :=
  touches_ite (fun _ => (touches_setAlerts_checking _ s).mono) fun _ => (decideRaise_touches _ _ _ s).mono

theorem alertRaiseApply_touches (h : HostView) (s : State) :
    touches (.raiseChecking :: raiseAspects) s (alertRaiseApply h s) := by
  have begun := touches_setAlerts_checking none s
  unfold alertRaiseApply
  split
  · exact touches_refl _ s
  dsimp only
  split
  · exact begun.mono
  · exact begun.trans (decideRaise_touches _ _ _ _)

/-- The pass-up writes no field of a lane but its source fields. -/
theorem passUp_laneSame (id : Byte) (log : List LogEntry) (lanes : Vector Lane 24) (l : LaneId) (a : Aspect)
    (ha : a ∉ [Aspect.audioFrom, .textFrom, .pictureFrom]) : a.laneSame lanes[l] (passUp id log lanes).2[l] := by
  refine foldl_keeps (fun acc : List LogEntry × Vector Lane 24 => a.laneSame lanes[l] acc.2[l]) _ (fun acc e h => ?_) _ _
    (a.laneSame_refl _)
  unfold passUpEntry
  dsimp only
  split
  · split
    · exact h
    · by_cases same : l = e.lane
      · subst same
        have wrote := Lane.laneSame_setSource acc.2[e.lane] e.field e.previous a ha
        simp only [Fin.getElem_fin, Vector.getElem_set_self]
        exact Aspect.laneSame_trans h wrote
      · have other : (acc.2.set e.lane (acc.2[e.lane].setSource e.field e.previous))[l] = acc.2[l] :=
          Vector.getElem_set_ne _ _ fun v => same (Fin.ext v.symm)
        rw [other]
        exact h
  · exact h

/-- What the end of an alert touches. -/
def endAlertAspects : List Aspect := [.audioFrom, .textFrom, .pictureFrom, .places, .log, .posted]

theorem endAlert_touches (r : RecId) (p : PlaceId) (a : Alert) (s : State) :
    touches endAlertAspects s (endAlert r p a s) := by
  have removed (t : State) (x : List LogEntry) (y : Vector (Option Alert) 4) :
      touches [.places, .log] t (t.setAlerts { t.alerts with log := x, places := y }) :=
    touches_of_same (fun a ha => by cases a <;> first | rfl | exact fun _ => rfl | simp at ha) rfl
  have passed : touches [.audioFrom, .textFrom, .pictureFrom] s (s.setLanes (passUp a.id s.alerts.log s.lanes).2) :=
    touches_setLanes fun l b hb => passUp_laneSame _ _ _ l b hb
  exact (passed.trans (zs := endAlertAspects) (removed _ _ _)).trans (touches_postRecord _ _ _)

theorem actAlertEnd_touches (r : RecId) (w : WorkRecord) (s : State) :
    touches (endAlertAspects ++ completionAspects) s (actAlertEnd r w s) := by
  unfold actAlertEnd
  split
  · exact (finish_touches _ _ _ s).mono
  split
  · exact (finish_touches _ _ _ s).mono
  · exact touches_ite (fun _ => (endAlert_touches _ _ _ s).mono) fun _ => (finish_touches _ _ _ s).mono

/-- What the alerts' part of a send touches. -/
def alertCommitAspects : List Aspect := .places :: .hold :: userAspects

theorem commitPlace_touches (p : Plan) (counter : Word) (s : State) (i : PlaceId) :
    touches alertCommitAspects s (commitPlace p counter s i) := by
  have placed (t : State) (x : Option Alert) : touches alertCommitAspects t (writeAlertMirror i (setPlace i x t)) :=
    (setPlace_touches _ _ t).trans (touches_postRecord _ _ _)
  have released (a : Alert) : touches (.hold :: userAspects) s (releasePicture a s) := by
    unfold releasePicture
    split
    · exact touches_refl _ s
    · exact (retally_touches _ _ s).trans (setHold_touches _ _)
  unfold commitPlace
  split
  · exact touches_refl _ s
  split
  · exact touches_ite (fun _ => placed s _) fun _ => touches_refl _ s
  · exact touches_refl _ s
  · exact touches_ite (fun _ => touches_refl _ s) fun _ => (released _).trans (placed _ _)

theorem commitAlerts_touches (p : Plan) (counter : Word) (s : State) :
    touches alertCommitAspects s (commitAlerts p counter s) := touches_foldl (commitPlace_touches p counter) _ s

end Sys2Proof.Machine
end

section
namespace Sys2Proof.Machine

/-! ### Lane slips and maps -/

theorem touches_setMaps_laneSlips (q : List RecId) (s : State) :
    touches [.laneSlips] s (s.setMaps { s.maps with laneSlips := q }) :=
  touches_of_same (fun a ha => by cases a <;> first | rfl | exact fun _ => rfl | simp at ha) rfl

theorem laneDispatch_touches {xs : List Aspect} {k : Kind} {act : RecId → WorkRecord → LaneId → State → State}
    (h : ∀ r w l s, touches xs s (act r w l s)) (s : State) : touches (.laneSlips :: xs) s (laneDispatch k act s) := by
  have unchanged := touches_refl (.laneSlips :: xs) s
  unfold laneDispatch
  split
  · split
    · split
      · exact touches_ite (fun _ => (touches_setMaps_laneSlips _ s).trans (h _ _ _ _) (by simp) (by simp)) fun _ => unchanged
      · exact unchanged
    · exact unchanged
  · exact unchanged

/-- What the return of a page and the fields of LANE_SETUP and LANE_RETIRE touch of a lane. -/
def setupAspects : List Aspect :=
  [.laneState, .pageA, .pageB, .pageSize, .pace, .credit, .saturation, .feed, .laneText, .carousel, .counts, .notice, .posted]

theorem actLaneSetup_touches (r : RecId) (w : WorkRecord) (l : LaneId) (s : State) :
    touches (setupAspects ++ .draws :: completionAspects) s (actLaneSetup r w l s) := by
  have filled (x : Lane) : touches setupAspects s (s.setLane l (setUpLane w (s.lane l))) :=
    touches_setLane fun a ha => by cases a <;> first | rfl | trivial
  have paged (t : State) : touches setupAspects t
      (t.setLane l (withPages w { t.lane l with feed := { (t.lane l).feed with expected := .a } })) :=
    touches_setLane fun a ha => by cases a <;> first | rfl | trivial
  unfold actLaneSetup
  dsimp only
  split
  · exact (finishUnstated_touches _ _ s).mono
  split
  · exact (finishUnstated_touches _ _ s).mono
  split
  · exact ((filled (s.lane l)).trans (zs := setupAspects) (touches_postRecord _ _ _)).trans (finish_touches _ _ _ _)
  · exact ((returnPage_touches l .retired s).trans (zs := setupAspects) (paged _)).trans (finish_touches _ _ _ _)

theorem retireLane_touches (l : LaneId) (s : State) :
    touches (.stragglers :: (setupAspects ++ userAspects)) s (retireLane l s) := by
  have emptied (t : State) : touches setupAspects t (t.setLane l (retiredLane (t.lane l))) :=
    touches_setLane fun a ha => by cases a <;> first | rfl | trivial
  exact (((((returnPage_touches l .retired s).trans (zs := .stragglers :: (setupAspects ++ userAspects))
    (dropStraggler_touches l _)).trans (zs := .stragglers :: (setupAspects ++ userAspects)) (emptied _)).trans
    (zs := .stragglers :: (setupAspects ++ userAspects)) (retally_touches _ _ _)).trans (touches_postRecord _ _ _))

/-- What an accepted or refused LANE_RETIRE touches. -/
def retireAspects : List Aspect := .stragglers :: (setupAspects ++ userAspects) ++ .draws :: choiceAspects

theorem actLaneRetire_touches (r : RecId) (w : WorkRecord) (l : LaneId) (s : State) :
    touches retireAspects s (actLaneRetire r w l s) := by
  have refused (status : Nat) : touches retireAspects s (finishUnstated r status s) := (finishUnstated_touches _ _ s).mono
  exact touches_ite (fun _ => refused _) fun _ => touches_ite (fun _ => refused _) fun _ => touches_ite (fun _ => refused _)
    fun _ => ((retireLane_touches l s).trans (zs := retireAspects) (finishUnstated_touches _ _ _)).trans (choose_touches _)

theorem actLaneHalt_touches (r : RecId) (w : WorkRecord) (l : LaneId) (s : State) :
    touches (.laneState :: .credit :: .draws :: completionAspects) s (actLaneHalt r w l s) := by
  have halted : touches [.laneState, .credit] s (s.setLane l { s.lane l with state := .halted, credit := 0 }) :=
    touches_setLane fun a ha => by cases a <;> first | rfl | trivial
  exact touches_ite (fun _ => (halted.trans (zs := .laneState :: .credit :: .draws :: completionAspects)
    (touches_postRecord _ _ _)).trans (finishUnstated_touches _ _ _)) fun _ => (finishUnstated_touches _ _ s).mono

theorem actLaneResume_touches (r : RecId) (w : WorkRecord) (l : LaneId) (s : State) :
    touches (.laneState :: .draws :: completionAspects) s (actLaneResume r w l s) := by
  have resumed : touches [.laneState] s (s.setLane l { s.lane l with state := .ready }) :=
    touches_setLane fun a ha => by cases a <;> first | rfl | trivial
  exact touches_ite (fun _ => (resumed.trans (zs := .laneState :: .draws :: completionAspects)
    (touches_postRecord _ _ _)).trans (finishUnstated_touches _ _ _)) fun _ => (finishUnstated_touches _ _ s).mono

theorem mapLoad_touches (s : State) : touches (.mapLoads :: .mapChecking :: .draws :: completionAspects) s (mapLoad s) := by
  have begun (rest : List RecId) : touches [.mapLoads] s (s.setMaps { s.maps with mapLoads := rest }) :=
    touches_of_same (fun a ha => by cases a <;> first | rfl | exact fun _ => rfl | simp at ha) rfl
  unfold mapLoad
  split
  · exact touches_refl _ s
  split
  · dsimp only
    split
    · exact (begun _).trans (finishUnstated_touches _ _ _)
    · exact touches_of_same (fun a ha => by cases a <;> first | rfl | exact fun _ => rfl | simp at ha) rfl
  · exact touches_refl _ s

theorem mapTableRead_touches (h : HostView) (s : State) :
    touches (.mapChecking :: .upcoming :: .draws :: completionAspects) s (mapTableRead h s) := by
  have begun : touches [.mapChecking] s (s.setMaps { s.maps with checking := none }) :=
    touches_of_same (fun a ha => by cases a <;> first | rfl | exact fun _ => rfl | simp at ha) rfl
  unfold mapTableRead
  split
  · exact touches_refl _ s
  dsimp only
  split
  · exact begun.mono
  split
  · exact begun.trans (finishUnstated_touches _ _ _)
  split
  · exact begun.trans (finishUnstated_touches _ _ _)
  · exact touches_of_same (fun a ha => by cases a <;> first | rfl | exact fun _ => rfl | simp at ha) rfl

/-- The switch-over, one lane at a time. -/
theorem switchLanes_lane (old new : AirMap) (lanes : Vector Lane 24) (l : LaneId) : (switchLanes old new lanes)[l] =
    { lanes[l] with credit := switchCredit (old.entry? l) (new.entry? l) lanes[l].credit } := by
  simp [switchLanes]

/-- What the switch-over touches. -/
def switchAspects : List Aspect := [.credit, .active, .generation, .upcoming, .switched]

theorem switchOver_touches (s : State) : touches switchAspects s (switchOver s) := by
  have credited (old new : AirMap) : touches [.credit] s (s.setLanes (switchLanes old new s.lanes)) :=
    touches_setLanes fun l a ha => by
      rw [switchLanes_lane]
      cases a <;> first | rfl | trivial
  have adopted (t : State) (p : PendingMap) : touches [.active, .generation, .upcoming, .switched] t
      (t.setMaps { t.maps with active := p.map, generation := t.maps.generation + 1, upcoming := none,
                               switched := some p.record }) :=
    touches_of_same (fun a ha => by cases a <;> first | rfl | exact fun _ => rfl | simp at ha) rfl
  unfold switchOver
  split
  · exact touches_ite (fun _ => (credited _ _).trans (adopted _ _)) fun _ => touches_refl _ s
  · exact touches_refl _ s

/-! ### Assemblies -/

theorem setAssembler_touches (x : Assembler) (s : State) : touches [.assembler] s (setAssembler x s) :=
  touches_of_same (fun a ha => by cases a <;> first | rfl | exact fun _ => rfl | simp at ha) rfl

/-- What the TE and the CE touch when they reach the lanes of a plan. -/
def reachAspects : List Aspect := .laneText :: airingAspects

theorem reachLane_touches (s : State) (pl : PlanLane) : touches reachAspects s (reachLane s pl) :=
  (setTextState_touches _ _ s).trans (reachCarousel_touches _ _)

theorem reachLanes_touches (ls : List PlanLane) (s : State) : touches reachAspects s (ls.foldl reachLane s) :=
  touches_foldl reachLane_touches ls s

theorem layItems_touches (p : Plan) (c : Carriage) (s : State) :
    touches (.assembler :: reachAspects) s (layItems p c s) :=
  (reachLanes_touches _ s).trans (setAssembler_touches _ _)

theorem goOnFetching_touches (p : Plan) (c : Carriage) (s : State) :
    touches (.assembler :: reachAspects) s (goOnFetching p c s) :=
  touches_ite (fun _ => layItems_touches p c s) fun _ => (setAssembler_touches _ s).mono

/-- What the beginning of an assembly touches. -/
def assemblyAspects : List Aspect := .assembler :: (reachAspects ++ switchAspects)

theorem beginAssembly_touches (s : State) : touches assemblyAspects s (beginAssembly s) :=
  (switchOver_touches s).trans (goOnFetching_touches _ _ _)

theorem straggle_touches (g : Straggler) (h : HostView) (s : State) :
    touches (.stragglers :: fetchAspects) s (straggle g h s) := by
  have fetched := (dropStraggler_touches g.lane s).trans (zs := .stragglers :: fetchAspects)
    (fetchUnit_touches g.lane g.regions h _)
  unfold straggle countStraggler
  split
  · exact fetched.trans (setCounts_touches _ _ _)
  · exact fetched
  · exact fetched

/-- What a fetch of the assembly in flight touches. -/
def assemblyFetchAspects : List Aspect := .assembler :: (fetchAspects ++ reachAspects)

theorem assemblyFetch_touches (p : Plan) (c : Carriage) (l : LaneId) (h : HostView) (s : State) :
    touches assemblyFetchAspects s (assemblyFetch p c l h s) :=
  touches_ite (fun _ => (fetchUnit_touches l _ h s).trans (goOnFetching_touches _ _ _)) fun _ =>
    (goOnFetching_touches _ _ s).mono

theorem laneFetch_touches (l : LaneId) (h : HostView) (s : State) :
    touches (.stragglers :: assemblyFetchAspects) s (laneFetch l h s) := by
  unfold laneFetch
  split
  · exact (straggle_touches _ h s).mono
  split
  · exact touches_ite (fun _ => (assemblyFetch_touches _ _ l h s).mono) fun _ => touches_refl _ s
  · exact touches_refl _ s
  · exact touches_refl _ s

theorem pictureDataRead_touches (l : LaneId) (s : State) : touches [.assembler] s (pictureDataRead l s) := by
  unfold pictureDataRead
  split
  · exact touches_ite (fun _ => setAssembler_touches _ s) fun _ => touches_refl _ s
  · exact touches_refl _ s
  · exact touches_refl _ s

theorem assemblyComplete_touches (s : State) : touches [.assembler] s (assemblyComplete s) := by
  unfold assemblyComplete
  split
  · exact touches_ite (fun _ => setAssembler_touches _ s) fun _ => touches_refl _ s
  · exact touches_refl _ s
  · exact touches_refl _ s

theorem dropFetched_touches (s : State) (f : Fetched) : touches [.counts] s (dropFetched s f) := by
  unfold dropFetched
  split
  · exact setCounts_touches _ _ s
  · exact touches_refl _ s
  · exact touches_refl _ s

/-- What throwing an assembly away touches. -/
def dropAspects : List Aspect := [.counts, .assembler, .stragglers]

theorem dropAssembly_touches (begun : List LaneId) (s : State) : touches dropAspects s (dropAssembly begun s) := by
  have dropped (c : Carriage) : touches [.counts] s (c.fetched.foldl dropFetched s) := touches_foldl dropFetched_touches _ s
  have stopped (t : State) (x : List Straggler) : touches [.assembler, .stragglers] t
      (t.setFrames { t.frames with assembler := .stopped, stragglers := x }) :=
    touches_of_same (fun a ha => by cases a <;> first | rfl | exact fun _ => rfl | simp at ha) rfl
  unfold dropAssembly
  split
  · exact touches_refl _ s
  · exact (dropped _).trans (stopped _ _)
  · exact (dropped _).trans (setAssembler_touches _ _)

/-! ### Sends -/

theorem setAirData_touches (x : AirData) (s : State) : touches [.airData] s (setAirData x s) :=
  touches_of_same (fun a ha => by cases a <;> first | rfl | exact fun _ => rfl | simp at ha) rfl

theorem announceSent_touches (k : Nat) (s : State) : touches [.upcoming] s (announceSent k s) := by
  unfold announceSent
  split
  · exact touches_refl _ s
  · refine touches_ite (fun _ => touches_of_same (fun a ha => ?_) rfl) fun _ => touches_refl _ s
    cases a <;> first | rfl | exact fun _ => rfl | simp at ha

theorem completeAt_touches (counter : Word) (rs : List RecId) (s : State) :
    touches completionAspects s (completeAt counter rs s) := touches_foldl (fun _ _ => complete_touches _ _ _ _ _) _ s

theorem setMaps_switched_touches (x : Option RecId) (s : State) :
    touches [.switched] s (s.setMaps { s.maps with switched := x }) :=
  touches_of_same (fun a ha => by cases a <;> first | rfl | exact fun _ => rfl | simp at ha) rfl

theorem completeSwitched_touches (counter : Word) (s : State) :
    touches (.switched :: completionAspects) s (completeSwitched counter s) :=
  (setMaps_switched_touches none s).trans (completeAt_touches _ _ _)

theorem setFrames_counters_touches (n m : Word) (s : State) :
    touches [.counter, .voidCount] s (s.setFrames { s.frames with counter := n, voidCount := m }) :=
  touches_of_same (fun a ha => by cases a <;> first | rfl | exact fun _ => rfl | simp at ha) rfl

/-- What a void frame touches. -/
def voidAspects : List Aspect :=
  [.airData, .counter, .voidCount, .upcoming, .laneText, .switched] ++ completionAspects

theorem sendVoid_touches (s : State) : touches voidAspects s (sendVoid s) := by
  have paced (t : State) : touches [.laneText] t (t.setLanes (t.lanes.map fun x => { x with text := paceOn x.text })) :=
    touches_setLanes fun l a ha => by
      have : (t.lanes.map fun x => { x with text := paceOn x.text })[l] = { t.lane l with text := paceOn (t.lane l).text } :=
        Vector.getElem_map ..
      rw [this]
      cases a <;> first | rfl | trivial
  exact (((((setAirData_touches _ s).trans (zs := voidAspects) (setFrames_counters_touches _ _ _)).trans (zs := voidAspects)
    (announceSent_touches _ _)).trans (zs := voidAspects) (paced _)).trans (zs := voidAspects)
    (touches_postRecord _ _ _)).trans (completeSwitched_touches _ _)

/-- What a late pull touches. -/
def lateAspects : List Aspect := voidAspects ++ dropAspects ++ assemblyAspects

theorem latePull_touches (begun : List LaneId) (s : State) : touches lateAspects s (latePull begun s) :=
  (((sendVoid_touches s).trans (zs := lateAspects) (dropAssembly_touches _ _)).trans (zs := lateAspects)
    (raiseNotice_touches _ _)).trans (beginAssembly_touches _)

theorem countAired_touches (s : State) (f : Fetched) : touches [.counts] s (countAired s f) := by
  unfold countAired
  split
  · exact touches_setLane fun a ha => by cases a <;> first | rfl | trivial
  · exact touches_refl _ s
  · exact touches_refl _ s

theorem countFiller_touches (s : State) (lc : LaneCarriage) : touches [.counts] s (countFiller s lc) := by
  unfold countFiller
  split
  · exact touches_setLane fun a ha => by cases a <;> first | rfl | trivial
  · exact touches_refl _ s
  · exact touches_refl _ s

theorem commitCredit_touches (s : State) (lc : LaneCarriage) : touches [.credit, .saturation] s (commitCredit s lc) :=
  touches_setLane fun a ha => by cases a <;> first | rfl | trivial

theorem commitTexts_touches (c : Carriage) (s : State) : touches [.laneText] s (commitTexts c s) :=
  touches_setLanes fun l a ha => by
    simp only [Fin.getElem_fin, Vector.getElem_ofFn]
    cases a <;> first | rfl | trivial

/-- What the commits of a frame touch. -/
def commitAspects : List Aspect :=
  [.credit, .saturation, .poolCursor, .laneText, .counts] ++ airingAspects ++ alertCommitAspects

theorem commitFrame_touches (p : Plan) (c : Carriage) (s : State) : touches commitAspects s (commitFrame p c s) := by
  have moved (t : State) : touches [.poolCursor] t (t.setCursor c.cursorNext) :=
    touches_of_same (fun a ha => by cases a <;> first | rfl | exact fun _ => rfl | simp at ha) rfl
  exact ((((((touches_foldl countAired_touches c.fetched s).trans (zs := commitAspects)
    (touches_foldl countFiller_touches c.lanes _)).trans (zs := commitAspects)
    (touches_foldl commitCredit_touches c.lanes _)).trans (zs := commitAspects) (moved _)).trans (zs := commitAspects)
    (commitTexts_touches c _)).trans (zs := commitAspects) (touches_foldl commitPicture_touches c.lanes _)).trans
    (commitAlerts_touches p _ _)

theorem writeSendMirrors_touches (p : Plan) (c : Carriage) (s : State) : touches [.posted] s (writeSendMirrors p c s) :=
  (touches_postRecord s _ _).trans (touches_foldl (fun t _ => touches_postRecord t _ _) _ _)

/-- What the send of a frame touches before the store chooses and the next assembly begins. -/
def sentAspects : List Aspect := [.airData, .counter, .upcoming, .switched] ++ commitAspects ++ completionAspects

/-- What the send of a frame touches. -/
def sendAspects : List Aspect := sentAspects ++ choiceAspects ++ assemblyAspects

theorem sendFrame_touches (p : Plan) (c : Carriage) (frame : List Byte) (s : State) :
    touches sendAspects s (sendFrame p c frame s) := by
  have counted (t : State) (n : Word) : touches [.counter] t (t.setFrames { t.frames with counter := n }) :=
    touches_of_same (fun a ha => by cases a <;> first | rfl | exact fun _ => rfl | simp at ha) rfl
  have sent := ((((((setAirData_touches (.sending frame) s).trans (zs := sentAspects) (counted _ (s.frames.counter + 1))).trans
    (zs := sentAspects) (announceSent_touches p.announce _)).trans (zs := sentAspects) (commitFrame_touches p c _)).trans
    (zs := sentAspects) (writeSendMirrors_touches p c _)).trans (zs := sentAspects)
    (completeAt_touches p.counter (alertCompletions p s) _)).trans (zs := sentAspects) (completeSwitched_touches p.counter _)
  exact (sent.trans (zs := sendAspects) (choose_touches _)).trans (beginAssembly_touches _)

/-- What a pull touches. -/
def pullAspects : List Aspect := lateAspects ++ sendAspects

theorem airPull_touches (begun : List LaneId) (s : State) : touches pullAspects s (airPull begun s) := by
  refine touches_ite (fun _ => ?_) fun _ => touches_refl _ s
  unfold answerPull
  split
  · exact (sendVoid_touches s).mono
  · exact (latePull_touches _ s).mono
  · exact (sendFrame_touches _ _ _ s).mono

theorem airRstFall_touches (s : State) : touches [.airRstN, .airData] s (airRstFall s) :=
  touches_ite (fun _ => touches_of_same (fun a ha => by cases a <;> first | rfl | exact fun _ => rfl | simp at ha) rfl)
    fun _ => touches_refl _ s

theorem transmissionEnd_touches (s : State) : touches [.airData] s (transmissionEnd s) :=
  touches_ite (fun _ => setAirData_touches _ s) fun _ => touches_refl _ s

end Sys2Proof.Machine
end

section
namespace Sys2Proof.Machine

/-! ### The Slip Reader -/

theorem setSweep_touches (x : Sweep) (s : State) : touches [.sweep] s (setSweep x s) :=
  touches_of_same (fun a ha => by cases a <;> first | rfl | exact fun _ => rfl | simp at ha) rfl

theorem setSweepCursor_touches (i : SlipId) (s : State) : touches [.sweepCursor] s (setSweepCursor i s) :=
  touches_of_same (fun a ha => by cases a <;> first | rfl | exact fun _ => rfl | simp at ha) rfl

theorem setOwed_touches (b : Bool) (s : State) : touches [.owed] s (setOwed b s) :=
  touches_of_same (fun a ha => by cases a <;> first | rfl | exact fun _ => rfl | simp at ha) rfl

/-- What the progress of a sweep touches. -/
def sweepAspects : List Aspect := [.sweep, .sweepCursor, .owed]

theorem endSweep_touches (s : State) : touches sweepAspects s (endSweep s) :=
  touches_ite (fun _ => (setOwed_touches false s).trans (setSweep_touches _ _)) fun _ => (setSweep_touches _ s).mono

theorem nextVisit_touches (rest : List SlipId) (s : State) : touches sweepAspects s (nextVisit rest s) := by
  unfold nextVisit
  split
  · exact endSweep_touches s
  · dsimp only
    split
    · exact ((setSweep_touches .idle s).trans (zs := sweepAspects) (setSweepCursor_touches _ _)).trans (endSweep_touches _)
    · exact (setSweep_touches .idle s).trans (setSweep_touches _ _)

theorem afterVisit_touches (rest : List SlipId) (last : Bool) (s : State) :
    touches sweepAspects s (afterVisit rest last s) :=
  touches_ite (fun _ => endSweep_touches s) fun _ => nextVisit_touches rest s

theorem triggerSweep_touches (s : State) : touches [.sweep, .owed] s (triggerSweep s) :=
  touches_ite (fun _ => (setSweep_touches _ s).mono) fun _ => (setOwed_touches _ s).mono

theorem sweepHandRead_touches (h : HostView) (s : State) :
    touches (sweepAspects ++ [.notice, .posted]) s (sweepHandRead h s) := by
  unfold sweepHandRead
  split
  · split
    · exact (endSweep_touches s).trans (raiseNotice_touches _ _)
    · exact (nextVisit_touches _ s).mono
  · exact touches_refl _ s
  · exact touches_refl _ s

/-- The dispatched slips of each owner. -/
def owedAspects : List Aspect := [.laneSlips, .mapLoads, .textQueue, .carouselQueue, .storeQueue, .alertQueue]

theorem dispatchTo_touches (o : Owner) (r : RecId) (s : State) : touches owedAspects s (dispatchTo o r s) := by
  cases o <;>
    exact touches_of_same (fun a ha => by cases a <;> first | rfl | exact fun _ => rfl | trivial) rfl

/-- What the decision of a taken slip touches. -/
def decideAspects : List Aspect := owedAspects ++ completionAspects

theorem decideTake_touches (r : RecId) (w : WorkRecord) (s : State) : touches decideAspects s (decideTake r w s) := by
  have finished (status : Nat) : touches decideAspects s (finish r status 0 s) := (finish_touches _ _ _ s).mono
  refine touches_ite (fun _ => finished _) fun _ => ?_
  split
  · exact finished _
  · exact touches_ite (fun _ => finished _) fun _ => (dispatchTo_touches _ _ s).mono

theorem takeSlip_touches (r : RecId) (i : SlipId) (w : WorkRecord) (s : State) :
    touches (.sweepCursor :: decideAspects) s (takeSlip r i w s) :=
  (((fillRecord_touches r w s).trans (zs := .sweepCursor :: decideAspects) (touches_postRecord _ _ _)).trans
    (zs := .sweepCursor :: decideAspects) (setSweepCursor_touches _ _)).trans (decideTake_touches _ _ _)

theorem skipSlip_touches (r : RecId) (i : SlipId) (w : WorkRecord) (s : State) :
    touches (.sweepCursor :: completionAspects) s (skipSlip r i w s) :=
  ((fillRecord_touches r w s).trans (zs := completionAspects) (finish_touches _ _ _ _)).trans (setSweepCursor_touches _ _)

theorem visitSlip_touches (r : RecId) (i : SlipId) (slip : List Byte) (s : State) :
    touches (.sweepCursor :: decideAspects) s (visitSlip r i slip s) := by
  refine touches_ite (fun _ => touches_refl _ s) fun _ => touches_ite (fun _ => touches_refl _ s) fun _ => ?_
  split
  · exact takeSlip_touches _ _ _ s
  · exact takeSlip_touches _ _ _ s
  · exact touches_ite (fun _ => (skipSlip_touches _ _ _ s).mono) fun _ => touches_refl _ s

/-- What a visit touches. -/
def visitAspects : List Aspect := sweepAspects ++ decideAspects

theorem slipVisit_touches (h : HostView) (s : State) : touches visitAspects s (slipVisit h s) := by
  unfold slipVisit
  split
  · split
    · exact ((setSweepCursor_touches _ s).trans (zs := visitAspects) (endSweep_touches _)).trans (raiseNotice_touches _ _)
    · exact (visitSlip_touches _ _ _ s).trans (afterVisit_touches _ _ _)
  · exact touches_refl _ s
  · exact touches_refl _ s

/-! ### Picture slips and the ends of store operations -/

theorem picDispatch_touches {xs : List Aspect} {k : Kind} {act : RecId → WorkRecord → State → State}
    (h : ∀ r w s, touches xs s (act r w s)) (s : State) : touches (.storeQueue :: xs) s (picDispatch k act s) := by
  have unchanged := touches_refl (.storeQueue :: xs) s
  have taken (q : List RecId) : touches [.storeQueue] s (s.setStore { s.store with queue := q }) :=
    touches_of_same (fun a ha => by cases a <;> first | rfl | exact fun _ => rfl | simp at ha) rfl
  refine touches_ite (fun _ => ?_) fun _ => unchanged
  split
  · split
    · exact touches_ite (fun _ => (taken _).trans (h _ _ _) (by simp) (by simp)) fun _ => unchanged
    · exact unchanged
  · exact unchanged

/-- What an accepted picture slip touches whose slot changes state. -/
def recordAspects : List Aspect := .stored :: .slotRecords :: choiceAspects

theorem enterRecorded_touches (j : Job) (i : SlotId) (d : DirRecord) (s : State) :
    touches recordAspects s (choose (enterJob j (recordSlot i d s))) :=
  ((recordSlot_touches i d s).trans (zs := recordAspects) (enterJob_touches _ _)).trans (choose_touches _)

theorem actPicOpen_touches (r : RecId) (w : WorkRecord) (s : State) : touches recordAspects s (actPicOpen r w s) := by
  have refused (status : Nat) : touches recordAspects s (finish r status 0 s) := (finish_touches _ _ _ s).mono
  unfold actPicOpen
  dsimp only
  split
  · exact refused _
  refine touches_ite (fun _ => refused _) fun _ => touches_ite (fun _ => refused _) fun _ =>
    touches_ite (fun _ => refused _) fun _ => ?_
  split
  · exact refused _
  · exact enterRecorded_touches _ _ _ s

theorem actPicWrite_touches (r : RecId) (w : WorkRecord) (s : State) : touches choiceAspects s (actPicWrite r w s) := by
  have refused (status : Nat) : touches choiceAspects s (finish r status 0 s) := (finish_touches _ _ _ s).mono
  unfold actPicWrite
  dsimp only
  split
  · exact refused _
  · exact touches_ite (fun _ => refused _) fun _ => touches_ite (fun _ => refused _) fun _ =>
      (enterJob_touches _ s).trans (choose_touches _)

theorem actPicSeal_touches (r : RecId) (w : WorkRecord) (s : State) : touches recordAspects s (actPicSeal r w s) := by
  have refused (status : Nat) : touches recordAspects s (finish r status 0 s) := (finish_touches _ _ _ s).mono
  unfold actPicSeal
  split
  · exact refused _
  · exact touches_ite (fun _ => refused _) fun _ => enterRecorded_touches _ _ _ s

/-- The lanes after a change of every carousel. -/
theorem touches_mapCarousels (f : Carousel → Carousel) (s : State) :
    touches [.carousel] s (s.setLanes (s.lanes.map fun x => { x with carousel := f x.carousel })) :=
  touches_setLanes fun l a ha => by
    have : (s.lanes.map fun x => { x with carousel := f x.carousel })[l] =
        { s.lane l with carousel := f (s.lane l).carousel } := Vector.getElem_map ..
    rw [this]
    cases a <;> first | rfl | trivial

theorem removeCondemned_touches (i : SlotId) (s : State) : touches airingAspects s (removeCondemned i s) :=
  (touches_mapCarousels (dropEntries i) s).trans (retally_touches _ _ _)

/-- What an accepted PIC_DROP touches. -/
def dropSlotAspects : List Aspect := recordAspects ++ airingAspects

theorem dropSlot_touches (r : RecId) (i : SlotId) (s : State) : touches dropSlotAspects s (dropSlot r i s) :=
  touches_ite (fun _ => (((recordSlot_touches i _ s).trans (zs := dropSlotAspects) (enterJob_touches _ _)).trans
    (zs := dropSlotAspects) (removeCondemned_touches i _)).trans (choose_touches _)) fun _ =>
    (enterRecorded_touches _ _ _ s).mono

theorem actPicDrop_touches (r : RecId) (w : WorkRecord) (s : State) : touches dropSlotAspects s (actPicDrop r w s) := by
  have refused (status : Nat) : touches dropSlotAspects s (finish r status 0 s) := (finish_touches _ _ _ s).mono
  unfold actPicDrop
  split
  · exact refused _
  · exact touches_ite (fun _ => refused _) fun _ => touches_ite (fun _ => refused _) fun _ =>
      touches_ite (fun _ => refused _) fun _ => dropSlot_touches _ _ s

/-- What the end of an erase touches. -/
def eraseEndAspects : List Aspect := .contents :: .recovery :: choiceAspects

theorem blockEraseEnd_touches (s : State) : touches eraseEndAspects s (blockEraseEnd s) := by
  have erased (b : Nat) := setContents_touches (storeErase s.store.contents b) s
  unfold blockEraseEnd
  split
  · dsimp only
    split
    · split
      · exact (erased _).trans (afterJobErase_touches _ _)
      · exact (erased _).trans (setRunning_touches _ _)
    · split
      · exact (erased _).trans (afterRecoveryErase_touches _ _)
      · exact (erased _).trans (setRunning_touches _ _)
  · exact touches_refl _ s

theorem writeHostRead_touches (h : HostView) (s : State) : touches choiceAspects s (writeHostRead h s) := by
  unfold writeHostRead
  split
  · split
    · split
      · exact ((setRunning_touches _ s).trans (zs := choiceAspects) (finish_touches _ _ _ _)).trans (choose_touches _)
      · exact touches_ite (fun _ => ((updateJob_touches _ _ s).trans (zs := choiceAspects) (setRunning_touches _ _)).trans
          (choose_touches _)) fun _ => (setRunning_touches _ s).mono
    · exact (setRunning_touches _ s).mono
  · exact touches_refl _ s

theorem pageProgramEnd_touches (s : State) : touches (.contents :: choiceAspects) s (pageProgramEnd s) := by
  unfold pageProgramEnd
  split
  · dsimp only
    split
    · exact (setContents_touches _ s).trans (afterProgram_touches _ _)
    · exact (setContents_touches _ s).trans (setRunning_touches _ _)
  · exact touches_refl _ s

theorem sealReadEnd_touches (s : State) : touches choiceAspects s (sealReadEnd s) := by
  unfold sealReadEnd
  split
  · split
    · split
      · exact (((updateJob_touches _ _ s).trans (zs := choiceAspects) (setRunning_touches _ _)).trans (zs := choiceAspects)
          (beginDirWrite_touches _ _)).trans (choose_touches _)
      · exact (setRunning_touches _ s).mono
    · exact (setRunning_touches _ s).mono
  · exact touches_refl _ s

theorem finishWith_touches (c : Option Completion) (s : State) : touches completionAspects s (finishWith c s) := by
  unfold finishWith
  split
  · exact finish_touches _ _ _ s
  · exact touches_refl _ s

theorem setDirWrites_touches (x : List DirWrite) (s : State) :
    touches [.dirWrites] s (s.setStore { s.store with dirWrites := x }) :=
  touches_of_same (fun a ha => by cases a <;> first | rfl | exact fun _ => rfl | simp at ha) rfl

theorem directoryWriteEnd_touches (s : State) : touches recordAspects s (directoryWriteEnd s) := by
  unfold directoryWriteEnd
  split
  · exact touches_refl _ s
  · exact (((setDirWrites_touches _ s).trans (zs := recordAspects) (recordSlot_touches _ _ _)).trans (zs := recordAspects)
      (finishWith_touches _ _)).trans (choose_touches _)

theorem recoverSlot_touches (s : State) (i : SlotId) : touches [.recovery, .dirWrites] s (recoverSlot s i) := by
  have unchanged := touches_refl [.recovery, .dirWrites] s
  have begun (w : DirWrite) := beginDirWrite_touches w s
  unfold recoverSlot
  dsimp only
  cases (s.slot i).record.state <;> cases (s.slot i).record.extent
  all_goals first
    | exact unchanged
    | exact (begun _).mono
    | exact (setRecovery_touches _ s).mono
    | exact (begun _).trans (setRecovery_touches _ _)

/-- What the read of the stored directory touches. -/
def loadAspects : List Aspect := [.slotRecords, .slotUsers, .loaded, .recovery] ++ choiceAspects

theorem storedDirectoryRead_touches (s : State) : touches loadAspects s (storedDirectoryRead s) := by
  have loaded : touches [.slotRecords, .slotUsers, .loaded] s (loadDirectory s) :=
    touches_of_same (fun a ha => by cases a <;> first | rfl | exact fun _ => rfl | simp at ha) rfl
  have mirrored (t : State) : touches [.posted] t (mirrorLoaded t) :=
    touches_foldl (fun _ _ => touches_ite (fun _ => touches_refl _ _) fun _ => writeDirectoryMirror_touches _ _) _ t
  exact touches_ite (fun _ => touches_refl _ s) fun _ => ((loaded.trans (zs := loadAspects) (mirrored _)).trans
    (zs := loadAspects) (touches_foldl recoverSlot_touches _ _)).trans (choose_touches _)

/-! ### Registers -/

theorem writeAnchor_touches (a : Addr) (s : State) : touches [.anchor] s (writeAnchor a s) :=
  touches_ite (fun _ => touches_refl _ s) fun _ =>
    touches_of_same (fun a ha => by cases a <;> first | rfl | exact fun _ => rfl | simp at ha) rfl

theorem setTimer_touches (ms : Byte) (s : State) : touches [.timer] s (setTimer ms s) :=
  touches_of_same (fun a ha => by cases a <;> first | rfl | exact fun _ => rfl | simp at ha) rfl

theorem stopTimer_touches (s : State) : touches [.timer] s (stopTimer s) :=
  touches_of_same (fun a ha => by cases a <;> first | rfl | exact fun _ => rfl | simp at ha) rfl

theorem firstRun_touches (s : State) : touches [.ran, .posted] s (firstRun s) := by
  have marked : touches [.ran] s (s.setRan true) :=
    touches_of_same (fun a ha => by cases a <;> first | rfl | exact fun _ => rfl | simp at ha) rfl
  have mirrored (t : State) : touches [.posted] t (writeFirstMirrors t) :=
    touches.trans (touches_foldl (fun u _ => touches_postRecord u _ _) _ t)
      (touches_foldl (fun u _ => touches_postRecord u _ _) _ _)
  exact touches_ite (fun _ => touches_refl _ s) fun _ => marked.trans (mirrored _)

theorem owedSweep_touches (s : State) : touches [.sweep, .owed] s (owedSweep s) :=
  touches_ite (fun _ => (setOwed_touches false s).trans (setSweep_touches _ _)) fun _ => touches_refl _ s

/-- What RUN becoming 1 touches, the assembly that begins apart. -/
def runStartAspects : List Aspect := [.ran, .posted, .sweep, .owed, .timer]

/-- What a write of RUNCTL touches. -/
def runctlAspects : List Aspect := [.run, .sweepMs] ++ runStartAspects ++ assemblyAspects ++ dropAspects

theorem runBecomesSet_touches (s : State) : touches (runStartAspects ++ assemblyAspects) s (runBecomesSet s) :=
  (((firstRun_touches s).trans (zs := runStartAspects) (owedSweep_touches _)).trans (zs := runStartAspects)
    (setTimer_touches _ _)).trans (beginAssembly_touches _)

theorem haltSweep_touches (s : State) : touches [.sweep] s (haltSweep s) := by
  unfold haltSweep
  split
  · exact touches_refl _ s
  · exact setSweep_touches _ s
  · exact setSweep_touches _ s

theorem runBecomesClear_touches (begun : List LaneId) (s : State) :
    touches (.timer :: .sweep :: dropAspects) s (runBecomesClear begun s) :=
  ((stopTimer_touches s).trans (zs := [.timer, .sweep]) (haltSweep_touches _)).trans (dropAssembly_touches _ _)

theorem setRunctl_touches (run : Bool) (ms : Byte) (s : State) :
    touches [.run, .sweepMs] s (s.setRegs { s.regs with run := run, sweepMs := ms }) :=
  touches_of_same (fun a ha => by cases a <;> first | rfl | exact fun _ => rfl | simp at ha) rfl

theorem writeRunctl_touches (run : Bool) (ms : Byte) (begun : List LaneId) (s : State) :
    touches runctlAspects s (writeRunctl run ms begun s) := by
  have written := setRunctl_touches run ms s
  have retimed (t : State) (old : Byte) : touches [.timer] t (retime old t) :=
    touches_ite (fun _ => setTimer_touches _ t) fun _ => touches_refl _ t
  exact touches_ite (fun _ => written.trans (retimed _ _)) fun _ =>
    touches_ite (fun _ => written.trans (runBecomesSet_touches _)) fun _ => written.trans (runBecomesClear_touches _ _)

theorem timerExpiry_touches (s : State) : touches [.sweep, .owed, .timer] s (timerExpiry s) := by
  unfold timerExpiry
  split
  · exact (setTimer_touches _ s).trans (triggerSweep_touches _)
  · exact touches_refl _ s

/-- What a reset touches: all but the level of AIR_RST_N, what was posted and the commands that wait. -/
def resetAspects : List Aspect :=
  [.run, .sweepMs, .anchor, .notice, .noticeEn, .sweep, .sweepCursor, .owed, .timer, .records, .laneState, .pageA, .pageB,
   .pageSize, .pace, .audioFrom, .textFrom, .pictureFrom, .credit, .saturation, .feed, .laneText, .carousel, .counts,
   .active, .generation, .upcoming, .mapChecking, .switched, .laneSlips, .mapLoads, .counter, .voidCount, .assembler,
   .stragglers, .airData, .poolCursor, .textQueue, .putting, .carouselQueue, .contents, .stored, .slotRecords, .slotUsers,
   .loaded, .storeQueue, .jobs, .running, .recovery, .hold, .dirWrites, .places, .log, .alertQueue, .raiseChecking, .ran,
   .draws]

theorem resetKeeping_touches (regs : Registers) (s : State) : touches resetAspects s (resetKeeping regs s) :=
  touches_of_same (fun a ha => by cases a <;> first | rfl | trivial) rfl

/-! ### Commands -/

/-- What each command touches. -/
def touched : Instr → List Aspect
  | .powerOnReset | .softReset _ _ => resetAspects
  | .runSet _ | .runClear _ _ | .sweepMsWrite _ => runctlAspects
  | .anchorLoWrite _ | .anchorHiWrite _ => [.anchor]
  | .prompt _ => [.sweep, .owed]
  | .noticeWrite _ => [.notice]
  | .noticeEnWrite _ => [.noticeEn, .posted]
  | .registerWriteOther _ _ => []
  | .sweepTimerExpiry => [.sweep, .owed, .timer]
  | .sweepHandRead _ => sweepAspects ++ [.notice, .posted]
  | .slipVisit _ => visitAspects
  | .laneSetup => .laneSlips :: (setupAspects ++ .draws :: completionAspects)
  | .laneRetire => .laneSlips :: retireAspects
  | .laneHalt => .laneSlips :: .laneState :: .credit :: .draws :: completionAspects
  | .laneResume => .laneSlips :: .laneState :: .draws :: completionAspects
  | .mapLoad => .mapLoads :: .mapChecking :: .draws :: completionAspects
  | .mapTableRead _ => .mapChecking :: .upcoming :: .draws :: completionAspects
  | .textPut => .textQueue :: .putting :: .draws :: completionAspects
  | .textPutApply _ => .putting :: .laneText :: .draws :: completionAspects
  | .textDrop | .textClear => .textQueue :: .laneText :: .draws :: completionAspects
  | .carSet => .carouselQueue :: (airingAspects ++ completionAspects)
  | .carJump => .carouselQueue :: .carousel :: completionAspects
  | .picOpen | .picSeal => .storeQueue :: recordAspects
  | .picWrite => .storeQueue :: choiceAspects
  | .picDrop => .storeQueue :: dropSlotAspects
  | .alertRaise => .alertQueue :: .raiseChecking :: raiseAspects
  | .alertRaiseApply _ => .raiseChecking :: raiseAspects
  | .alertEnd => .alertQueue :: (endAlertAspects ++ completionAspects)
  | .blockEraseEnd => eraseEndAspects
  | .writeHostRead _ | .sealReadEnd => choiceAspects
  | .pageProgramEnd => .contents :: choiceAspects
  | .directoryWriteEnd => recordAspects
  | .storedDirectoryRead => loadAspects
  | .airRstFall => [.airRstN, .airData]
  | .airRstRise => [.airRstN]
  | .airPull _ => pullAspects
  | .transmissionEnd => [.airData]
  | .laneFetch _ _ => .stragglers :: assemblyFetchAspects
  | .pictureDataRead _ | .assemblyComplete => [.assembler]

/-- Every command answers a next state, and touches what its list names. -/
theorem exec_touches (c : Instr) (s : State) : ∃ t, exec c s = .next t ∧ touches (touched c) s t := by
  cases c with
  | powerOnReset => exact ⟨_, rfl, resetKeeping_touches _ s⟩
  | softReset run ms => exact ⟨_, rfl, resetKeeping_touches _ s⟩
  | runSet ms => exact ⟨_, rfl, writeRunctl_touches _ _ _ s⟩
  | runClear ms begun => exact ⟨_, rfl, writeRunctl_touches _ _ _ s⟩
  | sweepMsWrite ms => exact ⟨_, rfl, writeRunctl_touches _ _ _ s⟩
  | anchorLoWrite v => exact ⟨_, rfl, writeAnchor_touches _ s⟩
  | anchorHiWrite v => exact ⟨_, rfl, writeAnchor_touches _ s⟩
  | prompt v => exact ⟨_, rfl, triggerSweep_touches s⟩
  | noticeWrite v =>
    exact ⟨_, rfl, touches_of_same (fun a ha => by cases a <;> first | rfl | exact fun _ => rfl | simp [touched] at ha) rfl⟩
  | noticeEnWrite v =>
    have written : touches [.noticeEn] s (s.setRegs { s.regs with noticeEn := v.extractLsb' 0 4 }) :=
      touches_of_same (fun a ha => by cases a <;> first | rfl | exact fun _ => rfl | trivial) rfl
    exact ⟨_, rfl, written.trans (zs := [.noticeEn, .posted]) (postInterrupts_touches _ _)⟩
  | registerWriteOther o v => exact ⟨_, rfl, touches_refl _ s⟩
  | sweepTimerExpiry => exact ⟨_, rfl, timerExpiry_touches s⟩
  | sweepHandRead h => exact ⟨_, rfl, sweepHandRead_touches h s⟩
  | slipVisit h => exact ⟨_, rfl, slipVisit_touches h s⟩
  | laneSetup => exact ⟨_, rfl, laneDispatch_touches actLaneSetup_touches s⟩
  | laneRetire => exact ⟨_, rfl, laneDispatch_touches actLaneRetire_touches s⟩
  | laneHalt => exact ⟨_, rfl, laneDispatch_touches actLaneHalt_touches s⟩
  | laneResume => exact ⟨_, rfl, laneDispatch_touches actLaneResume_touches s⟩
  | mapLoad => exact ⟨_, rfl, mapLoad_touches s⟩
  | mapTableRead h => exact ⟨_, rfl, mapTableRead_touches h s⟩
  | textPut => exact ⟨_, rfl, textDispatch_touches actTextPut_touches s⟩
  | textPutApply h => exact ⟨_, rfl, textPutApply_touches h s⟩
  | textDrop => exact ⟨_, rfl, textDispatch_touches actTextDrop_touches s⟩
  | textClear => exact ⟨_, rfl, textDispatch_touches actTextClear_touches s⟩
  | carSet => exact ⟨_, rfl, carouselDispatch_touches actCarSet_touches s⟩
  | carJump => exact ⟨_, rfl, carouselDispatch_touches actCarJump_touches s⟩
  | picOpen => exact ⟨_, rfl, picDispatch_touches actPicOpen_touches s⟩
  | picWrite => exact ⟨_, rfl, picDispatch_touches actPicWrite_touches s⟩
  | picSeal => exact ⟨_, rfl, picDispatch_touches actPicSeal_touches s⟩
  | picDrop => exact ⟨_, rfl, picDispatch_touches actPicDrop_touches s⟩
  | alertRaise => exact ⟨_, rfl, alertDispatch_touches actAlertRaise_touches s⟩
  | alertRaiseApply h => exact ⟨_, rfl, alertRaiseApply_touches h s⟩
  | alertEnd => exact ⟨_, rfl, alertDispatch_touches actAlertEnd_touches s⟩
  | blockEraseEnd => exact ⟨_, rfl, blockEraseEnd_touches s⟩
  | writeHostRead h => exact ⟨_, rfl, writeHostRead_touches h s⟩
  | pageProgramEnd => exact ⟨_, rfl, pageProgramEnd_touches s⟩
  | sealReadEnd => exact ⟨_, rfl, sealReadEnd_touches s⟩
  | directoryWriteEnd => exact ⟨_, rfl, directoryWriteEnd_touches s⟩
  | storedDirectoryRead => exact ⟨_, rfl, storedDirectoryRead_touches s⟩
  | airRstFall => exact ⟨_, rfl, airRstFall_touches s⟩
  | airRstRise =>
    exact ⟨_, rfl, touches_of_same (fun a ha => by cases a <;> first | rfl | exact fun _ => rfl | simp [touched] at ha) rfl⟩
  | airPull begun => exact ⟨_, rfl, airPull_touches begun s⟩
  | transmissionEnd => exact ⟨_, rfl, transmissionEnd_touches s⟩
  | laneFetch l h => exact ⟨_, rfl, laneFetch_touches l h s⟩
  | pictureDataRead l => exact ⟨_, rfl, pictureDataRead_touches l s⟩
  | assemblyComplete => exact ⟨_, rfl, assemblyComplete_touches s⟩

/-- A property of states that does not read the queue of commands, and that every command keeps, is kept by every step. -/
theorem step_keeps {P : State → Prop} (queue : ∀ s cs, P s → P (s.withPending cs))
    (keeps : ∀ c s t, P s → exec c s = .next t → P t) {s t : State} (h : P s) (hs : step s = .next t) : P t := by
  unfold step at hs
  split at hs
  · cases hs; exact h
  next c rest _ => exact keeps c _ t (queue s rest h) hs

theorem touches_of_exec {c : Instr} {s t : State} (h : exec c s = .next t) : touches (touched c) s t := by
  obtain ⟨u, hu, touch⟩ := exec_touches c s
  cases hu.symm.trans h
  exact touch

/-- Settles O2: no command touches the queue of commands, and none takes back what was posted. -/
theorem everyCommandAnswersAndOnlyAppends : Obligations.EveryCommandAnswersAndOnlyAppends := by
  intro c s
  obtain ⟨t, ht, touch⟩ := exec_touches c s
  exact ⟨t, ht, touch.same .pending (by cases c <;> dsimp only [touched] <;> decide), touch.posted⟩

/-- Settles O1. -/
theorem stepExecutesTheFrontCommand : Obligations.StepExecutesTheFrontCommand := fun _ _ _ => rfl

end Sys2Proof.Machine
end

/-! ## Proofs: RUN, the link and the anchor between any two commands (3.1, 3.2, 9.1)

An invariant that reads only some aspects is kept by every command that touches none of them; what is left for each invariant
are the few commands that do. -/

section
namespace Sys2Proof.Machine

/-! ### The assembler after an assembly has gone on -/

theorem goOnFetching_assembler (p : Plan) (c : Carriage) (s : State) :
    ∃ c', (goOnFetching p c s).frames.assembler = .assembling p c' := by
  unfold goOnFetching
  split
  · exact ⟨_, rfl⟩
  · exact ⟨_, rfl⟩

theorem beginAssembly_assembler (s : State) : ∃ p c, (beginAssembly s).frames.assembler = .assembling p c :=
  ⟨_, goOnFetching_assembler _ _ _⟩

theorem assemblyFetch_assembler (p : Plan) (c : Carriage) (l : LaneId) (h : HostView) (s : State) :
    ∃ c', (assemblyFetch p c l h s).frames.assembler = .assembling p c' := by
  unfold assemblyFetch
  dsimp only
  split
  · exact goOnFetching_assembler _ _ _
  · exact goOnFetching_assembler _ _ _

theorem dropAssembly_assembler (begun : List LaneId) (s : State) : (dropAssembly begun s).frames.assembler = .stopped := by
  unfold dropAssembly
  split
  next stopped => exact stopped
  · rfl
  · rfl

/-! ### RUN, the assembler and the timer -/

theorem RunSound.of_touches {xs : List Aspect} {s t : State} (h : RunSound s) (touch : touches xs s t)
    (away : ∀ a ∈ [Aspect.run, .assembler, .timer], a ∉ xs) : RunSound t := by
  have run : t.regs.run = s.regs.run := touch.same .run (away _ (by decide))
  have assembler : t.frames.assembler = s.frames.assembler := touch.same .assembler (away _ (by decide))
  have timer : t.reader.timer = s.reader.timer := touch.same .timer (away _ (by decide))
  unfold RunSound
  rw [run, assembler, timer]
  exact h

/-- An operation that keeps RUN and the timer keeps the invariant if it keeps whether the assembler is STOPPED. -/
theorem RunSound.of_assembler {xs : List Aspect} {s t : State} (h : RunSound s) (touch : touches xs s t)
    (away : ∀ a ∈ [Aspect.run, .timer], a ∉ xs)
    (assembler : t.frames.assembler = .stopped ↔ s.frames.assembler = .stopped) : RunSound t := by
  have run : t.regs.run = s.regs.run := touch.same .run (away _ (by decide))
  have timer : t.reader.timer = s.reader.timer := touch.same .timer (away _ (by decide))
  unfold RunSound
  rw [run, timer, assembler]
  exact h

theorem runSound_of_set {t : State} (run : t.regs.run = true) (assembler : t.frames.assembler ≠ .stopped) : RunSound t := by
  simp [RunSound, run, assembler]

theorem runSound_of_clear {t : State} (run : t.regs.run = false) (assembler : t.frames.assembler = .stopped)
    (timer : t.reader.timer = none) : RunSound t := by
  simp [RunSound, run, assembler, timer]

theorem runBecomesSet_assembler (s : State) : ∃ p c, (runBecomesSet s).frames.assembler = .assembling p c :=
  beginAssembly_assembler _

theorem retime_runSound {s : State} (h : RunSound s) (old : Byte) : RunSound (retime old s) := by
  unfold retime
  split
  next changed =>
    obtain ⟨set, -⟩ := Bool.and_eq_true_iff.mp changed
    exact runSound_of_set set fun e => by simp [h.1.mpr e] at set
  next => exact h

theorem writeRunctl_runSound {s : State} (h : RunSound s) (run : Bool) (ms : Byte) (begun : List LaneId) :
    RunSound (writeRunctl run ms begun s) := by
  unfold writeRunctl
  dsimp only
  split
  next same =>
    subst same
    exact retime_runSound (s := s.setRegs { s.regs with run := s.regs.run, sweepMs := ms }) h _
  split
  next set =>
    obtain ⟨p, c, building⟩ := runBecomesSet_assembler (s.setRegs { s.regs with run := run, sweepMs := ms })
    exact runSound_of_set (((runBecomesSet_touches _).same .run).trans set) (by rw [building]; exact fun e => by cases e)
  next clear =>
    exact runSound_of_clear (((runBecomesClear_touches _ _).same .run).trans (by simpa using clear))
      (dropAssembly_assembler _ _) (((dropAssembly_touches _ _).same .timer).trans ((haltSweep_touches _).same .timer))

theorem sendFrame_assembler (p : Plan) (c : Carriage) (frame : List Byte) (s : State) :
    ∃ p' c', (sendFrame p c frame s).frames.assembler = .assembling p' c' := beginAssembly_assembler _

theorem latePull_assembler (begun : List LaneId) (s : State) :
    ∃ p c, (latePull begun s).frames.assembler = .assembling p c := beginAssembly_assembler _

theorem airPull_stopped_iff (begun : List LaneId) (s : State) :
    (airPull begun s).frames.assembler = .stopped ↔ s.frames.assembler = .stopped := by
  unfold airPull
  split
  · unfold answerPull
    split
    next stopped => rw [(sendVoid_touches s).same .assembler]
    next building =>
      obtain ⟨p, c, e⟩ := latePull_assembler begun s
      rw [e, building]
      simp
    next p c frame finished =>
      obtain ⟨p', c', e⟩ := sendFrame_assembler p c frame s
      rw [e, finished]
      simp
  · rfl

theorem laneFetch_stopped_iff (l : LaneId) (h : HostView) (s : State) :
    (laneFetch l h s).frames.assembler = .stopped ↔ s.frames.assembler = .stopped := by
  unfold laneFetch
  split
  · rw [(straggle_touches _ h s).same .assembler]
  split
  next p c building =>
    split
    · obtain ⟨c', e⟩ := assemblyFetch_assembler p c l h s
      simp [e, building]
    · rfl
  · rfl
  · rfl

theorem pictureDataRead_stopped_iff (l : LaneId) (s : State) :
    (pictureDataRead l s).frames.assembler = .stopped ↔ s.frames.assembler = .stopped := by
  unfold pictureDataRead
  split
  next building => split <;> simp [setAssembler, building]
  · rfl
  · rfl

theorem assemblyComplete_stopped_iff (s : State) :
    (assemblyComplete s).frames.assembler = .stopped ↔ s.frames.assembler = .stopped := by
  unfold assemblyComplete
  split
  next building => split <;> simp [setAssembler, building]
  · rfl
  · rfl

theorem exec_runSound (c : Instr) (s t : State) (h : RunSound s) (hs : exec c s = .next t) : RunSound t := by
  have touch := touches_of_exec hs
  cases c
  case powerOnReset => cases hs; exact runSound_of_clear rfl rfl rfl
  case softReset => cases hs; exact runSound_of_clear rfl rfl rfl
  case runSet => cases hs; exact writeRunctl_runSound h _ _ _
  case runClear => cases hs; exact writeRunctl_runSound h _ _ _
  case sweepMsWrite => cases hs; exact writeRunctl_runSound h _ _ _
  case sweepTimerExpiry =>
    cases hs
    unfold timerExpiry at *
    split
    next ms running =>
      have set : s.regs.run = true := by
        by_contra clear
        simp [h.2 (by simpa using clear)] at running
      have touch := (setTimer_touches s.regs.sweepMs s).trans (zs := [.sweep, .owed, .timer]) (triggerSweep_touches _)
      refine runSound_of_set ((touch.same .run).trans set) ?_
      rw [touch.same .assembler]
      exact fun e => by simp [h.1.mpr e] at set
    next => exact h
  case airPull =>
    cases hs
    exact h.of_assembler touch (by dsimp only [touched]; decide) (airPull_stopped_iff _ s)
  case laneFetch =>
    cases hs
    exact h.of_assembler touch (by dsimp only [touched]; decide) (laneFetch_stopped_iff _ _ s)
  case pictureDataRead =>
    cases hs
    exact h.of_assembler touch (by dsimp only [touched]; decide) (pictureDataRead_stopped_iff _ s)
  case assemblyComplete =>
    cases hs
    exact h.of_assembler touch (by dsimp only [touched]; decide) (assemblyComplete_stopped_iff s)
  all_goals exact h.of_touches touch (by dsimp only [touched]; decide)

/-! ### The link -/

theorem LinkSound.of_touches {xs : List Aspect} {s t : State} (h : LinkSound s) (touch : touches xs s t)
    (away : ∀ a ∈ [Aspect.airRstN, .airData], a ∉ xs) : LinkSound t := by
  intro f sending
  rw [touch.same .airData (away _ (by decide))] at sending
  rw [touch.same .airRstN (away _ (by decide))]
  exact h f sending

theorem exec_linkSound (c : Instr) (s t : State) (h : LinkSound s) (hs : exec c s = .next t) : LinkSound t := by
  have touch := touches_of_exec hs
  cases c
  case powerOnReset => cases hs; exact fun f sending => by cases sending
  case softReset => cases hs; exact fun f sending => by cases sending
  case airRstFall =>
    cases hs
    unfold airRstFall
    split
    next up =>
      intro f sending
      simp only [State.setLink_link] at sending
      split at sending
      · cases sending
      next off => simp [transmitting, sending] at off
    next => exact h
  case airRstRise => cases hs; exact fun _ _ => rfl
  case airPull begun =>
    cases hs
    by_cases taken : (s.link.airRstN && !transmitting s) = true
    · intro f _
      rw [touch.same .airRstN (by dsimp only [touched]; decide)]
      exact (Bool.and_eq_true_iff.mp taken).1
    · rw [airPull, if_neg taken]
      exact h
  case transmissionEnd =>
    cases hs
    unfold transmissionEnd
    split
    next => exact fun f sending => by cases sending
    next => exact h
  all_goals exact h.of_touches touch (by dsimp only [touched]; decide)

/-! ### The anchor -/

theorem anchorSound_iff (s : State) : AnchorSound s ↔ ∀ i < 12, s.regs.anchor.getLsbD i = false := by
  have low : s.regs.anchor.toNat % 4096 = (s.regs.anchor.setWidth 12).toNat := by simp
  unfold AnchorSound
  rw [low]
  constructor
  · intro h i hi
    have zero : s.regs.anchor.setWidth 12 = 0#12 := BitVec.eq_of_toNat_eq h
    have := congrArg (fun v => v.getLsbD i) zero
    simpa [hi] using this
  · intro h
    have zero : s.regs.anchor.setWidth 12 = 0#12 := BitVec.eq_of_getLsbD_eq fun i hi => by simp [h i hi]
    rw [zero]
    rfl

theorem withAnchorLo_getLsbD (a : Addr) (v : Word) (i : Nat) (hi : i < 64) : (withAnchorLo a v).getLsbD i =
    if i < 12 then false else if i < 32 then v.getLsbD i else a.getLsbD i := by
  have mask : ∀ j < 32, (0xFFFFF000 : BitVec 32).getLsbD j = decide (12 ≤ j) := by decide
  unfold withAnchorLo
  rw [BitVec.getLsbD_append]
  by_cases low : i < 32
  · rw [if_pos low, BitVec.getLsbD_and, mask i low]
    by_cases zero : i < 12
    · simp [zero]
    · simp [zero, low, show 12 ≤ i by omega]
  · rw [if_neg low, if_neg (by omega), if_neg low, BitVec.getLsbD_extractLsb']
    simp [show i - 32 < 32 by omega, show 32 + (i - 32) = i by omega]

theorem withAnchorHi_getLsbD (a : Addr) (v : Word) (i : Nat) : (withAnchorHi a v).getLsbD i =
    if i < 32 then a.getLsbD i else v.getLsbD (i - 32) := by
  unfold withAnchorHi
  rw [BitVec.getLsbD_append]
  split
  next low => simp [low]
  next => rfl

theorem writeAnchor_anchorSound {a : Addr} {s : State} (h : AnchorSound s) (ha : ∀ i < 12, a.getLsbD i = false) :
    AnchorSound (writeAnchor a s) := by
  unfold writeAnchor
  split
  · exact h
  · exact (anchorSound_iff _).mpr ha

theorem exec_anchorSound (c : Instr) (s t : State) (h : AnchorSound s) (hs : exec c s = .next t) : AnchorSound t := by
  have touch := touches_of_exec hs
  have bits := (anchorSound_iff s).mp h
  have kept (xs : List Aspect) (touch : touches xs s t) (away : Aspect.anchor ∉ xs) : AnchorSound t := by
    unfold AnchorSound
    rw [touch.same .anchor away]
    exact h
  cases c
  case powerOnReset => cases hs; rfl
  case softReset => cases hs; exact h
  case anchorLoWrite v =>
    cases hs
    refine writeAnchor_anchorSound h fun i hi => ?_
    rw [withAnchorLo_getLsbD _ _ _ (by omega), if_pos hi]
  case anchorHiWrite v =>
    cases hs
    refine writeAnchor_anchorSound h fun i hi => ?_
    rw [withAnchorHi_getLsbD, if_pos (by omega)]
    exact bits i hi
  all_goals exact kept _ touch (by dsimp only [touched]; decide)

/-- Settles O55: each of the three is kept by every command, most of which touch nothing that it reads. -/
theorem everyStepKeepsControlStateSound : Obligations.EveryStepKeepsControlStateSound := by
  intro s t run link anchor hs
  exact ⟨step_keeps (fun _ _ h => h) exec_runSound run hs, step_keeps (fun _ _ h => h) exec_linkSound link hs,
    step_keeps (fun _ _ h => h) exec_anchorSound anchor hs⟩

end Sys2Proof.Machine
end

/-! ## Proofs: dispatches, and events that cannot occur

Each owner's dispatch acts exactly on the oldest of its dispatched slips, when that is of the kind asked for; else it changes
nothing. The two lemmas of each dispatch say this in the terms of `slipAt` and `laneSlipAt`. -/

section
namespace Sys2Proof.Machine

/-! ### The dispatches -/

theorem laneDispatch_at {k : Kind} {s : State} {r : RecId} {rest : List RecId} {w : WorkRecord} {l : LaneId}
    (h : laneSlipAt .lane k s r rest w l) (act : RecId → WorkRecord → LaneId → State → State) :
    laneDispatch k act s = act r w l (s.setMaps { s.maps with laneSlips := rest }) := by
  obtain ⟨⟨front, work, kind⟩, lane⟩ := h
  have front : s.maps.laneSlips = r :: rest := front
  simp [laneDispatch, front, work, lane, kind]

theorem laneDispatch_idle {k : Kind} {s : State} (h : ∀ r rest w l, ¬ laneSlipAt .lane k s r rest w l)
    (act : RecId → WorkRecord → LaneId → State → State) : laneDispatch k act s = s := by
  unfold laneDispatch
  split
  next r rest front =>
    split
    next w work =>
      split
      next l lane => exact if_neg fun kind => h r rest w l ⟨⟨front, work, kind⟩, lane⟩
      next => rfl
    next => rfl
  next => rfl

theorem textDispatch_at {k : Kind} {s : State} {r : RecId} {rest : List RecId} {w : WorkRecord} {l : LaneId}
    (h : laneSlipAt .text k s r rest w l) (free : s.text.putting = none)
    (act : RecId → WorkRecord → LaneId → State → State) :
    textDispatch k act s = act r w l (s.setText { s.text with queue := rest }) := by
  obtain ⟨⟨front, work, kind⟩, lane⟩ := h
  have front : s.text.queue = r :: rest := front
  simp [textDispatch, free, front, work, lane, kind]

theorem textDispatch_idle {k : Kind} {s : State} (h : ∀ r rest w l, ¬ laneSlipAt .text k s r rest w l)
    (act : RecId → WorkRecord → LaneId → State → State) : textDispatch k act s = s := by
  unfold textDispatch
  split
  next => rfl
  next =>
    split
    next r rest front =>
      split
      next w work =>
        split
        next l lane => exact if_neg fun kind => h r rest w l ⟨⟨front, work, kind⟩, lane⟩
        next => rfl
      next => rfl
    next => rfl

theorem textDispatch_busy {k : Kind} {s : State} (h : s.text.putting ≠ none)
    (act : RecId → WorkRecord → LaneId → State → State) : textDispatch k act s = s := by
  obtain ⟨r, hr⟩ := Option.ne_none_iff_exists'.mp h
  simp [textDispatch, hr]

theorem carouselDispatch_at {k : Kind} {s : State} {r : RecId} {rest : List RecId} {w : WorkRecord} {l : LaneId}
    (h : laneSlipAt .carousel k s r rest w l) (act : RecId → WorkRecord → LaneId → State → State) :
    carouselDispatch k act s = act r w l (s.setCarousels rest) := by
  obtain ⟨⟨front, work, kind⟩, lane⟩ := h
  have front : s.carousels = r :: rest := front
  simp [carouselDispatch, front, work, lane, kind]

theorem carouselDispatch_idle {k : Kind} {s : State} (h : ∀ r rest w l, ¬ laneSlipAt .carousel k s r rest w l)
    (act : RecId → WorkRecord → LaneId → State → State) : carouselDispatch k act s = s := by
  unfold carouselDispatch
  split
  next r rest front =>
    split
    next w work =>
      split
      next l lane => exact if_neg fun kind => h r rest w l ⟨⟨front, work, kind⟩, lane⟩
      next => rfl
    next => rfl
  next => rfl

theorem picDispatch_at {k : Kind} {s : State} {r : RecId} {rest : List RecId} {w : WorkRecord}
    (h : slipAt .store k s r rest w) (loaded : s.store.loaded = true) (act : RecId → WorkRecord → State → State) :
    picDispatch k act s = act r w (s.setStore { s.store with queue := rest }) := by
  obtain ⟨front, work, kind⟩ := h
  have front : s.store.queue = r :: rest := front
  simp [picDispatch, loaded, front, work, kind]

theorem picDispatch_idle {k : Kind} {s : State} (h : ∀ r rest w, ¬ slipAt .store k s r rest w)
    (act : RecId → WorkRecord → State → State) : picDispatch k act s = s := by
  unfold picDispatch
  split
  next =>
    split
    next r rest front =>
      split
      next w work => exact if_neg fun kind => h r rest w ⟨front, work, kind⟩
      next => rfl
    next => rfl
  next => rfl

theorem picDispatch_waits {k : Kind} {s : State} (h : s.store.loaded = false) (act : RecId → WorkRecord → State → State) :
    picDispatch k act s = s := by simp [picDispatch, h]

theorem alertDispatch_at {k : Kind} {s : State} {r : RecId} {rest : List RecId} {w : WorkRecord}
    (h : slipAt .alert k s r rest w) (free : s.alerts.checking = none) (act : RecId → WorkRecord → State → State) :
    alertDispatch k act s = act r w (s.setAlerts { s.alerts with queue := rest }) := by
  obtain ⟨front, work, kind⟩ := h
  have front : s.alerts.queue = r :: rest := front
  simp [alertDispatch, free, front, work, kind]

theorem alertDispatch_idle {k : Kind} {s : State} (h : ∀ r rest w, ¬ slipAt .alert k s r rest w)
    (act : RecId → WorkRecord → State → State) : alertDispatch k act s = s := by
  unfold alertDispatch
  split
  next => rfl
  next =>
    split
    next r rest front =>
      split
      next w work => exact if_neg fun kind => h r rest w ⟨front, work, kind⟩
      next => rfl
    next => rfl

theorem alertDispatch_busy {k : Kind} {s : State} (h : s.alerts.checking ≠ none) (act : RecId → WorkRecord → State → State) :
    alertDispatch k act s = s := by
  obtain ⟨r, hr⟩ := Option.ne_none_iff_exists'.mp h
  simp [alertDispatch, hr]

/-! ### Ends of operations that are not under way -/

theorem mapLoad_idle {s : State} (h : s.maps.mapLoads = [] ∨ s.maps.checking ≠ none) : mapLoad s = s := by
  unfold mapLoad
  split
  next => rfl
  next checking =>
    have empty : s.maps.mapLoads = [] := h.resolve_right fun k => k checking
    simp [empty]

theorem sweepHandRead_idle {s : State} (h : s.reader.sweep ≠ .readingHands) (v : HostView) : sweepHandRead v s = s := by
  unfold sweepHandRead
  split
  next e => exact absurd e h
  next => rfl
  next => rfl

theorem slipVisit_idle {s : State} (h : ∀ r i rest last, s.reader.sweep ≠ .visiting r i rest last) (v : HostView) :
    slipVisit v s = s := by
  unfold slipVisit
  split
  next r i rest last e => exact absurd e (h r i rest last)
  next => rfl
  next => rfl

theorem blockEraseEnd_idle {s : State} (h : ∀ x b, s.store.running ≠ some ⟨x, .erase b⟩) : blockEraseEnd s = s := by
  unfold blockEraseEnd
  split
  next x b e => exact absurd e (h x b)
  next => rfl

theorem writeHostRead_idle {s : State} (h : ∀ r p, s.store.running ≠ some ⟨.job r, .hostRead p⟩) (v : HostView) :
    writeHostRead v s = s := by
  unfold writeHostRead
  split
  next r p e => exact absurd e (h r p)
  next => rfl

theorem pageProgramEnd_idle {s : State} (h : ∀ r a d, s.store.running ≠ some ⟨.job r, .program a d⟩) :
    pageProgramEnd s = s := by
  unfold pageProgramEnd
  split
  next r a d e => exact absurd e (h r a d)
  next => rfl

theorem sealReadEnd_idle {s : State} (h : ∀ r, s.store.running ≠ some ⟨.job r, .sealRead⟩) : sealReadEnd s = s := by
  unfold sealReadEnd
  split
  next r e => exact absurd e (h r)
  next => rfl

theorem laneFetch_idle {s : State} {l : LaneId} (none_kept : ∀ g ∈ s.frames.stragglers, g.lane ≠ l)
    (h : ∀ p c, s.frames.assembler = .assembling p c → c.stage = .fetching → l ∉ c.toFetch) (v : HostView) :
    laneFetch l v s = s := by
  have kept : s.frames.stragglers.find? (fun g => g.lane = l) = none := by simpa using none_kept
  unfold laneFetch
  rw [kept]
  dsimp only
  split
  next p c e =>
    refine if_neg fun ⟨stage, mem⟩ => h p c e stage ?_
    simpa using mem
  next => rfl
  next => rfl

theorem pictureDataRead_idle {s : State} {l : LaneId}
    (h : ∀ p c, s.frames.assembler = .assembling p c → c.stage = .items → l ∉ c.toRead) : pictureDataRead l s = s := by
  unfold pictureDataRead
  split
  next p c e =>
    refine if_neg fun ⟨stage, mem⟩ => h p c e stage ?_
    simpa using mem
  next => rfl
  next => rfl

theorem assemblyComplete_idle {s : State}
    (h : ∀ p c, s.frames.assembler = .assembling p c → c.stage = .items → c.toRead ≠ []) : assemblyComplete s = s := by
  unfold assemblyComplete
  split
  next p c e =>
    refine if_neg fun ⟨stage, empty⟩ => h p c e stage ?_
    simpa using empty
  next => rfl
  next => rfl

theorem transmissionEnd_idle {s : State} (h : ∀ f, s.link.airData ≠ .sending f) : transmissionEnd s = s := by
  have : transmitting s = false := by
    unfold transmitting
    split
    next f e => exact absurd e (h f)
    next => rfl
    next => rfl
  simp [transmissionEnd, this]

/-- Settles O3, event by event. -/
theorem eventsThatCannotOccurChangeNothing : Obligations.EventsThatCannotOccurChangeNothing := by
  intro s v l
  refine ⟨?_, ?_, fun busy => ?_, fun unread => ?_, fun busy => ?_, fun h => ?_, fun h => ?_, fun h => ?_, fun h => ?_,
    fun h => ?_, fun h => ?_, fun h => ?_, fun h => ?_, fun h => ?_, fun h => ?_, fun h => ?_, fun h => ?_, fun h k => ?_,
    fun h => ?_, fun h => ?_, fun h => ?_, fun h => ?_⟩
  · simp only [List.forall_mem_cons, List.not_mem_nil, false_imp_iff, implies_true, and_true]
    exact ⟨fun h => congrArg _ (laneDispatch_idle h _), fun h => congrArg _ (laneDispatch_idle h _),
      fun h => congrArg _ (laneDispatch_idle h _), fun h => congrArg _ (laneDispatch_idle h _),
      fun h => congrArg _ (textDispatch_idle h _), fun h => congrArg _ (textDispatch_idle h _),
      fun h => congrArg _ (textDispatch_idle h _), fun h => congrArg _ (carouselDispatch_idle h _),
      fun h => congrArg _ (carouselDispatch_idle h _)⟩
  · simp only [List.forall_mem_cons, List.not_mem_nil, false_imp_iff, implies_true, and_true]
    exact ⟨fun h => congrArg _ (picDispatch_idle h _), fun h => congrArg _ (picDispatch_idle h _),
      fun h => congrArg _ (picDispatch_idle h _), fun h => congrArg _ (picDispatch_idle h _),
      fun h => congrArg _ (alertDispatch_idle h _), fun h => congrArg _ (alertDispatch_idle h _)⟩
  · simp only [List.forall_mem_cons, List.not_mem_nil, false_imp_iff, implies_true, and_true]
    exact ⟨congrArg _ (textDispatch_busy busy _), congrArg _ (textDispatch_busy busy _), congrArg _ (textDispatch_busy busy _)⟩
  · simp only [List.forall_mem_cons, List.not_mem_nil, false_imp_iff, implies_true, and_true]
    exact ⟨congrArg _ (picDispatch_waits unread _), congrArg _ (picDispatch_waits unread _),
      congrArg _ (picDispatch_waits unread _), congrArg _ (picDispatch_waits unread _)⟩
  · simp only [List.forall_mem_cons, List.not_mem_nil, false_imp_iff, implies_true, and_true]
    exact ⟨congrArg _ (alertDispatch_busy busy _), congrArg _ (alertDispatch_busy busy _)⟩
  · exact congrArg _ (mapLoad_idle h)
  · exact congrArg Host.Outcome.next (show mapTableRead v s = s by simp [mapTableRead, h])
  · exact congrArg Host.Outcome.next (show textPutApply v s = s by simp [textPutApply, h])
  · exact congrArg Host.Outcome.next (show alertRaiseApply v s = s by simp [alertRaiseApply, h])
  · exact congrArg _ (sweepHandRead_idle h v)
  · exact congrArg _ (slipVisit_idle h v)
  · exact congrArg Host.Outcome.next (show timerExpiry s = s by simp [timerExpiry, h])
  · exact congrArg _ (blockEraseEnd_idle h)
  · exact congrArg _ (writeHostRead_idle h v)
  · exact congrArg _ (pageProgramEnd_idle h)
  · exact congrArg _ (sealReadEnd_idle h)
  · exact congrArg Host.Outcome.next (show directoryWriteEnd s = s by simp [directoryWriteEnd, h])
  · exact congrArg _ (laneFetch_idle h k v)
  · exact congrArg _ (pictureDataRead_idle h)
  · exact congrArg _ (assemblyComplete_idle h)
  · exact congrArg Host.Outcome.next (show airRstFall s = s by simp [airRstFall, h])
  · exact congrArg _ (transmissionEnd_idle h)

end Sys2Proof.Machine
end

/-! ## Proofs: registers, sweep triggers and resets -/

section
namespace Sys2Proof.Machine

/-! ### The notice registers -/

theorem postInterrupts_regs (n : Nat) : ∀ s : State, (postInterrupts n s).regs = s.regs := by
  induction n with
  | zero => exact fun _ => rfl
  | succ n ih => exact fun s => ih _

theorem postInterrupts_posted (n : Nat) : ∀ s : State,
    (postInterrupts n s).posted = s.posted ++ List.replicate n .interrupt := by
  induction n with
  | zero => exact fun s => (List.append_nil _).symm
  | succ n ih =>
    intro s
    rw [postInterrupts, ih, List.replicate_succ]
    simp

theorem hasCause_extract (v : Word) (c : Cause) : hasCause (v.extractLsb' 0 4) c = v.getLsbD (causeBit c) := by
  cases c <;> simp [hasCause, causeBit]

theorem hasCause_cleared (n : BitVec 4) (v : Word) (c : Cause) :
    hasCause (n &&& ~~~ (v.extractLsb' 0 4)) c = (hasCause n c && !v.getLsbD (causeBit c)) := by
  cases c <;> simp [hasCause, causeBit]

theorem exec_touch (c : Instr) {s t : State} (h : exec c s = .next t) {parts : List Part}
    (hp : (touched c).map Aspect.part ⊆ parts := by dsimp only [touched]; decide) : changesOnly parts s t :=
  (touches_of_exec h).changesOnly hp

theorem writeAnchor_stopped {s : State} (h : s.regs.run = false) (a : Addr) :
    writeAnchor a s = s.setRegs { s.regs with anchor := a } := by simp [writeAnchor, h]

theorem writeAnchor_running {s : State} (h : s.regs.run = true) (a : Addr) : writeAnchor a s = s := by simp [writeAnchor, h]

/-- Settles O4. -/
theorem registerWritesActOnTheirFields : Obligations.RegisterWritesActOnTheirFields := by
  refine ⟨fun v s => ⟨fun stopped => ⟨⟨_, rfl, exec_touch (.anchorLoWrite v) rfl, ?_, fun i hi => ?_⟩,
    ⟨_, rfl, exec_touch (.anchorHiWrite v) rfl, ?_, fun i _ => ?_⟩⟩, fun running => ⟨?_, ?_⟩⟩,
    fun v s => ⟨⟨_, rfl, exec_touch (.noticeWrite v) rfl, rfl, hasCause_cleared _ v⟩,
      ⟨_, rfl, exec_touch (.noticeEnWrite v) rfl, ?_, fun c => ?_, ?_⟩⟩, fun _ _ _ => rfl⟩
  · rw [writeAnchor_stopped stopped]; rfl
  · rw [writeAnchor_stopped stopped]; exact withAnchorLo_getLsbD _ v i hi
  · rw [writeAnchor_stopped stopped]; rfl
  · rw [writeAnchor_stopped stopped]; exact withAnchorHi_getLsbD _ v i
  · exact congrArg _ (writeAnchor_running running _)
  · exact congrArg _ (writeAnchor_running running _)
  · rw [postInterrupts_regs]; rfl
  · rw [postInterrupts_regs]; exact hasCause_extract v c
  · rw [postInterrupts_posted, newlyEnabled, ← List.countP_eq_length_filter]
    simp only [hasCause_extract]
    rfl

/-! ### Sweep triggers -/

theorem retime_reader (old : Byte) (s : State) : (retime old s).reader =
    { s.reader with timer := if s.regs.run = true ∧ s.regs.sweepMs ≠ old then
        (if s.regs.sweepMs = 0 then none else some s.regs.sweepMs) else s.reader.timer } := by
  by_cases h : s.regs.run = true ∧ s.regs.sweepMs ≠ old
  · simp [retime, h, setTimer]
  · have skip : (s.regs.run && decide (s.regs.sweepMs ≠ old)) = false := by
      simpa [← Bool.not_eq_true] using h
    simp only [retime, skip, if_neg h, Bool.false_eq_true, if_false]

theorem retime_regs (old : Byte) (s : State) : (retime old s).regs = s.regs := by unfold retime setTimer; split <;> rfl

theorem retime_changesOnly (old : Byte) (s : State) : changesOnly [.reader] s (retime old s) := by
  unfold retime setTimer
  split
  · intro p hp
    cases p <;> first | rfl | simp at hp
  · exact changesOnly_refl _ _

/-- A RUNCTL write that leaves RUN as it is. -/
theorem writeRunctl_same (ms : Byte) (begun : List LaneId) (s : State) : writeRunctl s.regs.run ms begun s =
    retime s.regs.sweepMs (s.setRegs { s.regs with sweepMs := ms }) := by
  unfold writeRunctl
  rw [if_pos rfl]

theorem changesOnly_setRegs (x : Registers) (s : State) : changesOnly [.regs] s (s.setRegs x) := fun p hp => by
  cases p <;> first | rfl | simp at hp

theorem changesOnly_setReader (x : Reader) (s : State) : changesOnly [.reader] s (s.setReader x) := fun p hp => by
  cases p <;> first | rfl | simp at hp

theorem writeRunctl_same_changesOnly (ms : Byte) (begun : List LaneId) (s : State) :
    changesOnly [.regs, .reader] s (writeRunctl s.regs.run ms begun s) := by
  rw [writeRunctl_same]
  exact changesOnly_trans (changesOnly_mono (changesOnly_setRegs _ s) (by decide))
    (changesOnly_mono (retime_changesOnly _ _) (by decide))

theorem triggerSweep_reader (s : State) : (triggerSweep s).reader =
    if s.regs.run = true ∧ s.reader.sweep = .idle then { s.reader with sweep := .readingHands }
      else { s.reader with owed := true } := by
  by_cases h : s.regs.run = true ∧ s.reader.sweep = .idle
  · simp [triggerSweep, h, beginSweep, setSweep]
  · have skip : (s.regs.run && decide (s.reader.sweep = .idle)) = false := by
      simpa [← Bool.not_eq_true] using h
    simp only [triggerSweep, skip, if_neg h, Bool.false_eq_true, if_false]
    rfl

theorem timerExpiry_running {s : State} {ms : Byte} (h : s.reader.timer = some ms) :
    timerExpiry s = triggerSweep (setTimer s.regs.sweepMs s) := by simp [timerExpiry, h]

/-- Settles O7. -/
theorem sweepTriggersBeginOrOweASweep : Obligations.SweepTriggersBeginOrOweASweep := by
  refine ⟨fun ms s => ⟨_, rfl, ?_, ?_, writeRunctl_same_changesOnly ms [] s⟩,
    fun v s => ⟨⟨_, rfl, exec_touch (.prompt v) rfl, triggerSweep_reader s⟩,
      fun ms running => ⟨_, rfl, exec_touch .sweepTimerExpiry rfl, ?_, ?_⟩⟩⟩
  · rw [writeRunctl_same, retime_regs]; rfl
  · rw [writeRunctl_same, retime_reader]
    simp only [State.setRegs_regs, State.setRegs_reader, ne_comm]
    congr
  · rw [timerExpiry_running running, triggerSweep_reader]
    split <;> rfl
  · rw [timerExpiry_running running, triggerSweep_reader]
    have same : (setTimer s.regs.sweepMs s).regs = s.regs ∧ (setTimer s.regs.sweepMs s).reader.sweep = s.reader.sweep :=
      ⟨rfl, rfl⟩
    rw [same.1, same.2]
    split <;> rfl

/-! ### Resets -/

theorem lane_resetKeeping (regs : Registers) (s : State) (l : LaneId) : (resetKeeping regs s).lane l = .fresh :=
  Vector.getElem_replicate _

theorem slot_resetKeeping (regs : Registers) (s : State) (i : SlotId) : (resetKeeping regs s).slot i = .vacant :=
  Vector.getElem_replicate _

theorem work_resetKeeping (regs : Registers) (s : State) (r : RecId) : (resetKeeping regs s).work r = none :=
  Vector.getElem_replicate _

/-- Settles O53: what a reset keeps are the arguments of `resetKeeping`, and all else is as in the state after power-on. -/
theorem resetsReturnEveryBlock : Obligations.ResetsReturnEveryBlock := by
  intro s
  have lanes : ∀ regs, ∀ l, (resetKeeping regs s).lane l = .fresh := fun regs => lane_resetKeeping regs s
  have noOwed : ∀ regs o, owed o (resetKeeping regs s) = [] := fun regs o => by cases o <;> rfl
  refine ⟨⟨_, rfl, ⟨rfl, rfl, rfl, rfl, rfl, rfl, rfl, work_resetKeeping _ s, fun l => ?_, rfl, rfl, rfl, rfl, rfl, rfl, rfl,
      rfl, rfl, rfl, rfl, fun _ => nofun, noOwed _, rfl, rfl, rfl, rfl, rfl, rfl, rfl, rfl, rfl, rfl, rfl, fun i => ?_, rfl,
      rfl⟩, rfl, rfl⟩,
    fun run ms => ⟨_, rfl, ⟨rfl, rfl, rfl, rfl, rfl, rfl, rfl, work_resetKeeping _ s, fun l => ?_, rfl, rfl, rfl, rfl, rfl,
      rfl, rfl, rfl, rfl, rfl, rfl, fun _ => nofun, noOwed _, rfl, rfl, rfl, rfl, rfl, rfl, rfl, rfl, rfl, rfl, rfl,
      fun i => ?_, rfl, rfl⟩, rfl, rfl⟩⟩
  · rw [lanes]
    exact ⟨rfl, rfl, rfl, rfl, rfl, fun f => by cases f <;> rfl, rfl, rfl, rfl, rfl, rfl, rfl, rfl, rfl, rfl, rfl, rfl, rfl,
      rfl, rfl, rfl, rfl, rfl, rfl, rfl, rfl, rfl⟩
  · rw [slot_resetKeeping]; rfl
  · rw [lanes]
    exact ⟨rfl, rfl, rfl, rfl, rfl, fun f => by cases f <;> rfl, rfl, rfl, rfl, rfl, rfl, rfl, rfl, rfl, rfl, rfl, rfl, rfl,
      rfl, rfl, rfl, rfl, rfl, rfl, rfl, rfl, rfl⟩
  · rw [slot_resetKeeping]; rfl

theorem storeByte_scrambleErase (d n : Nat) : ∀ (m : List Host.Cell) (a k : Nat), storeWf m = true → (k < a ∨ a + n ≤ k) →
    storeByte (scrambleErase d m a n) k = storeByte m k := by
  induction n with
  | zero => exact fun _ _ _ _ _ => rfl
  | succ n ih =>
    intro m a k wf outside
    rw [scrambleErase, ih _ _ _ (storeWf_storePut _ _ _ wf) (by omega), storeByte_storePut _ _ _ _ wf,
      if_neg (by omega)]

/-- A program cut short leaves each byte of its page as it was or as programmed, and every other byte as it was. -/
theorem storeByte_scrambleProgram (d : Nat) (bs : List Byte) : ∀ (m : List Host.Cell) (a k : Nat), storeWf m = true →
    storeByte (scrambleProgram d m a bs) k = storeByte m k ∨
      (a ≤ k ∧ k < a + bs.length ∧ storeByte (scrambleProgram d m a bs) k = storeByte m k &&& bs.getD (k - a) 0) := by
  induction bs with
  | nil => exact fun _ _ _ _ => .inl rfl
  | cons b bs ih =>
    intro m a k wf
    have put_wf := storeWf_storePut m a (storeByte m a &&& b) wf
    have put := storeByte_storePut m a k (storeByte m a &&& b) wf
    simp only [scrambleProgram, List.length_cons]
    have head : ∀ m', storeWf m' = true → (storeByte m' k = storeByte m k ∨ (k = a ∧ storeByte m' k = storeByte m k &&& b)) →
        storeByte (scrambleProgram d m' (a + 1) bs) k = storeByte m k ∨
          (a ≤ k ∧ k < a + (bs.length + 1) ∧
            storeByte (scrambleProgram d m' (a + 1) bs) k = storeByte m k &&& (b :: bs).getD (k - a) 0) := by
      rintro m' wf' (same | ⟨rfl, anded⟩)
      · rcases ih m' (a + 1) k wf' with kept | ⟨lo, hi, changed⟩
        · exact .inl (kept.trans same)
        · refine .inr ⟨by omega, by omega, ?_⟩
          rw [changed, same, show k - a = (k - (a + 1)) + 1 by omega, List.getD_cons_succ]
      · rcases ih m' (k + 1) k wf' with kept | ⟨lo, _, _⟩
        · exact .inr ⟨le_refl k, by omega, by rw [kept, anded]; simp⟩
        · omega
    split
    · refine head _ put_wf ?_
      rw [put]
      split
      next same => exact .inr ⟨same, by rw [same]⟩
      next => exact .inl rfl
    · exact head _ wf (.inl rfl)

theorem contentsAfterReset_bytes (s : State) (wf : StoreSound s) (a : Nat) :
    match s.store.running with
    | some ⟨_, .erase b⟩ => a / 4096 ≠ b → storeByte (contentsAfterReset s) a = storeByte s.store.contents a
    | some ⟨_, .program dest data⟩ =>
      storeByte (contentsAfterReset s) a = storeByte s.store.contents a ∨
        (dest ≤ a ∧ a < dest + data.length ∧
          storeByte (contentsAfterReset s) a = storeByte s.store.contents a &&& data.getD (a - dest) 0)
    | _ => storeByte (contentsAfterReset s) a = storeByte s.store.contents a := by
  unfold contentsAfterReset
  match s.store.running with
  | none => rfl
  | some ⟨_, .erase b⟩ =>
    intro outside
    exact storeByte_scrambleErase _ _ _ _ _ wf (by simp only [Config.blockBytes]; omega)
  | some ⟨_, .program dest data⟩ => exact storeByte_scrambleProgram _ _ _ _ _ wf
  | some ⟨_, .hostRead _⟩ => rfl
  | some ⟨_, .sealRead⟩ => rfl

theorem storedAfterReset_records (s : State) :
    match s.store.dirWrites with
    | [] => storedAfterReset s = s.store.stored
    | x :: _ => storedAfterReset s = s.store.stored ∨
        storedAfterReset s = s.store.stored.set x.slot (x.change.apply s.store.stored[x.slot]) := by
  unfold storedAfterReset
  match s.store.dirWrites with
  | [] => rfl
  | x :: _ =>
    dsimp only
    split
    · exact .inr rfl
    · exact .inl rfl

/-- Settles O54. -/
theorem resetsKeepTheStore : Obligations.ResetsKeepTheStore := by
  intro c s wf reset
  obtain ⟨regs, run⟩ : ∃ regs, exec c s = .next (resetKeeping regs s) := by
    rcases reset with rfl | ⟨_, _, rfl⟩
    · exact ⟨_, rfl⟩
    · exact ⟨_, rfl⟩
  exact ⟨_, run, contentsAfterReset_bytes s wf, storedAfterReset_records s⟩

end Sys2Proof.Machine
end

/-! ## Proofs: completions in the terms of the statements, and the lane slips -/

section
namespace Sys2Proof.Machine

/-! ### Completions -/

/-- A completion, told from a state `s0` that differs from the one it acts on by posted writes and the registers only. -/
theorem complete_slipReported {s0 s : State} {r : RecId} {w : WorkRecord} {before : List Posted} (status : Nat)
    (aux frame : Word) (work : s.work r = some w) (records : s.reader.records = s0.reader.records)
    (anchor : s.regs.anchor = s0.regs.anchor) (posted : s.posted = s0.posted ++ before)
    (jobs : s.store.jobs = s0.store.jobs) :
    slipReported s0 (complete r status aux frame s) r w before s.regs status aux frame := by
  obtain ⟨⟨⟨hrecords, hregs, hposted⟩, hjobs⟩, -⟩ := complete_spec r status aux frame s w work
  refine ⟨⟨hrecords.trans (by rw [records]), hregs, ?_⟩, hjobs.trans (by rw [jobs])⟩
  rw [hposted, posted, anchor]
  simp

/-- Of the reader a completion changes the work records alone. -/
theorem complete_reader (r : RecId) (status : Nat) (aux frame : Word) (s : State) :
    (complete r status aux frame s).reader =
      { s.reader with records := (complete r status aux frame s).reader.records } := by
  cases h : s.work r with
  | none => rw [complete_none _ _ _ _ _ h]
  | some w =>
    have e : complete r status aux frame s = noticeSlip w (freeEntry r (freeRecord r (postCompletion w status aux frame s))) := by
      simp [complete, h]
    rw [e, noticeSlip_reader]
    rfl

theorem finish_slipCompleted {s0 s : State} {r : RecId} {w : WorkRecord} {before : List Posted} (status : Nat) (aux : Word)
    (work : s.work r = some w) (reader : s.reader = s0.reader) (regs : s.regs = s0.regs)
    (posted : s.posted = s0.posted ++ before) (jobs : s.store.jobs = s0.store.jobs)
    (frames : s.frames.counter = s0.frames.counter) :
    slipCompleted s0 (finish r status aux s) r w before status aux := by
  have reported := complete_slipReported (s0 := s0) status aux s.frames.counter work (by rw [reader]) (by rw [regs]) posted jobs
  rw [regs, frames] at reported
  refine ⟨by rw [finish, frames]; exact reported, ?_⟩
  rw [finish, complete_reader, reader]

theorem finishUnstated_slipCompleted {s0 s : State} {r : RecId} {w : WorkRecord} {before : List Posted} (status : Nat)
    (work : s.work r = some w) (reader : s.reader = s0.reader) (regs : s.regs = s0.regs)
    (posted : s.posted = s0.posted ++ before) (jobs : s.store.jobs = s0.store.jobs)
    (frames : s.frames.counter = s0.frames.counter) :
    slipCompleted s0 (finishUnstated r status s) r w before status (Config.unstatedAux s.draws) :=
  finish_slipCompleted status _ (s := s.setDraws (s.draws + 1)) work reader regs posted jobs frames

theorem finish_onlyJobs (r : RecId) (status : Nat) (aux : Word) (s : State) : onlyJobs s (finish r status aux s) :=
  complete_onlyJobs _ _ _ _ _

theorem finishUnstated_onlyJobs (r : RecId) (status : Nat) (s : State) : onlyJobs s (finishUnstated r status s) :=
  complete_onlyJobs _ _ _ _ _

theorem onlyJobs.of_store {s s1 t : State} (h : onlyJobs s1 t) (store : s1.store = s.store) : onlyJobs s t := by
  unfold onlyJobs at *
  rw [← store, ← h]

/-- A completion of a slip whose record is in use leaves the record free. -/
theorem slipReported.work_none {s t : State} {r : RecId} {w : WorkRecord} {before : List Posted} {regs : Registers}
    {status : Nat} {aux frame : Word} (h : slipReported s t r w before regs status aux frame) : t.work r = none := by
  obtain ⟨⟨records, -⟩, -⟩ := h
  simp [State.work, records]

/-! ### Frames -/

/-- A part that a list of parts names but that is kept can be left out of the list. -/
theorem changesOnly_narrow {ps qs : List Part} {s t : State} (h : changesOnly ps s t)
    (kept : ∀ p ∈ ps, p ∉ qs → p.same s t) : changesOnly qs s t := fun p hp => by
  by_cases m : p ∈ ps
  · exact kept p m hp
  · exact h p m

theorem changesOnly_setMaps (x : MapControl) (s : State) : changesOnly [.maps] s (s.setMaps x) := fun p hp => by
  cases p <;> first | rfl | simp at hp

theorem changesOnly_setLane (l : LaneId) (x : Lane) (s : State) : changesOnly [.lanes] s (s.setLane l x) := fun p hp => by
  cases p <;> first | rfl | simp at hp

theorem changesOnly_post (x : Posted) (s : State) : changesOnly [.posted] s (s.post x) := fun p hp => by
  cases p <;> first | rfl | simp at hp

theorem finish_changesOnly (r : RecId) (status : Nat) (aux : Word) (s : State) :
    changesOnly [.regs, .reader, .store, .posted] s (finish r status aux s) :=
  (finish_touches r status aux s).changesOnly

theorem finishUnstated_changesOnly (r : RecId) (status : Nat) (s : State) :
    changesOnly [.regs, .reader, .store, .posted, .draws] s (finishUnstated r status s) :=
  (finishUnstated_touches r status s).changesOnly

/-- Changes one after the other are among those of a list that names both. -/
theorem changesOnly.then {ps qs rs : List Part} {s t u : State} (h : changesOnly ps s t) (k : changesOnly qs t u)
    (hp : ps ⊆ rs := by decide) (hq : qs ⊆ rs := by decide) : changesOnly rs s u :=
  changesOnly_trans (changesOnly_mono h hp) (changesOnly_mono k hq)

theorem otherLanesKept_setLane (l : LaneId) (x : Lane) (s : State) : otherLanesKept l s (s.setLane l x) :=
  fun k hk => State.lane_setLane_other s l k x hk

/-! ### Lane mirrors -/

theorem laneMirrorWrite_congr {s t : State} {l : LaneId} {counter : Word} (lane : t.lane l = s.lane l)
    (active : t.maps.active = s.maps.active) (anchor : t.regs.anchor = s.regs.anchor) :
    laneMirrorWrite t l counter = laneMirrorWrite s l counter := by
  simp only [laneMirrorWrite, laneMirror, lane, active, anchor]

theorem writeLaneMirror_posted (l : LaneId) (counter : Word) (s : State) :
    (writeLaneMirror l counter s).posted = s.posted ++ [laneMirrorWrite s l counter] := rfl

theorem writeLaneMirror_changesOnly (l : LaneId) (counter : Word) (s : State) :
    changesOnly [.posted] s (writeLaneMirror l counter s) := changesOnly_post _ _

theorem finish_anchor (r : RecId) (status : Nat) (aux : Word) (s : State) :
    (finish r status aux s).regs.anchor = s.regs.anchor := (finish_touches r status aux s).same .anchor

theorem finishUnstated_anchor (r : RecId) (status : Nat) (s : State) :
    (finishUnstated r status s).regs.anchor = s.regs.anchor := (finishUnstated_touches r status s).same .anchor

/-! ### LANE_SETUP -/

theorem clampPace_eq (n : Nat) : clampPace n = if n = 0 then 1 else min n 16 := rfl

theorem pageSizeOk_iff (n : Nat) : pageSizeOk n = true ↔ n % 4096 = 0 ∧ 4096 ≤ n ∧ n ≤ 65536 := by
  simp [pageSizeOk, and_assoc]

/-- LANE_SETUP of an UNUSED lane, accepted. -/
theorem actLaneSetup_fills {s : State} (r : RecId) {w : WorkRecord} {l : LaneId} (unused : (s.lane l).state = .unused)
    (size : pageSizeOk (w.arg 4 4) = true) : actLaneSetup r w l s =
      finish r statusOk (BitVec.ofNat 32 (clampPace (w.arg 1 1)))
        (writeLaneMirror l s.frames.counter (s.setLane l (setUpLane w (s.lane l)))) := by
  simp [actLaneSetup, unused, size]

/-- LANE_SETUP of a READY or HALTED lane in neither map, accepted. -/
theorem actLaneSetup_reconfigures {s : State} (r : RecId) {w : WorkRecord} {l : LaneId} (used : (s.lane l).state ≠ .unused)
    (free : mapped s l = false) (size : pageSizeOk (w.arg 4 4) = true) : actLaneSetup r w l s =
      finish r statusOk (BitVec.ofNat 32 (clampPace (w.arg 1 1))) (reconfigure w l s) := by
  simp [actLaneSetup, used, free, size]

/-- What a RETIRED return posts, and what it leaves of the registers and the lane. -/
theorem returnPage_posts (l : LaneId) (c : Return) (s : State) :
    (returnPage l c s).posted = s.posted ++ returnPosts s l c ∧ (returnPage l c s).regs = returnRegs s l := by
  cases h : (s.lane l).feed.held with
  | none => simp [returnPage_none l c s h, returnPosts, returnRegs, h]
  | some p =>
    have regs := (returnPage_held l c s p h).2.2.1
    refine ⟨?_, by simp [regs, returnRegs, h]⟩
    unfold returnPage returnPosts
    simp only [h]
    split
    · rw [(raiseNotice_spec _ _).2]
      simp [postReturn, State.setFeed, returnWrites]
    · simp [postReturn, State.setFeed, returnWrites]

theorem returnPage_lane (l : LaneId) (s : State) : ∃ f, f.held = none ∧ { f with expected := .a } = retiredFeed (s.lane l).feed ∧
    (returnPage l .retired s).lane l = { s.lane l with feed := f } := by
  cases h : (s.lane l).feed.held with
  | none => exact ⟨(s.lane l).feed, h, by simp [retiredFeed, h], by rw [returnPage_none _ _ _ h]⟩
  | some p =>
    refine ⟨_, ?_, ?_, (returnPage_held l .retired s p h).1⟩
    · rfl
    · simp [retiredFeed, h, feedReturned]

theorem returnPage_otherLanesKept (l : LaneId) (c : Return) (s : State) : otherLanesKept l s (returnPage l c s) := by
  cases h : (s.lane l).feed.held with
  | none => rw [returnPage_none l c s h]; exact fun _ _ => rfl
  | some p => exact (returnPage_held l c s p h).2.1

theorem reconfigure_lane (w : WorkRecord) (l : LaneId) (s : State) : (reconfigure w l s).lane l =
    { s.lane l with pageA := w.argAddr 8, pageB := w.argAddr 16, pageSize := w.arg 4 4, pace := clampPace (w.arg 1 1),
                    feed := retiredFeed (s.lane l).feed } := by
  obtain ⟨f, -, expected, lane⟩ := returnPage_lane l s
  rw [reconfigure, State.lane_setLane_same, lane]
  simp only [withPages, expected]

theorem reconfigure_otherLanesKept (w : WorkRecord) (l : LaneId) (s : State) : otherLanesKept l s (reconfigure w l s) :=
  fun k hk => (otherLanesKept_setLane l _ _ k hk).trans (returnPage_otherLanesKept l _ s k hk)

theorem reconfigure_changesOnly (w : WorkRecord) (l : LaneId) (s : State) :
    changesOnly [.lanes, .regs, .posted] s (reconfigure w l s) :=
  (returnPage_changesOnly l _ s).then (changesOnly_setLane l _ _)

/-- A reconfiguration and the completion that follows it; `s0` differs from the state it acts on by the maps only. -/
theorem reconfigure_slipReported {s0 s : State} {r : RecId} {w : WorkRecord} {l : LaneId} (work : s.work r = some w)
    (rest : s.lane l = s0.lane l) (reader : s.reader = s0.reader) (regs : s.regs = s0.regs) (store : s.store = s0.store)
    (out : s.frames = s0.frames ∧ s.posted = s0.posted) (status : Nat) (aux : Word) :
    slipReported s0 (finish r status aux (reconfigure w l s)) r w (returnPosts s0 l .retired) (returnRegs s0 l) status aux
      s0.frames.counter := by
  obtain ⟨frames, posted⟩ := out
  have kept := reconfigure_changesOnly w l s
  obtain ⟨posts, regs'⟩ := returnPage_posts l .retired s
  have posts : (reconfigure w l s).posted = s.posted ++ returnPosts s l .retired := posts
  have regs' : (reconfigure w l s).regs = returnRegs s l := regs'
  have anchor : (reconfigure w l s).regs.anchor = s.regs.anchor := (returnPage_touches l .retired s).same .anchor
  have samePosts : returnPosts s l .retired = returnPosts s0 l .retired := by simp only [returnPosts, rest, regs]
  have sameRegs : returnRegs s l = returnRegs s0 l := by simp only [returnRegs, rest, regs]
  have sameReader : (reconfigure w l s).reader = s.reader := kept .reader (by decide)
  have sameStore : (reconfigure w l s).store = s.store := kept .store (by decide)
  have sameFrames : (reconfigure w l s).frames = s.frames := kept .frames (by decide)
  have reported := complete_slipReported (s0 := s0) (s := reconfigure w l s) (r := r) (w := w) (before := returnPosts s l .retired)
    status aux s0.frames.counter (by rw [State.work, sameReader]; exact work) (by rw [sameReader, reader])
    (by rw [anchor, regs]) (by rw [posts, posted]) (by rw [sameStore, store])
  rw [regs', samePosts, sameRegs] at reported
  rw [finish, sameFrames, frames]
  exact reported

/-- Settles O12. -/
theorem laneSetupFillsOrReconfiguresALane : Obligations.LaneSetupFillsOrReconfiguresALane := by
  constructor
  · intro s r rest w l front unused aligned low high
    have size := (pageSizeOk_iff (w.arg 4 4)).mpr ⟨aligned, low, high⟩
    refine ⟨_, clampPace (w.arg 1 1), congrArg Host.Outcome.next ((laneDispatch_at front _).trans (actLaneSetup_fills r unused size)),
      clampPace_eq _, ?_, ?_, ?_, ?_, ?_, ?_⟩
    · rw [finish_lane, writeLaneMirror_lane, State.lane_setLane_same]; rfl
    · intro k hk
      rw [finish_lane, writeLaneMirror_lane, State.lane_setLane_other _ _ _ _ hk, State.lane_setMaps]
    · rw [finish_maps]; rfl
    · exact (finish_onlyJobs _ _ _ _).of_store rfl
    · refine finish_slipCompleted _ _ front.1.2.1 rfl rfl ?_ rfl rfl
      rw [writeLaneMirror_posted]
      refine congrArg (fun m => s.posted ++ [m]) (laneMirrorWrite_congr ?_ ?_ ?_).symm
      · rw [finish_lane, writeLaneMirror_lane]
      · rw [finish_maps]; rfl
      · rw [finish_anchor]; rfl
    · have laid := ((changesOnly_setMaps { s.maps with laneSlips := rest } s).then (rs := [.maps, .lanes])
        (changesOnly_setLane l (setUpLane w (s.lane l)) _)).then (rs := [.maps, .lanes, .posted])
        (writeLaneMirror_changesOnly l s.frames.counter _)
      exact laid.then (finish_changesOnly _ _ _ _)
  · intro s r rest w l front used free aligned low high
    have size := (pageSizeOk_iff (w.arg 4 4)).mpr ⟨aligned, low, high⟩
    refine ⟨_, clampPace (w.arg 1 1), congrArg Host.Outcome.next ((laneDispatch_at front _).trans (actLaneSetup_reconfigures r used free size)),
      clampPace_eq _, ?_, ?_, ?_, ?_, ?_, ?_⟩
    · rw [finish_lane, reconfigure_lane]; rfl
    · intro k hk
      rw [finish_lane, reconfigure_otherLanesKept _ _ _ k hk, State.lane_setMaps]
    · rw [finish_maps]
      exact reconfigure_changesOnly w l _ .maps (by decide)
    · exact (finish_onlyJobs _ _ _ _).of_store (reconfigure_changesOnly w l _ .store (by decide))
    · exact reconfigure_slipReported (s0 := s) (s := s.setMaps { s.maps with laneSlips := rest }) front.1.2.1 rfl rfl rfl rfl
        ⟨rfl, rfl⟩ statusOk _
    · have laid := (changesOnly_setMaps { s.maps with laneSlips := rest } s).then (rs := [.maps, .lanes, .regs, .posted])
        (reconfigure_changesOnly w l _)
      exact laid.then (finish_changesOnly _ _ _ _)

/-! ### LANE_HALT and LANE_RESUME -/

/-- A lane slip that writes a lane record, its mirror, and completes OK. -/
theorem laneSlip_writes {s : State} {k : Kind} {r : RecId} {rest : List RecId} {w : WorkRecord} {l : LaneId}
    (front : laneSlipAt .lane k s r rest w l) (x : Lane) :
    let t := finishUnstated r statusOk
      (writeLaneMirror l s.frames.counter ((s.setMaps { s.maps with laneSlips := rest }).setLane l x))
    t.lane l = x ∧ otherLanesKept l s t ∧ t.maps = { s.maps with laneSlips := rest } ∧ onlyJobs s t ∧
      slipCompleted s t r w [laneMirrorWrite t l s.frames.counter] 0 (Config.unstatedAux s.draws) ∧
      changesOnly [.regs, .reader, .lanes, .maps, .store, .posted, .draws] s t := by
  intro t
  refine ⟨?_, fun k hk => ?_, ?_, (finishUnstated_onlyJobs _ _ _).of_store rfl, ?_, ?_⟩
  · rw [finishUnstated_lane, writeLaneMirror_lane, State.lane_setLane_same]
  · rw [finishUnstated_lane, writeLaneMirror_lane, State.lane_setLane_other _ _ _ _ hk, State.lane_setMaps]
  · rw [finishUnstated_maps]; rfl
  · refine finishUnstated_slipCompleted _ front.1.2.1 rfl rfl ?_ rfl rfl
    rw [writeLaneMirror_posted]
    refine congrArg (fun m => s.posted ++ [m]) (laneMirrorWrite_congr ?_ ?_ ?_).symm
    · rw [finishUnstated_lane, writeLaneMirror_lane]
    · rw [finishUnstated_maps]; rfl
    · rw [finishUnstated_anchor]; rfl
  · have laid := ((changesOnly_setMaps { s.maps with laneSlips := rest } s).then (rs := [.maps, .lanes])
      (changesOnly_setLane l x _)).then (rs := [.maps, .lanes, .posted]) (writeLaneMirror_changesOnly l s.frames.counter _)
    exact laid.then (finishUnstated_changesOnly _ _ _)

/-- Settles O14. -/
theorem laneHaltAndResumeChangeTheStateAlone : Obligations.LaneHaltAndResumeChangeTheStateAlone := by
  intro s r rest w l
  constructor
  · intro front ready
    refine ⟨_, Config.unstatedAux s.draws, congrArg Host.Outcome.next ((laneDispatch_at front _).trans ?_), laneSlip_writes front _⟩
    exact if_pos ready
  · intro front halted
    refine ⟨_, Config.unstatedAux s.draws, congrArg Host.Outcome.next ((laneDispatch_at front _).trans ?_), laneSlip_writes front _⟩
    exact if_pos halted

/-! ### Refused lane slips -/

/-- A lane slip refused: it completes with a status, and nothing else happens. -/
theorem laneSlip_refused {s : State} {k : Kind} {r : RecId} {rest : List RecId} {w : WorkRecord} {l : LaneId}
    (front : laneSlipAt .lane k s r rest w l) (status : Nat) :
    let t := finishUnstated r status (s.setMaps { s.maps with laneSlips := rest })
    t.maps = { s.maps with laneSlips := rest } ∧ onlyJobs s t ∧
      slipCompleted s t r w [] status (Config.unstatedAux s.draws) ∧
      changesOnly [.regs, .reader, .maps, .store, .posted, .draws] s t := by
  intro t
  refine ⟨?_, (finishUnstated_onlyJobs _ _ _).of_store rfl, ?_, ?_⟩
  · rw [finishUnstated_maps]; rfl
  · exact finishUnstated_slipCompleted _ front.1.2.1 rfl rfl (List.append_nil _).symm rfl rfl
  · exact (changesOnly_setMaps { s.maps with laneSlips := rest } s).then (finishUnstated_changesOnly _ _ _)

theorem alertSource_iff (s : State) (l : LaneId) : alertSource s l = true ↔ ∃ a ∈ activeAlerts s, a.source = some l := by
  simp [alertSource]

/-- Settles O15. -/
theorem laneSlipsAreRefusedInOrder : Obligations.LaneSlipsAreRefusedInOrder := by
  intro s r rest w l refused badSize
  have refuse : ∀ {k : Kind} {act : RecId → WorkRecord → LaneId → State → State} {c : Instr} (status : Nat),
      laneSlipAt .lane k s r rest w l → exec c s = .next (laneDispatch k act s) →
      act r w l (s.setMaps { s.maps with laneSlips := rest }) =
        finishUnstated r status (s.setMaps { s.maps with laneSlips := rest }) → refused c status :=
    fun status front run acts => ⟨_, _, run.trans (congrArg Host.Outcome.next ((laneDispatch_at front _).trans acts)),
      laneSlip_refused front status⟩
  refine ⟨fun front => ⟨fun used isMapped => refuse _ front rfl ?_, fun allowed bad => refuse _ front rfl ?_⟩,
    fun front => ⟨fun which => refuse _ front rfl ?_, fun used free source => refuse _ front rfl ?_⟩,
    fun front state => refuse _ front rfl (if_neg state), fun front state => refuse _ front rfl (if_neg state)⟩
  · exact if_pos ⟨used, isMapped⟩
  · have size : pageSizeOk (w.arg 4 4) = false := by rw [← Bool.not_eq_true, pageSizeOk_iff]; exact bad
    have first : ¬ ((s.lane l).state ≠ .unused ∧ mapped s l = true) := by
      rintro ⟨used, isMapped⟩
      exact allowed.elim used fun free => by simp [free] at isMapped
    exact (if_neg first).trans (if_pos (by rw [size]; rfl))
  · by_cases unused : (s.lane l).state = .unused
    · exact if_pos unused
    · exact (if_neg unused).trans (if_pos (which.resolve_left unused))
  · have sourced := (alertSource_iff s l).mpr source
    exact (if_neg used).trans ((if_neg (ne_true_of_eq_false free)).trans (if_pos sourced))

/-! ### LANE_RETIRE -/

theorem slipCompleted.posted {s t : State} {r : RecId} {w : WorkRecord} {before : List Posted} {status : Nat} {aux : Word}
    (h : slipCompleted s t r w before status aux) : ∃ after, t.posted = s.posted ++ before ++
      completionWrites s.regs.anchor w status aux s.frames.counter ++ after := ⟨_, h.1.1.2.2⟩

end Sys2Proof.Machine
end

/-! ## Proofs: the store's choice, and LANE_RETIRE -/

section
namespace Sys2Proof.Machine

/-! ### The store's choice -/

/-- A property that each thing the store may do in a choice keeps is kept by the choice. -/
theorem choose_keeps (P : State → Prop)
    (recovery : ∀ s e, s.store.running = none → s.store.recovery.find? (recoveryReady s) = some e → P s →
      P (startRecovery e s))
    (start : ∀ s j op, s.store.running = none → s.store.jobs.find? (eligible s) = some j → j.firstOperation = some op → P s →
      P (startJob j.record op s))
    (write : ∀ s j, s.store.running = none → s.store.jobs.find? (eligible s) = some j → j.work = .programs [] → P s →
      P (finishWrite j s))
    (erases : ∀ s j, s.store.running = none → s.store.jobs.find? (eligible s) = some j → j.work = .erases [] → P s →
      P (endErases j s))
    {s : State} (h : P s) : P (choose s) := by
  suffices all : ∀ n s, P s → P (storeChoose n s) from all _ s h
  intro n
  induction n with
  | zero => exact fun _ h => h
  | succ n ih =>
    intro s h
    unfold storeChoose
    split
    next => exact h
    next idle =>
      split
      next e ready => exact recovery s e idle ready h
      next =>
        split
        next => exact h
        next j found =>
          split
          next b _ work => exact start s j _ idle found (by rw [Job.firstOperation, work]) h
          next p _ work => exact start s j _ idle found (by rw [Job.firstOperation, work]) h
          next _ work => exact start s j _ idle found (by rw [Job.firstOperation, work]) h
          next work => exact ih _ (write s j idle found work h)
          next work => exact ih _ (erases s j idle found work h)

theorem complete_work_none {s : State} {q : RecId} (h : s.work q = none) (r : RecId) (status : Nat) (aux frame : Word) :
    (complete r status aux frame s).work q = none := by
  cases held : s.work r with
  | none => rw [complete_none _ _ _ _ _ held]; exact h
  | some w =>
    have records := (complete_spec r status aux frame s w held).1.1.1
    simp only [State.work, records, Fin.getElem_fin, Vector.getElem_set] at h ⊢
    split
    · rfl
    · exact h

/-- A free work record stays free while the store chooses. -/
theorem choose_work_none {s : State} {q : RecId} (h : s.work q = none) : (choose s).work q = none := by
  refine choose_keeps (fun t => t.work q = none) (fun t e _ _ k => ?_) (fun t j op _ _ _ k => k) (fun t j _ _ _ k => ?_)
    (fun t j _ _ _ k => k) h
  · rw [State.work, startRecovery_reader]; exact k
  · unfold finishWrite
    split <;> exact complete_work_none k _ _ _ _

/-- The store's choice reads nothing but the store. -/
theorem storeChose_congr {u u' t : State} (store : u'.store = u.store) (h : storeChose u t) : storeChose u' t := by
  have ready : recoveryReady u' = recoveryReady u := by
    funext e; simp only [recoveryReady, bankHeld, store]
  have chosen : eligible u' = eligible u := by
    funext j; simp only [eligible, bankHeld, store]
  unfold storeChose at h ⊢
  rw [store, ready, chosen]
  exact h

theorem droppingBegun_congr {s s' v v' : State} (before : s'.store = s.store) (after : v'.store = v.store)
    (h : droppingBegun s v) : droppingBegun s' v' := by
  have slot : ∀ i, s'.slot i = s.slot i := fun i => by simp only [State.slot, before]
  have slot' : ∀ i, v'.slot i = v.slot i := fun i => by simp only [State.slot, after]
  unfold droppingBegun at h ⊢
  simp only [slot, slot', before, after]
  exact h

/-! ### LANE_RETIRE -/

/-- An accepted LANE_RETIRE. -/
theorem actLaneRetire_accepts {s : State} (r : RecId) (w : WorkRecord) {l : LaneId} (used : (s.lane l).state ≠ .unused)
    (free : mapped s l = false) (source : alertSource s l = false) :
    actLaneRetire r w l s = choose (finishUnstated r statusOk (retireLane l s)) := by
  simp [actLaneRetire, used, free, source]

/-- The lanes before the user counts of a retired lane are adjusted. -/
def retiring (l : LaneId) (s : State) : State :=
  let s1 := dropStraggler l (returnPage l .retired s)
  s1.setLane l (retiredLane (s1.lane l))

theorem retireLane_eq (l : LaneId) (s : State) : retireLane l s =
    writeLaneMirror l s.frames.counter (retally (carouselUses (s.lane l).carousel) [] (retiring l s)) := by
  obtain ⟨f, -, -, lane⟩ := returnPage_lane l s
  have counter : (retally (carouselUses (s.lane l).carousel) [] (retiring l s)).frames.counter = s.frames.counter := by
    simp [retiring]
  have carousel : ((returnPage l .retired s).lane l).carousel = (s.lane l).carousel := by rw [lane]
  have kept : ((dropStraggler l (returnPage l .retired s)).lane l).carousel = (s.lane l).carousel := carousel
  unfold retireLane
  dsimp only
  rw [kept]
  change writeLaneMirror l (retally (carouselUses (s.lane l).carousel) [] (retiring l s)).frames.counter
    (retally (carouselUses (s.lane l).carousel) [] (retiring l s)) = _
  rw [counter]

theorem retiring_lane (l : LaneId) (s : State) : (retiring l s).lane l =
    { s.lane l with state := .unused, pageA := 0, pageB := 0, pageSize := 0, pace := 0, credit := 0, saturation := 0,
                    feed := retiredFeed (s.lane l).feed, text := .fresh, carousel := .fresh } := by
  obtain ⟨f, -, expected, lane⟩ := returnPage_lane l s
  rw [retiring, State.lane_setLane_same, dropStraggler_lane, lane]
  simp only [retiredLane, expected]

theorem retiring_otherLanesKept (l : LaneId) (s : State) : otherLanesKept l s (retiring l s) := fun k hk => by
  rw [retiring, State.lane_setLane_other _ _ _ _ hk, dropStraggler_lane, returnPage_otherLanesKept l _ s k hk]

theorem retiring_store (l : LaneId) (s : State) : (retiring l s).store = s.store := by simp [retiring]

theorem retiring_frames (l : LaneId) (s : State) : (retiring l s).frames =
    { s.frames with stragglers := s.frames.stragglers.filter fun g => g.lane ≠ l } := by simp [retiring]

theorem retiring_posted (l : LaneId) (s : State) : (retiring l s).posted = s.posted ++ returnPosts s l .retired :=
  (returnPage_posts l .retired s).1

theorem finishUnstated_work_none (r : RecId) (status : Nat) (s : State) (h : ∃ w, s.work r = some w) :
    (finishUnstated r status s).work r = none := by
  obtain ⟨w, hw⟩ := h
  exact (finishUnstated_slipCompleted (s0 := s) (before := []) status hw rfl rfl (by simp) rfl rfl).1.work_none

/-- The store after a completion is that without the jobs of its record. -/
theorem finishUnstated_store {r : RecId} {s : State} {w : WorkRecord} (status : Nat) (work : s.work r = some w) :
    (finishUnstated r status s).store = (withoutJob r s).store := by
  have completed := finishUnstated_slipCompleted (s0 := s) (before := []) status work rfl rfl (by simp) rfl rfl
  have only : onlyJobs s (finishUnstated r status s) := finishUnstated_onlyJobs r status s
  rw [only, completed.1.2]
  rfl

/-- Settles O13: `v` is the state in which the user counts have fallen and the slip is not yet completed. -/
theorem laneRetireMakesALaneUnused : Obligations.LaneRetireMakesALaneUnused := by
  intro s r rest w l front used free unsourced
  have source : alertSource s l = false := by
    rw [← Bool.not_eq_true, alertSource_iff]
    exact fun ⟨a, ha, e⟩ => unsourced a ha e
  let s1 := s.setMaps { s.maps with laneSlips := rest }
  let v0 := retally (carouselUses (s.lane l).carousel) [] (retiring l s1)
  let v := writeLaneMirror l s.frames.counter v0
  let t := choose (finishUnstated r statusOk v)
  have run : exec .laneRetire s = .next t := congrArg Host.Outcome.next
    (((laneDispatch_at front _).trans (actLaneRetire_accepts (s := s1) r w used free source)).trans
      (congrArg (fun x => choose (finishUnstated r statusOk x)) (retireLane_eq l s1)))
  have touch := touches_of_exec run
  have reader : v.reader = s.reader := by simp [v, v0, retiring, s1]
  have work : v.work r = some w := by rw [State.work, reader]; exact front.1.2.1
  have lane : ∀ k, t.lane k = v0.lane k := fun k => by simp [t, v]
  obtain ⟨before, hbefore⟩ := (retally_touches (carouselUses (s.lane l).carousel) [] (retiring l s1)).posted
  have completed := finishUnstated_slipCompleted (s0 := v) (before := []) statusOk work rfl rfl (by simp) rfl rfl
  obtain ⟨after, hafter⟩ := completed.posted
  obtain ⟨chosen, hchosen⟩ := (choose_touches (finishUnstated r statusOk v)).posted
  have mirror : laneMirrorWrite t l s.frames.counter = laneMirrorWrite v0 l s.frames.counter :=
    laneMirrorWrite_congr (lane l) (by simp [t, v]) ((choose_touches _).same .anchor |>.trans (finishUnstated_anchor _ _ _))
  have anchor : v.regs.anchor = s.regs.anchor := (retireLane_eq l s1 ▸ retireLane_touches l s1 : touches _ s1 v).same .anchor
  have counter : v.frames.counter = s.frames.counter := by simp [v, v0, retiring, s1]
  have slotOf : ∀ i, t.slot i = v0.slot i := fun i => by
    rw [choose_slot, State.slot, finishUnstated_store statusOk work]
    rfl
  refine ⟨t, v, Config.unstatedAux v.draws, before, after ++ chosen, run, ?_, fun k hk => ?_, ?_, ?_, ?_, fun i => ⟨?_, ?_⟩, ?_,
    ?_, ?_, ?_, touch.regs_notice, ?_, touch.changesOnly⟩
  · rw [lane, show v0.lane l = (retiring l s1).lane l by simp [v0], retiring_lane]; rfl
  · rw [lane, show v0.lane k = (retiring l s1).lane k by simp [v0], retiring_otherLanesKept l s1 k hk]; rfl
  · simp [t, v, v0, retiring, s1]
  · exact choose_work_none (finishUnstated_work_none r statusOk v ⟨w, work⟩)
  · rw [show t.frames = (retiring l s1).frames by simp [t, v, v0], retiring_frames]; rfl
  · rw [slotOf, retally_users]
    have kept : (retiring l s1).slot i = s.slot i := by rw [State.slot, retiring_store]; rfl
    rw [kept]
    simp
  · rw [slotOf, (retally_onlyUsers _ _ _).2 i, State.slot, retiring_store]; rfl
  · exact (slots_eq_of_slot fun i => slotOf i).symm
  · exact droppingBegun_congr (retiring_store l s1).symm rfl (retally_droppingBegun _ _)
  · exact storeChose_congr (finishUnstated_store statusOk work).symm (choose_storeChose _)
  · have vposted : v.posted = s.posted ++ returnPosts s l .retired ++ before ++ [laneMirrorWrite v0 l s.frames.counter] := by
      rw [show v.posted = v0.posted ++ [laneMirrorWrite v0 l s.frames.counter] from rfl, hbefore, retiring_posted]; rfl
    rw [hchosen, hafter, vposted, mirror, anchor, counter]
    simp [statusOk]
  · intro a
    rw [show t.store.contents = s.store.contents from touch.same .contents]

end Sys2Proof.Machine
end

/-! ## Proofs: sweeps and visits -/

section
namespace Sys2Proof.Machine

/-! ### The order of a sweep -/

/-- How far slip `i` stands behind the cursor, going round. -/
def behind (cursor i : SlipId) : Nat := (i.val + 128 - cursor.val) % 128

theorem behind_of_le {cursor i : SlipId} (h : cursor ≤ i) : behind cursor i = i.val - cursor.val := by
  have := i.isLt
  have : cursor.val ≤ i.val := h
  unfold behind
  omega

theorem behind_of_lt {cursor i : SlipId} (h : i < cursor) : behind cursor i = i.val + 128 - cursor.val := by
  have := cursor.isLt
  have : i.val < cursor.val := h
  unfold behind
  omega

theorem finRange_pairwise_lt (n : Nat) : (List.finRange n).Pairwise (· < ·) := List.pairwise_lt_finRange n

theorem sweepOrder_pairwise (cursor : SlipId) : (sweepOrder cursor).Pairwise fun i j => behind cursor i < behind cursor j := by
  refine List.pairwise_append.mpr ⟨?_, ?_, ?_⟩
  · refine ((finRange_pairwise_lt 128).filter _).imp_of_mem fun {i j} hi hj (lt : i.val < j.val) => ?_
    rw [List.mem_filter, decide_eq_true_iff] at hi hj
    have : cursor.val ≤ i.val := hi.2
    rw [behind_of_le hi.2, behind_of_le hj.2]
    omega
  · refine ((finRange_pairwise_lt 128).filter _).imp_of_mem fun {i j} hi hj (lt : i.val < j.val) => ?_
    rw [List.mem_filter, decide_eq_true_iff] at hi hj
    have := cursor.isLt
    rw [behind_of_lt hi.2, behind_of_lt hj.2]
    omega
  · intro i hi j hj
    rw [List.mem_filter, decide_eq_true_iff] at hi hj
    have := i.isLt
    have : cursor.val ≤ i.val := hi.2
    rw [behind_of_le hi.2, behind_of_lt hj.2]
    omega

theorem mem_sweepOrder (cursor i : SlipId) : i ∈ sweepOrder cursor := by
  by_cases h : cursor ≤ i
  · exact List.mem_append_left _ (List.mem_filter.mpr ⟨List.mem_finRange i, decide_eq_true h⟩)
  · exact List.mem_append_right _ (List.mem_filter.mpr ⟨List.mem_finRange i, decide_eq_true (not_le.mp h)⟩)

/-- Settles O8. -/
theorem givenSlipsAreVisitedInCircularOrder : Obligations.GivenSlipsAreVisitedInCircularOrder := by
  refine fun hands cursor => ⟨fun i => ?_, (sweepOrder_pairwise cursor).filter _⟩
  rw [givenSlips, List.mem_filter, decide_eq_true_iff]
  exact and_iff_right (mem_sweepOrder cursor i)

/-! ### How a sweep goes on -/

theorem endSweep_reader (s : State) : (endSweep s).reader =
    if s.regs.run = true ∧ s.reader.owed = true then { s.reader with sweep := .readingHands, owed := false }
      else { s.reader with sweep := .idle } := by
  by_cases h : s.regs.run = true ∧ s.reader.owed = true
  · simp [endSweep, h, beginSweep, setSweep, setOwed]
  · have skip : (s.regs.run && s.reader.owed) = false := by simpa [← Bool.not_eq_true] using h
    simp only [endSweep, skip, if_neg h, Bool.false_eq_true, if_false]
    rfl

theorem endSweep_changesOnly (s : State) : changesOnly [.reader] s (endSweep s) := (endSweep_touches s).changesOnly

theorem sweepEnded_endSweep {s : State} {regs : Registers} {a : Reader} (run : regs.run = s.regs.run)
    (owed : a.owed = s.reader.owed) : sweepEnded regs a (endSweep s).reader := by
  unfold sweepEnded
  rw [endSweep_reader, run, owed]
  split
  · exact ⟨rfl, rfl⟩
  · exact ⟨rfl, rfl⟩

theorem endSweep_kept (s : State) : (endSweep s).reader.cursor = s.reader.cursor ∧
    (endSweep s).reader.records = s.reader.records ∧ (endSweep s).reader.timer = s.reader.timer := by
  rw [endSweep_reader]
  split
  · exact ⟨rfl, rfl, rfl⟩
  · exact ⟨rfl, rfl, rfl⟩

theorem recordFree_idle (s : State) (r : RecId) : recordFree (setSweep .idle s) r = true ↔ s.reader.records[r] = none := by
  have work : (setSweep .idle s).work r = s.reader.records[r] := rfl
  have sweep : (setSweep .idle s).reader.sweep.record? = none := rfl
  simp [recordFree, work, sweep]

/-- The next visit with no work record free. -/
theorem nextVisit_full {s : State} (h : freeRecord? (setSweep .idle s) = none) (j : SlipId) (js : List SlipId) :
    nextVisit (j :: js) s = endSweep (setSweepCursor j (setSweep .idle s)) := by simp [nextVisit, h]

/-- The next visit with a work record free. -/
theorem nextVisit_free {s : State} {q : RecId} (h : freeRecord? (setSweep .idle s) = some q) (j : SlipId) (js : List SlipId) :
    nextVisit (j :: js) s = setSweep (.visiting q j js false) (setSweep .idle s) := by simp [nextVisit, h]

theorem recordsFull {s : State} (h : freeRecord? (setSweep .idle s) = none) (q : RecId) : s.reader.records[q] ≠ none :=
  fun free => absurd ((recordFree_idle s q).mpr free) (List.find?_eq_none.mp h q (List.mem_finRange q))

/-- Where a sweep goes on after a visit, told from the reader `a` before the visit. -/
theorem afterVisit_goesOn {s : State} {regs : Registers} {a : Reader} (run : regs.run = s.regs.run)
    (owed : a.owed = s.reader.owed) (timer : a.timer = s.reader.timer) (rest : List SlipId) (last : Bool) :
    sweepGoesOn regs s.reader.cursor rest last a (afterVisit rest last s).reader := by
  have ended := endSweep_kept s
  match last, rest with
  | true, _ => exact ⟨ended.2.2.trans timer.symm, ended.1, sweepEnded_endSweep run owed⟩
  | false, [] => exact ⟨ended.2.2.trans timer.symm, ended.1, sweepEnded_endSweep run owed⟩
  | false, j :: js =>
    show sweepGoesOn regs s.reader.cursor (j :: js) false a (nextVisit (j :: js) s).reader
    cases free : freeRecord? (setSweep .idle s) with
    | none =>
      have kept := endSweep_kept (setSweepCursor j (setSweep .idle s))
      rw [nextVisit_full free]
      refine ⟨kept.2.2.trans timer.symm, .inr ⟨fun q => ?_, kept.1, sweepEnded_endSweep run owed⟩⟩
      rw [kept.2.1]
      exact recordsFull free q
    | some q =>
      rw [nextVisit_free free]
      exact ⟨timer.symm, .inl ⟨q, (recordFree_idle s q).mp (List.find?_some free), rfl, rfl, owed.symm⟩⟩

theorem afterVisit_changesOnly (rest : List SlipId) (last : Bool) (s : State) :
    changesOnly [.reader] s (afterVisit rest last s) := (afterVisit_touches rest last s).changesOnly

theorem afterVisit_records (rest : List SlipId) (last : Bool) (s : State) :
    (afterVisit rest last s).reader.records = s.reader.records := (afterVisit_touches rest last s).same .records

theorem raiseNotice_changesOnly (c : Cause) (s : State) : changesOnly [.regs, .posted] s (raiseNotice c s) :=
  (raiseNotice_touches c s).changesOnly

/-- A read that ends in a PCIe error ends the sweep and raises FAULT. -/
theorem faultSweep (s : State) : let t := raiseNotice .fault (endSweep s)
    changesOnly [.reader, .regs, .posted] s t ∧ sweepEnded s.regs s.reader t.reader ∧ t.reader.cursor = s.reader.cursor ∧
      t.reader.records = s.reader.records ∧ t.reader.timer = s.reader.timer ∧ t.regs = withCause .fault s.regs ∧
      t.posted = s.posted ++ messageFor .fault s.regs := by
  intro t
  obtain ⟨cursor, records, timer⟩ := endSweep_kept s
  obtain ⟨regs, posted⟩ := raiseNotice_spec .fault (endSweep s)
  have reader : t.reader = (endSweep s).reader := raiseNotice_reader _ _
  have sameRegs : (endSweep s).regs = s.regs := endSweep_changesOnly s .regs (by decide)
  have samePosted : (endSweep s).posted = s.posted := endSweep_changesOnly s .posted (by decide)
  rw [sameRegs] at regs posted
  rw [samePosted] at posted
  refine ⟨(endSweep_changesOnly s).then (raiseNotice_changesOnly .fault _), ?_, ?_, ?_, ?_, regs, posted⟩
  · rw [reader]; exact sweepEnded_endSweep rfl rfl
  · rw [reader, cursor]
  · rw [reader, records]
  · rw [reader, timer]

/-- Settles O9. -/
theorem handReadChoosesTheVisits : Obligations.HandReadChoosesTheVisits := by
  intro h s reading
  constructor
  · intro hands read
    have run : exec (.sweepHandRead h) s = .next (afterVisit (givenSlips hands s.reader.cursor) false s) :=
      congrArg Host.Outcome.next (by simp [sweepHandRead, reading, read, afterVisit])
    exact ⟨_, run, afterVisit_changesOnly _ _ _, afterVisit_records _ _ _, afterVisit_goesOn rfl rfl rfl _ _⟩
  · intro failed
    have run : exec (.sweepHandRead h) s = .next (raiseNotice .fault (endSweep s)) :=
      congrArg Host.Outcome.next (by simp [sweepHandRead, reading, failed])
    exact ⟨_, run, faultSweep s⟩

/-! ### The tests of a visit -/

theorem slipHeld_iff (s : State) (i : SlipId) : slipHeld s i = true ↔ ∃ r v, s.work r = some v ∧ v.slip = i := by
  simp only [slipHeld, List.any_eq_true, Vector.mem_toList_iff, Vector.mem_iff_getElem]
  constructor
  · rintro ⟨w, ⟨n, hn, rfl⟩, held⟩
    cases e : s.reader.records[n] with
    | none => simp [e] at held
    | some v => exact ⟨⟨n, hn⟩, v, e, by simpa [e] using held⟩
  · rintro ⟨r, v, work, rfl⟩
    exact ⟨some v, ⟨r.val, r.isLt, work⟩, by simp⟩

theorem isPicture_iff (b : Byte) : isPicture b = true ↔ ∃ k, kindOf b = some k ∧ ownerOf k = .store := by
  unfold isPicture
  split
  next k e => simp [e]
  next e => simp [e]

theorem passedOver_iff (s : State) (i : SlipId) (slip : List Byte) : passedOver s i slip ↔
    (slip.getD 0 0 ≠ 1 ∨ slipHeld s i = true) ∨
      (isPicture (parseSlip i slip).kind && decide (Config.storeQueue ≤ storeEntries s)) = true := by
  rw [Bool.and_eq_true, decide_eq_true_iff, slipHeld_iff, isPicture_iff, or_assoc]
  rfl

theorem anyAlert_iff (s : State) : anyAlert s = true ↔ activeAlerts s ≠ [] := by simp [anyAlert]

theorem laneClear_iff (s : State) (w : WorkRecord) : laneClear s w = true ↔
    ∀ k l, kindOf w.kind = some k → namesLane k = true → w.lane = some l → ∀ a ∈ activeAlerts s, l ∉ a.targets := by
  unfold laneClear kindNamesLane
  cases kind : kindOf w.kind with
  | none => simp
  | some k =>
    cases names : namesLane k with
    | false =>
      refine iff_of_true (by simp [names]) fun k' l e names' => ?_
      cases e
      exact absurd names' (by simp [names])
    | true =>
      cases lane : w.lane with
      | none => simp [names]
      | some l => simp [isTarget, names]

theorem guard_eq_of_toNat {w : WorkRecord} {n : Nat} (h : w.guard.toNat = n) : w.guard = BitVec.ofNat 8 n := by
  rw [← h, BitVec.ofNat_toNat, BitVec.setWidth_eq]

/-- The guard of a slip as a visit finds it, in the terms of the statements. -/
theorem guardHolds_eq (s : State) (w : WorkRecord) :
    (3 < w.guard.toNat → guardHolds s w = none) ∧ (guardTrue s w → guardHolds s w = some true) ∧
      (w.guard.toNat ≤ 3 → ¬ guardTrue s w → guardHolds s w = some false) := by
  have defined : w.guard.toNat ≤ 3 → w.guard = 0 ∨ w.guard = 1 ∨ w.guard = 2 ∨ w.guard = 3 := by
    intro le
    have cases4 : w.guard.toNat = 0 ∨ w.guard.toNat = 1 ∨ w.guard.toNat = 2 ∨ w.guard.toNat = 3 := by omega
    exact cases4.imp guard_eq_of_toNat (Or.imp guard_eq_of_toNat (Or.imp guard_eq_of_toNat guard_eq_of_toNat))
  refine ⟨fun big => ?_, fun holds => ?_, fun le fails => ?_⟩
  · unfold guardHolds
    split <;> first | omega | rfl
  · rcases holds with zero | ⟨one, none⟩ | ⟨two, some⟩ | ⟨three, clear⟩
    · simp [guardHolds, zero]
    · simp [guardHolds, one, anyAlert, none]
    · have := (anyAlert_iff s).mpr some
      simp [guardHolds, two, this]
    · have := (laneClear_iff s w).mpr clear
      simp [guardHolds, three, this]
  · rcases defined le with zero | one | two | three
    · exact absurd (.inl zero) fails
    · have any : anyAlert s = true := (anyAlert_iff s).mpr fun none => fails (.inr (.inl ⟨one, none⟩))
      simp [guardHolds, one, any]
    · have any : anyAlert s = false := by
        rw [← Bool.not_eq_true, anyAlert_iff]
        exact fun some => fails (.inr (.inr (.inl ⟨two, some⟩)))
      simp [guardHolds, two, any]
    · have clear : laneClear s w = false := by
        rw [← Bool.not_eq_true, laneClear_iff]
        exact fun clear => fails (.inr (.inr (.inr ⟨three, clear⟩)))
      simp [guardHolds, three, clear]

theorem guardTrue_le {s : State} {w : WorkRecord} (h : guardTrue s w) : w.guard.toNat ≤ 3 := by
  rcases h with h | ⟨h, -⟩ | ⟨h, -⟩ | ⟨h, -⟩ <;> simp [h]

theorem laneOf_isNone (n : Nat) : (laneOf n).isNone = decide (24 ≤ n) := by
  unfold laneOf
  split
  next h => simp [h]
  next h => simp [not_lt.mp h]

/-! ### The acts of a visit -/

theorem visitSlip_passes {s : State} {r : RecId} {i : SlipId} {slip : List Byte} (h : passedOver s i slip) :
    visitSlip r i slip s = s := by
  unfold visitSlip
  rcases (passedOver_iff s i slip).mp h with given | full
  · exact if_pos given
  · exact ite_eq_left_iff.mpr fun _ => if_pos full

/-- A slip that is not passed over is acted on by its guard. -/
theorem visitSlip_acts {s : State} {r : RecId} {i : SlipId} {slip : List Byte} (h : ¬ passedOver s i slip) :
    visitSlip r i slip s = match guardHolds s (parseSlip i slip) with
      | none => takeSlip r i (parseSlip i slip) s
      | some true => takeSlip r i (parseSlip i slip) s
      | some false => if (parseSlip i slip).skipOnFalse then skipSlip r i (parseSlip i slip) s else s := by
  have tests := mt (passedOver_iff s i slip).mpr h
  exact (if_neg fun k => tests (.inl k)).trans (if_neg fun k => tests (.inr k))

/-- A slip being taken: its record holds it, the cursor is past it and hand TAKEN is posted. -/
def takingSlip (r : RecId) (i : SlipId) (w : WorkRecord) (s : State) : State :=
  setSweepCursor (i + 1) ((fillRecord r w s).postRecord (slipAddr s.regs.anchor i) (leBytes 1 2))

theorem takeSlip_eq (r : RecId) (i : SlipId) (w : WorkRecord) (s : State) :
    takeSlip r i w s = decideTake r w (takingSlip r i w s) := rfl

theorem takingSlip_work (r : RecId) (i : SlipId) (w : WorkRecord) (s : State) (q : RecId) :
    (takingSlip r i w s).work q = if q = r then some w else s.work q := by
  show (s.reader.records.set r (some w))[q] = _
  by_cases h : q = r
  · subst h; simp
  · rw [if_neg h]
    exact Vector.getElem_set_ne _ _ fun e => h (Fin.ext e.symm)

theorem takingSlip_posted (r : RecId) (i : SlipId) (w : WorkRecord) (s : State) :
    (takingSlip r i w s).posted = s.posted ++ [takenWrite s.regs.anchor i] := rfl

theorem takingSlip_changesOnly (r : RecId) (i : SlipId) (w : WorkRecord) (s : State) :
    changesOnly [.reader, .posted] s (takingSlip r i w s) := fun p hp => by
  cases p <;> first | rfl | simp at hp

theorem slipVisit_read {h : HostView} {s : State} {r : RecId} {i : SlipId} {rest : List SlipId} {last : Bool}
    {slip : List Byte} (sweep : s.reader.sweep = .visiting r i rest last)
    (read : hostRead h (slipAddr s.regs.anchor i) 64 = some slip) :
    slipVisit h s = afterVisit rest last (visitSlip r i slip s) := by simp [slipVisit, sweep, read]

theorem dispatchTo_owed (o : Owner) (r : RecId) (s : State) :
    owed o (dispatchTo o r s) = owed o s ++ [r] ∧ ∀ p, p ≠ o → owed p (dispatchTo o r s) = owed p s := by
  constructor
  · cases o <;> rfl
  · intro p hp
    cases o <;> cases p <;> first | rfl | exact absurd rfl hp

theorem dispatchTo_onlyOwed (o : Owner) (r : RecId) (s : State) : onlyOwed s (dispatchTo o r s) := by
  cases o <;> exact ⟨rfl, rfl, rfl, rfl⟩

theorem dispatchTo_kept (o : Owner) (r : RecId) (s : State) : (dispatchTo o r s).reader = s.reader ∧
    (dispatchTo o r s).regs = s.regs ∧ (dispatchTo o r s).posted = s.posted ∧
    (dispatchTo o r s).store.jobs = s.store.jobs := by
  cases o <;> exact ⟨rfl, rfl, rfl, rfl⟩

theorem dispatchTo_changesOnly (o : Owner) (r : RecId) (s : State) :
    changesOnly [.maps, .text, .carousels, .store, .alerts] s (dispatchTo o r s) := fun p hp => by
  cases o <;> cases p <;> first | rfl | simp at hp

/-- The last thing a visit does leaves what the dispatched slips and their owners hold. -/
theorem owed_afterVisit (o : Owner) (rest : List SlipId) (last : Bool) (s : State) :
    owed o (afterVisit rest last s) = owed o s := by
  have kept := afterVisit_changesOnly rest last s
  have maps : (afterVisit rest last s).maps = s.maps := kept .maps (by decide)
  have text : (afterVisit rest last s).text = s.text := kept .text (by decide)
  have carousels : (afterVisit rest last s).carousels = s.carousels := kept .carousels (by decide)
  have store : (afterVisit rest last s).store = s.store := kept .store (by decide)
  have alerts : (afterVisit rest last s).alerts = s.alerts := kept .alerts (by decide)
  cases o <;> simp only [owed, maps, text, carousels, store, alerts]

theorem onlyOwed_afterVisit {s t : State} (h : onlyOwed s t) (rest : List SlipId) (last : Bool) :
    onlyOwed s (afterVisit rest last t) := by
  have kept := afterVisit_changesOnly rest last t
  have maps : (afterVisit rest last t).maps = t.maps := kept .maps (by decide)
  have text : (afterVisit rest last t).text = t.text := kept .text (by decide)
  have store : (afterVisit rest last t).store = t.store := kept .store (by decide)
  have alerts : (afterVisit rest last t).alerts = t.alerts := kept .alerts (by decide)
  unfold onlyOwed
  rw [maps, text, store, alerts]
  exact h

theorem work_afterVisit (rest : List SlipId) (last : Bool) (s : State) (q : RecId) :
    (afterVisit rest last s).work q = s.work q := by simp only [State.work, afterVisit_records]

/-- Settles O10. -/
theorem visitTakesAndDispatchesASlip : Obligations.VisitTakesAndDispatchesASlip := by
  intro h s r i rest last slip k sweep read visited guard kind lane
  let w := parseSlip i slip
  let u := dispatchTo (ownerOf k) r (takingSlip r i w s)
  have decided : decideTake r w (takingSlip r i w s) = u := by
    have defined : ¬ 3 < w.guard.toNat := not_lt.mpr (guardTrue_le guard)
    have known : (namesLane k && w.lane.isNone) = false := by
      rw [← Bool.not_eq_true, Bool.and_eq_true, WorkRecord.lane, laneOf_isNone, decide_eq_true_iff]
      exact fun ⟨names, out⟩ => absurd (lane names) (not_lt.mpr out)
    simp only [decideTake, if_neg defined, show kindOf w.kind = some k from kind, known, Bool.false_eq_true, if_false]
    rfl
  have run : exec (.slipVisit h) s = .next (afterVisit rest last u) := congrArg Host.Outcome.next (by
    rw [slipVisit_read sweep read, visitSlip_acts visited, (guardHolds_eq s _).2.1 guard]
    exact congrArg _ decided)
  obtain ⟨reader, regs, posted, jobs⟩ := dispatchTo_kept (ownerOf k) r (takingSlip r i w s)
  obtain ⟨joined, others⟩ := dispatchTo_owed (ownerOf k) r (takingSlip r i w s)
  have work : ∀ q, (afterVisit rest last u).work q = if q = r then some w else s.work q := fun q => by
    rw [work_afterVisit, State.work, reader]
    exact takingSlip_work r i w s q
  have kept := afterVisit_changesOnly rest last u
  have sameOwed : ∀ o, owed o (takingSlip r i w s) = owed o s := fun o => by cases o <;> rfl
  refine ⟨_, run, by rw [work, if_pos rfl], fun q hq => by rw [work, if_neg hq], ?_, ?_, fun o ho => ?_,
    onlyOwed_afterVisit (dispatchTo_onlyOwed _ _ _) rest last, ?_, ?_, ?_⟩
  · rw [show (afterVisit rest last u).posted = u.posted from kept .posted (by decide), posted, takingSlip_posted]
  · rw [owed_afterVisit, joined, sameOwed]
  · rw [owed_afterVisit, others o ho, sameOwed]
  · rw [show (afterVisit rest last u).store = u.store from kept .store (by decide), jobs]; rfl
  · have goes := afterVisit_goesOn (s := u) (regs := s.regs) (a := s.reader) (by rw [regs]; rfl) (by rw [reader]; rfl)
      (by rw [reader]; rfl) rest last
    rw [reader] at goes
    exact goes
  · have taken := (takingSlip_changesOnly r i w s).then (rs := [.reader, .posted, .maps, .text, .carousels, .store, .alerts])
      (dispatchTo_changesOnly (ownerOf k) r _)
    exact taken.then kept

/-! ### Visits that complete or leave their slip -/

/-- The state after a slip that completes at its visit, before the sweep goes on. -/
theorem visit_completes {s : State} {r : RecId} {i : SlipId} {w : WorkRecord} {before : List Posted} {status : Nat}
    {v : State} (work : ∀ q, v.work q = if q = r then some w else s.work q) (regs : v.regs = s.regs)
    (frames : v.frames = s.frames) (store : v.store = s.store) (posted : v.posted = s.posted ++ before)
    (reader : v.reader = { s.reader with cursor := v.reader.cursor, records := v.reader.records })
    (kept : changesOnly [.reader, .posted] s v) (rest : List SlipId) (last : Bool)
    {t : State} (decided : t = setSweepCursor (i + 1) (finish r status 0 v)) :
    let t := afterVisit rest last t
    t.work r = none ∧ (∀ q, q ≠ r → t.work q = s.work q) ∧
      t.regs = (if w.wantsNotice then withCause .slip s.regs else s.regs) ∧
      t.posted = s.posted ++ before ++ completionWrites s.regs.anchor w status 0 s.frames.counter ++
        (if w.wantsNotice then messageFor .slip s.regs else []) ∧
      sweepGoesOn s.regs (i + 1) rest last s.reader t.reader ∧ onlyJobs s t ∧
      t.store.jobs = (s.store.jobs.filter fun j => j.record ≠ r) ∧ changesOnly [.reader, .regs, .posted, .store] s t := by
  subst decided
  have held : v.work r = some w := by rw [work, if_pos rfl]
  have reported := finish_slipCompleted (s0 := v) (before := []) status 0 held rfl rfl (by simp) rfl rfl
  obtain ⟨⟨⟨records, regs', posted'⟩, jobs⟩, sameReader⟩ := reported
  have only := finish_onlyJobs r status 0 v
  have goes := afterVisit_changesOnly rest last (setSweepCursor (i + 1) (finish r status 0 v))
  have tregs : (afterVisit rest last (setSweepCursor (i + 1) (finish r status 0 v))).regs = (finish r status 0 v).regs :=
    goes .regs (by decide)
  have tposted : (afterVisit rest last (setSweepCursor (i + 1) (finish r status 0 v))).posted = (finish r status 0 v).posted :=
    goes .posted (by decide)
  have tstore : (afterVisit rest last (setSweepCursor (i + 1) (finish r status 0 v))).store = (finish r status 0 v).store :=
    goes .store (by decide)
  have run : (finish r status 0 v).regs.run = s.regs.run := by
    rw [← regs]; exact (finish_touches r status 0 v).same .run
  intro t
  have twork : ∀ q, t.work q = if q = r then none else s.work q := fun q => by
    show (afterVisit rest last _).work q = _
    rw [work_afterVisit]
    show (finish r status 0 v).reader.records[q] = _
    rw [records]
    by_cases h : q = r
    · subst h; simp
    · rw [if_neg h, Fin.getElem_fin, Vector.getElem_set_ne _ _ fun e => h (Fin.ext e.symm)]
      exact (work q).trans (if_neg h)
  refine ⟨by rw [twork, if_pos rfl], fun q hq => by rw [twork, if_neg hq], ?_, ?_, ?_, ?_, ?_, ?_⟩
  · rw [tregs, regs', regs]
  · rw [tposted, posted', posted, regs, frames]; simp
  · have owed : (finish r status 0 v).reader.owed = s.reader.owed := by rw [sameReader, reader]
    have timer : (finish r status 0 v).reader.timer = s.reader.timer := by rw [sameReader, reader]
    exact afterVisit_goesOn (s := setSweepCursor (i + 1) (finish r status 0 v)) (regs := s.regs) (a := s.reader) run.symm
      owed.symm timer.symm rest last
  · unfold onlyJobs
    rw [tstore, only, store]
  · rw [tstore, jobs, store]
  · have moved := (kept.then (rs := [.reader, .regs, .posted, .store]) (finish_changesOnly r status 0 v)).then
      (rs := [.reader, .regs, .posted, .store]) (changesOnly_setReader { (finish r status 0 v).reader with cursor := i + 1 } _)
    exact moved.then goes

/-- The cursor is read by no completion. -/
theorem finish_setSweepCursor (r : RecId) (status : Nat) (aux : Word) (c : SlipId) (s : State) :
    finish r status aux (setSweepCursor c s) = setSweepCursor c (finish r status aux s) := by
  unfold finish complete
  have work : (setSweepCursor c s).work r = s.work r := rfl
  rw [work]
  cases s.work r with
  | none => rfl
  | some w =>
    dsimp only
    unfold noticeSlip
    split
    · unfold raiseNotice
      dsimp only
      split_ifs <;> first | rfl | contradiction
    · rfl

theorem fillRecord_work (r : RecId) (w : WorkRecord) (s : State) (q : RecId) :
    (fillRecord r w s).work q = if q = r then some w else s.work q := takingSlip_work r 0 w s q

theorem decideTake_badArg {r : RecId} {w : WorkRecord} {s : State} (guard : 3 < w.guard.toNat) :
    decideTake r w s = finish r statusBadArg 0 s := if_pos guard

theorem decideTake_badKind {r : RecId} {w : WorkRecord} {s : State} (guard : w.guard.toNat ≤ 3) (kind : kindOf w.kind = none) :
    decideTake r w s = finish r statusBadKind 0 s := by
  simp [decideTake, not_lt.mpr guard, kind]

theorem decideTake_badLane {r : RecId} {w : WorkRecord} {s : State} {k : Kind} (guard : w.guard.toNat ≤ 3)
    (kind : kindOf w.kind = some k) (names : namesLane k = true) (lane : 23 < w.arg 0 1) :
    decideTake r w s = finish r statusBadLane 0 s := by
  have out : w.lane.isNone = true := by rw [WorkRecord.lane, laneOf_isNone, decide_eq_true_iff]; exact lane
  simp [decideTake, not_lt.mpr guard, kind, names, out]

theorem slipVisit_failed {h : HostView} {s : State} {r : RecId} {i : SlipId} {rest : List SlipId} {last : Bool}
    (sweep : s.reader.sweep = .visiting r i rest last) (failed : hostRead h (slipAddr s.regs.anchor i) 64 = none) :
    slipVisit h s = raiseNotice .fault (endSweep (setSweepCursor i s)) := by simp [slipVisit, sweep, failed]

/-- Settles O11. -/
theorem visitCompletesOrLeavesItsSlip : Obligations.VisitCompletesOrLeavesItsSlip := by
  constructor
  · intro h s r i rest last slip sweep read visited w completes
    have guards := guardHolds_eq s w
    -- a slip taken and then completed at once with a status
    have taken : ∀ status, visitSlip r i slip s = decideTake r w (takingSlip r i w s) →
        decideTake r w (takingSlip r i w s) = finish r status 0 (takingSlip r i w s) →
        completes [takenWrite s.regs.anchor i] status := fun status acts decided =>
      ⟨_, congrArg Host.Outcome.next (slipVisit_read sweep read),
        visit_completes (v := (fillRecord r w s).postRecord (slipAddr s.regs.anchor i) (leBytes 1 2))
          (takingSlip_work r i w s) rfl rfl rfl rfl rfl
          ((changesOnly_setReader _ s).then (changesOnly_post _ _)) rest last
          ((acts.trans decided).trans (finish_setSweepCursor _ _ _ _ _))⟩
    have takes : guardHolds s w = none ∨ guardHolds s w = some true →
        visitSlip r i slip s = decideTake r w (takingSlip r i w s) := by
      rintro (e | e) <;> rw [visitSlip_acts visited, e, takeSlip_eq]
    refine ⟨fun undefined => ?_, fun guard kind => ?_, fun guard names lane => ?_, fun le guard skip => ?_⟩
    · exact taken _ (takes (.inl (guards.1 undefined))) (decideTake_badArg undefined)
    · exact taken _ (takes (.inr (guards.2.1 guard))) (decideTake_badKind (guardTrue_le guard) kind)
    · obtain ⟨k, kind, names⟩ := names
      exact taken _ (takes (.inr (guards.2.1 guard))) (decideTake_badLane (guardTrue_le guard) kind names lane)
    · have acts : visitSlip r i slip s = skipSlip r i w s := by
        rw [visitSlip_acts visited, guards.2.2 le guard]
        exact if_pos skip
      exact ⟨_, congrArg Host.Outcome.next (slipVisit_read sweep read),
        visit_completes (v := fillRecord r w s) (before := []) (fillRecord_work r w s) rfl rfl rfl (by simp) rfl
          (changesOnly_mono (changesOnly_setReader _ s) (by decide)) rest last acts⟩
  · intro h s r i rest last sweep
    constructor
    · intro slip read leaves
      have kept : visitSlip r i slip s = s := by
        rcases leaves with passes | ⟨le, guard, skip⟩
        · exact visitSlip_passes passes
        · by_cases passes : passedOver s i slip
          · exact visitSlip_passes passes
          · rw [visitSlip_acts passes, (guardHolds_eq s _).2.2 le guard]
            exact if_neg (ne_true_of_eq_false skip)
      have run : exec (.slipVisit h) s = .next (afterVisit rest last s) :=
        congrArg Host.Outcome.next (by rw [slipVisit_read sweep read, kept])
      exact ⟨_, run, afterVisit_changesOnly _ _ _, afterVisit_records _ _ _, afterVisit_goesOn rfl rfl rfl _ _⟩
    · intro failed
      obtain ⟨changed, rest⟩ := faultSweep (setSweepCursor i s)
      have moved : changesOnly [.reader] s (setSweepCursor i s) := changesOnly_setReader _ s
      exact ⟨_, congrArg Host.Outcome.next (slipVisit_failed sweep failed), moved.then changed, rest⟩

end Sys2Proof.Machine
end

/-! ## Proofs: the text slips -/

section
namespace Sys2Proof.Machine

/-! ### Slips that complete with nothing written before -/

/-- The completion of a slip after changes to parts that no completion reads. -/
theorem finish_ends {s u : State} {qs rs : List Part} {r : RecId} {w : WorkRecord} (status : Nat) (aux : Word)
    (h : changesOnly qs s u) (work : s.work r = some w)
    (away : ∀ p ∈ [Part.regs, .reader, .frames, .store, .posted], p ∉ qs := by decide) (hq : qs ⊆ rs := by decide)
    (hr : [Part.regs, .reader, .store, .posted] ⊆ rs := by decide) :
    onlyJobs s (finish r status aux u) ∧ slipCompleted s (finish r status aux u) r w [] status aux ∧
      changesOnly rs s (finish r status aux u) := by
  have regs : u.regs = s.regs := h .regs (away _ (by decide))
  have reader : u.reader = s.reader := h .reader (away _ (by decide))
  have frames : u.frames = s.frames := h .frames (away _ (by decide))
  have store : u.store = s.store := h .store (away _ (by decide))
  have posted : u.posted = s.posted := h .posted (away _ (by decide))
  refine ⟨(finish_onlyJobs r status aux u).of_store store, ?_, h.then (finish_changesOnly r status aux u) hq hr⟩
  exact finish_slipCompleted status aux (by rw [State.work, reader]; exact work) reader regs (by simp [posted])
    (by rw [store]) (by rw [frames])

theorem changesOnly_setDraws (n : Nat) (s : State) : changesOnly [.draws] s (s.setDraws n) := fun p hp => by
  cases p <;> first | rfl | simp at hp

/-- As `finish_ends`, for a completion whose aux value is a free value. -/
theorem finishUnstated_ends {s u : State} {qs rs : List Part} {r : RecId} {w : WorkRecord} (status : Nat)
    (h : changesOnly qs s u) (work : s.work r = some w)
    (away : ∀ p ∈ [Part.regs, .reader, .frames, .store, .posted], p ∉ .draws :: qs := by decide)
    (hq : .draws :: qs ⊆ rs := by decide) (hr : [Part.regs, .reader, .store, .posted] ⊆ rs := by decide) :
    onlyJobs s (finishUnstated r status u) ∧
      slipCompleted s (finishUnstated r status u) r w [] status (Config.unstatedAux u.draws) ∧
      changesOnly rs s (finishUnstated r status u) :=
  finish_ends status _ (u := u.setDraws (u.draws + 1))
    (h.then (changesOnly_setDraws _ u) (List.subset_cons_self _ _)
      (List.cons_subset_cons _ (List.nil_subset _))) work away hq hr

theorem changesOnly_setText (x : TextEngine) (s : State) : changesOnly [.text] s (s.setText x) := fun p hp => by
  cases p <;> first | rfl | simp at hp

theorem changesOnly_setTextState (l : LaneId) (x : TextState) (s : State) : changesOnly [.lanes] s (s.setTextState l x) :=
  changesOnly_setLane _ _ s

theorem textPutApply_read {h : HostView} {s : State} {r : RecId} {w : WorkRecord} {l : LaneId}
    (putting : s.text.putting = some r) (work : s.work r = some w) (lane : w.lane = some l) : textPutApply h s =
      match hostRead h (w.argAddr 8) (min (w.arg 4 2) 128) with
      | none => finishUnstated r statusFetchFault (s.setText { s.text with putting := none })
      | some body =>
        if body.contains 0 then finishUnstated r statusBadArg (s.setText { s.text with putting := none })
        else if (s.lane l).state = .unused then finish r statusLaneState 0 (s.setText { s.text with putting := none })
        else applyPut r w l body (s.setText { s.text with putting := none }) := by
  simp only [textPutApply, putting, work, lane]
  rfl

/-- Settles O26. -/
theorem textPutStartsItsReadOrIsRefused : Obligations.TextPutStartsItsReadOrIsRefused := by
  constructor
  · intro s r rest w l front free refused
    have dispatched := textDispatch_at front free actTextPut
    have emptied := changesOnly_setText { s.text with queue := rest } s
    have refuse : ∀ status, actTextPut r w l (s.setText { s.text with queue := rest }) =
        finishUnstated r status (s.setText { s.text with queue := rest }) → refused status := fun status acts =>
      ⟨_, _, congrArg Host.Outcome.next (dispatched.trans acts), by rw [finishUnstated_text]; rfl,
        finishUnstated_ends status emptied front.1.2.1⟩
    refine ⟨fun unused => refuse _ (if_pos unused), fun used empty => refuse _ ((if_neg used).trans (if_pos empty)),
      fun used long => ⟨_, congrArg Host.Outcome.next (dispatched.trans ((if_neg used).trans (if_neg long.ne'))), rfl, ?_⟩⟩
    exact emptied.then (changesOnly_setText _ _)
  · intro h s r w l putting work lane refused
    have cleared := changesOnly_setText { s.text with putting := none } s
    have applied := textPutApply_read (h := h) putting work lane
    refine ⟨fun failed => ⟨_, _, congrArg Host.Outcome.next (applied.trans (by rw [failed])), by rw [finishUnstated_text]; rfl,
      finishUnstated_ends statusFetchFault cleared work⟩, fun body read => ⟨fun zero => ⟨_, _,
        congrArg Host.Outcome.next (applied.trans ?_), by rw [finishUnstated_text]; rfl,
        finishUnstated_ends statusBadArg cleared work⟩, fun zero unused => ⟨_, congrArg Host.Outcome.next (applied.trans ?_),
        by rw [finish_text]; rfl, finish_ends statusLaneState 0 cleared work⟩⟩⟩
    · rw [read]; exact if_pos (by simpa using zero)
    · rw [read]; exact (if_neg (by simpa using zero)).trans (if_pos unused)

/-! ### TEXT_PUT applied -/

theorem frozen_eq (t : TextState) : (!t.frozen) = decide (t.source = .own) := by simp [TextState.frozen]

/-- The head of the queue is the message with an id. -/
theorem headIs_eq (id : Half) (q : List Message) :
    (match q with | m :: _ => decide (m.id = id) | [] => false) = decide (q.head?.map Message.id = some id) := by
  cases q <;> simp

theorem putReplace_eq (id : Half) (body : List Byte) (repeats : Byte) (t : TextState) :
    let cut := decide (t.source = .own) && decide (t.queue.head?.map Message.id = some id)
    putReplace id body repeats t = { t with
      queue := t.queue.map fun m => if m.id = id then
        { m with body := body, repeats := repeats, airings := 0, version := m.version + 1 } else m
      seed := t.seed + 1
      position := if cut then 0 else t.position
      toggle := if cut then !t.toggle else t.toggle } := by
  intro cut
  rw [show cut = (!t.frozen && match t.queue with | m :: _ => decide (m.id = id) | [] => false) by
    rw [frozen_eq, headIs_eq]]
  rfl

theorem putAppend_eq (id : Half) (body : List Byte) (repeats : Byte) (t : TextState) :
    let own := decide (t.source = .own)
    putAppend id body repeats t = { t with
      queue := t.queue ++ [{ id := id, body := body, repeats := repeats, airings := 0, version := t.seed + 1 }]
      seed := t.seed + 1
      position := if t.queue.isEmpty && own then 0 else t.position
      toggle := if t.queue.isEmpty && own then !t.toggle else t.toggle
      pacing := if t.queue.isEmpty then 16 else t.pacing } := by
  intro own
  rw [show own = !t.frozen by rw [frozen_eq]]
  rfl

theorem findMessage_none {q : List Message} {id : Half} (absent : ∀ m ∈ q, m.id ≠ id) :
    q.find? (fun m => m.id = id) = none := List.find?_eq_none.mpr fun m hm => by simpa using absent m hm

theorem otherLanesKept_finish {s u : State} {l : LaneId} (h : otherLanesKept l s u) (r : RecId) (status : Nat) (aux : Word) :
    otherLanesKept l s (finish r status aux u) := fun k hk => by rw [finish_lane, h k hk]

/-- Settles O27. -/
theorem textPutReplacesOrAppends : Obligations.TextPutReplacesOrAppends := by
  intro h s r w l body putting work lane read zero used x q id own ok put
  have run : exec (.textPutApply h) s = .next (applyPut r w l body (s.setText { s.text with putting := none })) :=
    congrArg Host.Outcome.next ((textPutApply_read putting work lane).trans
      (by rw [read]; exact (if_neg (by simpa using zero)).trans (if_neg used)))
  have laid (text : TextState) : changesOnly [.text, .lanes] s
      ((s.setText { s.text with putting := none }).setTextState l text) :=
    (changesOnly_setText _ s).then (changesOnly_setTextState l text _)
  -- a put that writes the text state and completes
  have puts : ∀ status aux text' text, text' = text → applyPut r w l body (s.setText { s.text with putting := none }) =
      finish r status aux ((s.setText { s.text with putting := none }).setTextState l text') → put status aux text :=
    fun status aux text _ same acts => by
      subst same
      refine ⟨_, run.trans (congrArg _ acts), by rw [finish_text]; rfl, ?_, otherLanesKept_finish ?_ _ _ _,
        finish_ends status aux (laid text) work⟩
      · rw [finish_lane, State.setTextState, State.lane_setLane_same]; rfl
      · exact fun k hk => State.lane_setLane_other _ l k _ hk
  refine ⟨fun m found => ?_, fun absent room => ?_, fun absent full => ?_⟩
  · refine puts _ _ _ _ (putReplace_eq id body (w.argByte 1) x.text) ?_
    have found : (s.lane l).text.queue.find? (fun m => m.id = w.textId) = some m := found
    simp only [applyPut, State.lane_setText, found]
    rfl
  · refine puts _ _ _ _ (putAppend_eq id body (w.argByte 1) x.text) ?_
    have absent : (s.lane l).text.queue.find? (fun m => m.id = w.textId) = none := findMessage_none absent
    simp only [applyPut, State.lane_setText, absent]
    exact if_pos room
  · have absent : (s.lane l).text.queue.find? (fun m => m.id = w.textId) = none := findMessage_none absent
    have acts : applyPut r w l body (s.setText { s.text with putting := none }) =
        finish r statusQueueFull 0 (s.setText { s.text with putting := none }) := by
      simp only [applyPut, State.lane_setText, absent]
      exact if_neg (not_lt.mpr full)
    exact ⟨_, run.trans (congrArg _ acts), by rw [finish_text]; rfl, by rw [finish_lane]; rfl,
      otherLanesKept_finish (fun _ _ => rfl) _ _ _, finish_ends statusQueueFull 0 (changesOnly_setText _ s) work⟩

/-! ### TEXT_DROP and TEXT_CLEAR -/

theorem dropMessage_eq (id : Half) (t : TextState) :
    let left := t.queue.filter fun m => m.id ≠ id
    let cut := decide (t.source = .own) && decide (t.queue.head?.map Message.id = some id)
    dropMessage id t = { t with
      queue := left
      position := if cut then 0 else t.position
      toggle := if cut && !left.isEmpty then !t.toggle else t.toggle } := by
  intro left cut
  rw [show cut = (!t.frozen && match t.queue with | m :: _ => decide (m.id = id) | [] => false) by
    rw [frozen_eq, headIs_eq]]
  rfl

theorem clearText_eq (t : TextState) :
    clearText t = { t with queue := [], position := if decide (t.source = .own) then 0 else t.position } := by
  rw [← frozen_eq]
  unfold clearText
  cases t.frozen <;> rfl

theorem actTextDrop_absent {s : State} (r : RecId) {w : WorkRecord} {l : LaneId} (used : (s.lane l).state ≠ .unused)
    (absent : (s.lane l).text.queue.find? (fun m => m.id = w.textId) = none) :
    actTextDrop r w l s = finishUnstated r statusNotFound s := by
  simp only [actTextDrop, if_neg used, absent]

theorem actTextDrop_found {s : State} (r : RecId) {w : WorkRecord} {l : LaneId} {m : Message}
    (used : (s.lane l).state ≠ .unused) (found : (s.lane l).text.queue.find? (fun m => m.id = w.textId) = some m) :
    actTextDrop r w l s =
      finish r statusOk (m.airings.zeroExtend 32) (s.setTextState l (dropMessage w.textId (s.lane l).text)) := by
  simp only [actTextDrop, if_neg used, found]

/-- Settles O28. -/
theorem textDropAndClearRemoveMessages : Obligations.TextDropAndClearRemoveMessages := by
  intro s r rest w l free x q id own removed refused
  have refuse : ∀ {k : Kind} {act : RecId → WorkRecord → LaneId → State → State} {c : Instr} (status : Nat),
      laneSlipAt .text k s r rest w l → exec c s = .next (textDispatch k act s) →
      act r w l (s.setText { s.text with queue := rest }) =
        finishUnstated r status (s.setText { s.text with queue := rest }) → refused c status :=
    fun status front run acts => ⟨_, _, run.trans (congrArg _ ((textDispatch_at front free _).trans acts)),
      by rw [finishUnstated_text]; rfl, finishUnstated_ends status (changesOnly_setText _ s) front.1.2.1⟩
  have remove : ∀ {k : Kind} {act : RecId → WorkRecord → LaneId → State → State} {c : Instr} {text' text : TextState}
      (aux : Word), text' = text → laneSlipAt .text k s r rest w l → exec c s = .next (textDispatch k act s) →
      act r w l (s.setText { s.text with queue := rest }) =
        finish r statusOk aux ((s.setText { s.text with queue := rest }).setTextState l text') → removed c aux text := by
    intro k act c text _ aux same front run acts
    subst same
    refine ⟨_, run.trans (congrArg _ ((textDispatch_at front free _).trans acts)), by rw [finish_text]; rfl, ?_,
      otherLanesKept_finish (fun k hk => State.lane_setLane_other _ l k _ hk) _ _ _,
      finish_ends statusOk aux ((changesOnly_setText { s.text with queue := rest } s).then (rs := [.text, .lanes])
        (changesOnly_setTextState l text _)) front.1.2.1⟩
    rw [finish_lane, State.setTextState, State.lane_setLane_same]; rfl
  refine ⟨fun front => ⟨fun unused => refuse _ front rfl (if_pos unused), fun used absent => refuse _ front rfl ?_,
    fun used m found => ?_⟩, fun front => ⟨fun unused => refuse _ front rfl (if_pos unused), fun used => ?_⟩⟩
  · exact actTextDrop_absent (s := s.setText { s.text with queue := rest }) r used (findMessage_none absent)
  · exact remove _ (dropMessage_eq id x.text) front rfl
      (actTextDrop_found (s := s.setText { s.text with queue := rest }) r used found)
  · exact remove _ (clearText_eq x.text) front rfl (if_neg used)

end Sys2Proof.Machine
end

/-! ## Proofs: the carousel slips, and the removal of a condemned slot -/

section
namespace Sys2Proof.Machine

theorem changesOnly_setCarousels (x : List RecId) (s : State) : changesOnly [.carousels] s (s.setCarousels x) := fun p hp => by
  cases p <;> first | rfl | simp at hp

theorem changesOnly_setCarousel (l : LaneId) (x : Carousel) (s : State) : changesOnly [.lanes] s (s.setCarousel l x) :=
  changesOnly_setLane _ _ s

theorem slotOf_val (i : SlotId) : slotOf i.val = some i := by simp [slotOf]

theorem filterMap_slotOf {slots : List SlotId} {ns : List Nat} (h : slots.map (fun i => i.val) = ns) :
    ns.filterMap slotOf = slots := by
  rw [← h, List.filterMap_map, show slotOf ∘ (fun i : SlotId => i.val) = some from funext slotOf_val, List.filterMap_some]

/-! ### CAR_SET and CAR_JUMP -/

/-- CAR_SET accepted. -/
theorem actCarSet_accepts {s : State} (r : RecId) {w : WorkRecord} {l : LaneId} {slots : List SlotId}
    (used : (s.lane l).state ≠ .unused) (count : w.arg 1 1 ≤ 12)
    (named : slots.map (fun i => i.val) = slotNumbers w (w.arg 1 1)) (ready : ∀ i ∈ slots, (s.slot i).record.state = .ready) :
    actCarSet r w l s = finish r statusOk (BitVec.ofNat 32 (w.arg 1 1))
      (retally (s.lane l).carousel.entries slots (s.setCarousel l (setList slots (s.lane l).carousel))) := by
  have inRange : (slotNumbers w (w.arg 1 1)).any (fun n => decide (63 < n)) = false := by
    rw [← named, ← Bool.not_eq_true, List.any_eq_true]
    rintro ⟨n, hn, big⟩
    obtain ⟨i, -, rfl⟩ := List.mem_map.mp hn
    have := i.isLt
    exact absurd (of_decide_eq_true big) (by omega)
  have allReady : slots.any (fun i => decide ((s.slot i).record.state ≠ .ready)) = false := by
    simpa [← Bool.not_eq_true] using ready
  simp only [actCarSet, if_neg used, if_neg (not_lt.mpr count), filterMap_slotOf named, inRange, allReady,
    Bool.false_eq_true, if_false]

theorem actCarSet_unused {s : State} (r : RecId) (w : WorkRecord) {l : LaneId} (unused : (s.lane l).state = .unused) :
    actCarSet r w l s = finish r statusLaneState 0 s := if_pos unused

theorem actCarSet_badArg {s : State} (r : RecId) {w : WorkRecord} {l : LaneId} (used : (s.lane l).state ≠ .unused)
    (bad : 12 < w.arg 1 1 ∨ ∃ n ∈ slotNumbers w (w.arg 1 1), 63 < n) : actCarSet r w l s = finish r statusBadArg 0 s := by
  by_cases many : 12 < w.arg 1 1
  · exact (if_neg used).trans (if_pos many)
  · obtain ⟨n, hn, big⟩ := bad.resolve_left many
    have out : (slotNumbers w (w.arg 1 1)).any (fun n => decide (63 < n)) = true :=
      List.any_eq_true.mpr ⟨n, hn, decide_eq_true big⟩
    exact (if_neg used).trans ((if_neg many).trans (if_pos out))

theorem actCarSet_notReady {s : State} (r : RecId) {w : WorkRecord} {l : LaneId} (used : (s.lane l).state ≠ .unused)
    (count : w.arg 1 1 ≤ 12) (small : ∀ n ∈ slotNumbers w (w.arg 1 1), n ≤ 63)
    (unready : ∃ i : SlotId, i.val ∈ slotNumbers w (w.arg 1 1) ∧ (s.slot i).record.state ≠ .ready) :
    actCarSet r w l s = finish r statusNotReady 0 s := by
  have inRange : (slotNumbers w (w.arg 1 1)).any (fun n => decide (63 < n)) = false := by
    simpa [← Bool.not_eq_true] using small
  obtain ⟨i, hi, state⟩ := unready
  have some : ((slotNumbers w (w.arg 1 1)).filterMap slotOf).any
      (fun i => decide ((s.slot i).record.state ≠ .ready)) = true :=
    List.any_eq_true.mpr ⟨i, List.mem_filterMap.mpr ⟨i.val, hi, slotOf_val i⟩, decide_eq_true state⟩
  exact (if_neg used).trans ((if_neg (not_lt.mpr count)).trans ((if_neg (by simp [inRange])).trans (if_pos some)))

theorem onlyUsers_of_onlyJobs {s t : State} (h : onlyJobs s t) : onlyUsers s t := by
  refine ⟨?_, fun i => ?_⟩
  · rw [h]
  · rw [State.slot, h]; rfl

theorem onlyUsers.of_store {s s' t : State} (h : onlyUsers s' t) (store : s'.store = s.store) : onlyUsers s t := by
  obtain ⟨same, records⟩ := h
  refine ⟨by rw [← store, ← same], fun i => ?_⟩
  rw [records i, State.slot, store]
  rfl

/-- Settles O30. -/
theorem carouselSlipsSetAndJump : Obligations.CarouselSlipsSetAndJump := by
  constructor
  · intro s r rest w l used x
    constructor
    · intro front count slots named ready
      let s1 := s.setCarousels rest
      let u := s1.setCarousel l (setList slots x.carousel)
      let v := retally x.carousel.entries slots u
      have run : exec .carSet s = .next (finish r statusOk (BitVec.ofNat 32 (w.arg 1 1)) v) := congrArg Host.Outcome.next
        ((carouselDispatch_at front _).trans (actCarSet_accepts (s := s1) r used count named ready))
      have laid : changesOnly [.carousels, .lanes] s u :=
        (changesOnly_setCarousels rest s).then (changesOnly_setCarousel l _ s1)
      have tallied : changesOnly [.store, .posted] u v := (retally_touches _ _ u).changesOnly
      obtain ⟨mirrors, hmirrors⟩ := (retally_touches x.carousel.entries slots u).posted
      have work : v.work r = some w := by rw [State.work, retally_reader]; exact front.1.2.1
      have completed := finish_slipCompleted (s0 := v) (before := []) statusOk (BitVec.ofNat 32 (w.arg 1 1)) work rfl rfl
        (by simp) rfl rfl
      obtain ⟨⟨⟨records, regs, posted⟩, -⟩, reader⟩ := completed
      have vreader : v.reader = s.reader := by simp [v, u, s1, State.setCarousel]
      have vregs : v.regs = s.regs := by simp [v, u, s1, State.setCarousel]
      have vframes : v.frames = s.frames := by simp [v, u, s1, State.setCarousel]
      refine ⟨_, mirrors, run, ?_, ?_, fun k hk => ?_, ?_, fun i => ?_, ⟨?_, ?_, ?_⟩, ?_, ?_⟩
      · simp [v, u, s1, State.setCarousel]
      · rw [finish_lane, retally_lane]
        exact State.lane_setLane_same s1 l _
      · rw [finish_lane, retally_lane]
        exact State.lane_setLane_other s1 l k _ hk
      · exact onlyUsers_trans (onlyUsers.of_store (s' := u) (retally_onlyUsers _ _ u) rfl)
          (onlyUsers_of_onlyJobs (finish_onlyJobs _ _ _ _))
      · have same : (finish r statusOk (BitVec.ofNat 32 (w.arg 1 1)) v).slot i = v.slot i := by
          rw [State.slot, finish_onlyJobs r statusOk (BitVec.ofNat 32 (w.arg 1 1)) v]; rfl
        rw [same, retally_users]; rfl
      · rw [records, vreader]
      · rw [regs, vregs]
      · rw [posted, hmirrors, vregs, vframes]
        simp [u, s1, State.setCarousel, statusOk]
      · rw [reader, vreader]
      · exact (laid.then (rs := [.carousels, .lanes, .store, .posted]) tallied).then (finish_changesOnly _ _ _ _)
    · intro front small
      have acts : actCarJump r w l (s.setCarousels rest) = finish r statusOk (BitVec.ofNat 32 (w.arg 1 1))
          ((s.setCarousels rest).setCarousel l { x.carousel with jump := some (w.arg 1 1) }) :=
        (if_neg used).trans (if_neg (not_le.mpr small))
      refine ⟨_, congrArg Host.Outcome.next ((carouselDispatch_at front _).trans acts), by rw [finish_carousels]; rfl, ?_,
        otherLanesKept_finish (fun k hk => State.lane_setLane_other _ l k _ hk) _ _ _,
        finish_ends statusOk _ ((changesOnly_setCarousels rest s).then (rs := [.carousels, .lanes])
          (changesOnly_setCarousel l _ _)) front.1.2.1⟩
      rw [finish_lane, State.setCarousel, State.lane_setLane_same]; rfl
  · intro s r rest w l x named refused
    have refuse : ∀ {k : Kind} {act : RecId → WorkRecord → LaneId → State → State} {c : Instr} (status : Nat),
        laneSlipAt .carousel k s r rest w l → exec c s = .next (carouselDispatch k act s) →
        act r w l (s.setCarousels rest) = finish r status 0 (s.setCarousels rest) → refused c status :=
      fun status front run acts => ⟨_, run.trans (congrArg _ ((carouselDispatch_at front _).trans acts)),
        by rw [finish_carousels]; rfl, finish_ends status 0 (changesOnly_setCarousels rest s) front.1.2.1⟩
    exact ⟨fun front => ⟨fun unused => refuse _ front rfl (actCarSet_unused (s := s.setCarousels rest) r w unused),
        fun used bad => refuse _ front rfl (actCarSet_badArg (s := s.setCarousels rest) r used bad),
        fun used count small unready =>
          refuse _ front rfl (actCarSet_notReady (s := s.setCarousels rest) r used count small unready)⟩,
      fun front => ⟨fun unused => refuse _ front rfl (if_pos unused),
        fun used big => refuse _ front rfl ((if_neg used).trans (if_pos big))⟩⟩

/-! ### The removal of a condemned slot -/

/-- The kept entries from an entry on are those of the kept list from its kept index on. -/
theorem drop_keptBefore (i : SlotId) (entries : List SlotId) (e : Nat) :
    (entries.filter fun x => x ≠ i).drop (keptBefore i entries e) = (entries.drop e).filter fun x => x ≠ i := by
  have len : keptBefore i entries e = ((entries.take e).filter fun x => x ≠ i).length := by
    rw [keptBefore, List.countP_eq_length_filter]
  have split : entries.filter (fun x => x ≠ i) =
      (entries.take e).filter (fun x => x ≠ i) ++ (entries.drop e).filter fun x => x ≠ i := by
    rw [← List.filter_append, List.take_append_drop]
  rw [len, split, List.drop_left]

/-- A kept entry is found at its kept index. -/
theorem getElem?_keptBefore {i x : SlotId} {entries : List SlotId} {e : Nat} (found : entries[e]? = some x) (other : x ≠ i) :
    (entries.filter fun x => x ≠ i)[keptBefore i entries e]? = some x := by
  have head : entries.drop e = x :: entries.drop (e + 1) := by
    obtain ⟨lt, rfl⟩ := List.getElem?_eq_some_iff.mp found
    exact List.drop_eq_getElem_cons lt
  have dropped := drop_keptBefore i entries e
  rw [head, List.filter_cons_of_pos (by simpa using other)] at dropped
  have zero : ((entries.filter fun x => x ≠ i).drop (keptBefore i entries e))[0]? = some x := by rw [dropped]; rfl
  rwa [List.getElem?_drop, Nat.add_zero] at zero

theorem dropEntries_mem {i : SlotId} {c : Carousel} (h : i ∈ c.entries) : dropEntries i c =
    { c with entries := c.entries.filter fun x => x ≠ i, position := movePosition i c.entries c.position,
             jump := moveJump i c.entries c.jump } := if_pos (by simpa using h)

theorem movePosition_kept {i x : SlotId} {entries : List SlotId} {p : Position} (found : entries[p.entry]? = some x)
    (other : x ≠ i) : movePosition i entries p = ⟨p.mark, keptBefore i entries p.entry⟩ :=
  if_neg (by rw [found]; exact fun e => other (Option.some.inj e))

theorem movePosition_gone {i : SlotId} {entries : List SlotId} {p : Position} (found : entries[p.entry]? = some i) :
    movePosition i entries p = ⟨.next, if keptBefore i entries p.entry < entries.countP (fun x => x ≠ i)
      then keptBefore i entries p.entry else 0⟩ := if_pos found

/-- Nothing is kept from an entry on exactly when its kept index is past the kept list. -/
theorem keptBefore_lt_iff (i : SlotId) (entries : List SlotId) (e : Nat) :
    keptBefore i entries e < entries.countP (fun x => x ≠ i) ↔ ((entries.drop e).filter fun x => x ≠ i) ≠ [] := by
  rw [← drop_keptBefore, List.countP_eq_length_filter, ne_eq, List.drop_eq_nil_iff, not_le]

/-- Settles O31. -/
theorem condemnedSlotLeavesACarousel : Obligations.CondemnedSlotLeavesACarousel := by
  intro i c
  refine ⟨fun absent => if_neg (by simpa using absent), fun mem => ?_⟩
  rw [dropEntries_mem mem]
  refine ⟨rfl, rfl, rfl, fun x found other => ?_, fun found => ?_, fun j jump => ⟨fun found => ?_, fun x found other => ?_⟩⟩
  · dsimp only
    rw [movePosition_kept found other]
    exact ⟨rfl, getElem?_keptBefore found other, drop_keptBefore _ _ _⟩
  · dsimp only
    rw [movePosition_gone found]
    refine ⟨rfl, fun some => ?_, fun none => ?_⟩
    · rw [if_pos ((keptBefore_lt_iff _ _ _).mpr some)]
      exact drop_keptBefore _ _ _
    · exact if_neg fun lt => (keptBefore_lt_iff _ _ _).mp lt none
  · simp only [jump, moveJump, found, if_true]
  · refine ⟨keptBefore i c.entries j, ?_, getElem?_keptBefore found other, drop_keptBefore _ _ _⟩
    simp only [jump, moveJump, found]
    exact if_neg fun e => other (Option.some.inj e)

end Sys2Proof.Machine
end

/-! ## Proofs: map tables, the maps they form, and the switch-over -/

section
namespace Sys2Proof.Machine

/-! ### Numbers read from bytes -/

theorem slice_length (bs : List Byte) (off n : Nat) : (slice bs off n).length = n := by
  simp only [slice, padTo, List.length_append, List.length_replicate, List.length_take]
  omega

theorem leNat_lt (bs : List Byte) : leNat bs < 256 ^ bs.length := by
  induction bs with
  | nil => exact Nat.one_pos
  | cons b bs ih =>
    have := b.isLt
    rw [leNat, List.length_cons, pow_succ]
    omega

theorem leNat_slice_one (bs : List Byte) (off : Nat) : leNat (slice bs off 1) ≤ 255 := by
  have := leNat_lt (slice bs off 1)
  rw [slice_length] at this
  omega

/-! ### Entries found by lane -/

/-- The entry of a table for a lane. -/
def entryFor (es : List RawEntry) (l : LaneId) : Option RawEntry := es.find? fun e => e.lane = l.val

/-- A number of the entry for a lane; 0 with no entry. -/
def numberFor (f : RawEntry → Nat) (es : List RawEntry) (l : LaneId) : Nat := ((entryFor es l).map f).getD 0

theorem entryFor_eq_none {es : List RawEntry} {l : LaneId} : entryFor es l = none ↔ ∀ e ∈ es, e.lane ≠ l.val := by
  simp [entryFor]

theorem entryFor_some {es : List RawEntry} {l : LaneId} {e : RawEntry} (h : entryFor es l = some e) :
    e ∈ es ∧ e.lane = l.val := ⟨List.mem_of_find?_eq_some h, by simpa using List.find?_some h⟩

theorem entryFor_of_mem {es : List RawEntry} (distinct : (es.map RawEntry.lane).Nodup) {e : RawEntry} (he : e ∈ es)
    {l : LaneId} (lane : e.lane = l.val) : entryFor es l = some e := by
  cases h : entryFor es l with
  | none => exact absurd lane (entryFor_eq_none.mp h e he)
  | some x =>
    obtain ⟨hx, xl⟩ := entryFor_some h
    exact congrArg some (List.inj_on_of_nodup_map distinct hx he (xl.trans lane.symm))

theorem entryFor_clamp (es : List RawEntry) (l : LaneId) :
    entryFor (es.map clampEntry) l = (entryFor es l).map clampEntry := by
  rw [entryFor, List.find?_map]
  rfl

/-- The numbers found for distinct lanes add up to those of the entries of these lanes. -/
theorem sum_numberFor (f : RawEntry → Nat) {ls : List LaneId} (hls : ls.Nodup) : ∀ {es : List RawEntry},
    (es.map RawEntry.lane).Nodup → (ls.map (numberFor f es)).sum =
      ((es.filter fun e => ls.any fun l => decide (e.lane = l.val)).map f).sum
  | [], _ => by
    rw [show numberFor f [] = fun _ => 0 from rfl]
    simp
  | e :: es, distinct => by
    obtain ⟨fresh, distinct⟩ := List.nodup_cons.mp distinct
    have head : ∀ l, numberFor f (e :: es) l = (if e.lane = l.val then f e else 0) + numberFor f es l := by
      intro l
      by_cases same : e.lane = l.val
      · have gone : entryFor es l = none :=
          entryFor_eq_none.mpr fun x hx xl => fresh (List.mem_map.mpr ⟨x, hx, xl.trans same.symm⟩)
        have found : entryFor (e :: es) l = some e := by simp [entryFor, same]
        simp [numberFor, found, gone, same]
      · have next : entryFor (e :: es) l = entryFor es l := by simp [entryFor, same]
        simp [numberFor, next, same]
    have once : (ls.map fun l => if e.lane = l.val then f e else 0).sum =
        if ls.any (fun l => decide (e.lane = l.val)) then f e else 0 := by
      clear head
      induction ls with
      | nil => rfl
      | cons l ls ih =>
        obtain ⟨new, hls⟩ := List.nodup_cons.mp hls
        have rest := ih hls
        by_cases same : e.lane = l.val
        · have none : ls.any (fun k => decide (e.lane = k.val)) = false := by
            rw [← Bool.not_eq_true, List.any_eq_true]
            rintro ⟨k, hk, ek⟩
            exact new (Fin.ext (same.symm.trans (of_decide_eq_true ek)) ▸ hk)
          rw [List.map_cons, List.sum_cons, rest, none, if_pos same, List.any_cons, none, Bool.or_false,
            decide_eq_true same]
          rfl
        · simp [rest, same]
    rw [show numberFor f (e :: es) = fun l => (if e.lane = l.val then f e else 0) + numberFor f es l from funext head,
      List.sum_map_add, once, sum_numberFor f hls distinct]
    cases h : ls.any fun l => decide (e.lane = l.val) <;> simp [h]

/-! ### The entries of a formed map -/

/-- The map entry of a lane with its start cell. -/
def placed (l : LaneId) (start : Nat) (e : RawEntry) : MapEntry :=
  { lane := l, reserved := e.reserved, share := e.share, burst := e.burst, start := if e.reserved = 0 then 0 else start }

theorem placeEntries_nil (es : List RawEntry) (n : Nat) : placeEntries es n [] = [] := rfl

theorem placeEntries_cons (es : List RawEntry) (n : Nat) (l : LaneId) (ls : List LaneId) : placeEntries es n (l :: ls) =
    ((entryFor es l).map (placed l n)).toList ++ placeEntries es (n + numberFor RawEntry.reserved es l) ls := by
  cases h : entryFor es l with
  | none =>
    simp only [placeEntries, show es.find? (fun e => decide (e.lane = l.val)) = none from h]
    simp [numberFor, h]
  | some e =>
    simp only [placeEntries, show es.find? (fun e => decide (e.lane = l.val)) = some e from h]
    simp [numberFor, h, placed]

theorem placeEntries_lanes (es : List RawEntry) : ∀ (ls : List LaneId) (n : Nat),
    (placeEntries es n ls).map MapEntry.lane = ls.filter fun l => (entryFor es l).isSome
  | [], _ => rfl
  | l :: ls, n => by
    rw [placeEntries_cons, List.map_append, placeEntries_lanes es ls]
    cases h : entryFor es l <;> simp [h, placed]

theorem placeEntries_sum (es : List RawEntry) {f : RawEntry → Nat} {g : MapEntry → Nat}
    (same : ∀ l n e, g (placed l n e) = f e) : ∀ (ls : List LaneId) (n : Nat),
    ((placeEntries es n ls).map g).sum = (ls.map (numberFor f es)).sum
  | [], _ => rfl
  | l :: ls, n => by
    rw [placeEntries_cons, List.map_append, List.sum_append, placeEntries_sum es same ls, List.map_cons, List.sum_cons]
    cases h : entryFor es l <;> simp [numberFor, h, same]

theorem mem_placeEntries {es : List RawEntry} {x : MapEntry} : ∀ {ls : List LaneId} {n : Nat}, x ∈ placeEntries es n ls →
    ∃ l k e, e ∈ es ∧ x = placed l k e
  | [], _, h => absurd h List.not_mem_nil
  | l :: ls, n, h => by
    rw [placeEntries_cons, List.mem_append] at h
    rcases h with h | h
    · cases found : entryFor es l with
      | none => simp [found] at h
      | some e => exact ⟨l, n, e, (entryFor_some found).1, by simpa [found] using h⟩
    · exact mem_placeEntries h

/-- Each lane with reserved cells starts after the regions of the lanes before it. -/
theorem placeEntries_start {es : List RawEntry} : ∀ {ls : List LaneId} {n : Nat} {before : List MapEntry} {x : MapEntry}
    {after : List MapEntry}, placeEntries es n ls = before ++ x :: after →
    x.start = if x.reserved = 0 then 0 else n + (before.map MapEntry.reserved).sum
  | [], _, _, _, _, h => by simp [placeEntries_nil] at h
  | l :: ls, n, before, x, after, h => by
    rw [placeEntries_cons] at h
    cases found : entryFor es l with
    | none =>
      have rest := placeEntries_start (es := es) (ls := ls) (n := n) (by simpa [found, numberFor] using h)
      exact rest
    | some e =>
      rw [found] at h
      match before, h with
      | [], h =>
        obtain ⟨rfl, -⟩ := List.cons.inj h
        simp [placed]
      | b :: before, h =>
        obtain ⟨rfl, tail⟩ := List.cons.inj h
        rw [placeEntries_start tail]
        simp [numberFor, found, placed, Nat.add_assoc]

/-- The entry of a lane in a formed map. -/
theorem placeEntries_find {es : List RawEntry} {l : LaneId} : ∀ {ls : List LaneId} {n : Nat}, ls.Pairwise (· < ·) → l ∈ ls →
    (placeEntries es n ls).find? (fun e => e.lane = l) =
      (entryFor es l).map (placed l (n + ((ls.filter fun k => k < l).map (numberFor RawEntry.reserved es)).sum))
  | [], _, _, h => absurd h List.not_mem_nil
  | k :: ks, n, sorted, h => by
    obtain ⟨above, sorted⟩ := List.pairwise_cons.mp sorted
    rw [placeEntries_cons, List.find?_append]
    rcases List.mem_cons.mp h with rfl | h
    · have first : (ks.filter fun k => decide (k < l)) = [] :=
        List.filter_eq_nil_iff.mpr fun k hk => by simpa using (above k hk).le
      cases found : entryFor es l with
      | none =>
        have away : (placeEntries es (n + numberFor RawEntry.reserved es l) ks).find? (fun e => decide (e.lane = l)) = none := by
          refine List.find?_eq_none.mpr fun x hx => ?_
          have : x.lane ∈ (placeEntries es (n + numberFor RawEntry.reserved es l) ks).map MapEntry.lane :=
            List.mem_map_of_mem hx
          rw [placeEntries_lanes] at this
          have later := above _ (List.mem_of_mem_filter this)
          simpa using later.ne'
        simp [away]
      | some e => simp [placed, first]
    · have lt := above l h
      have skip : ((entryFor es k).map (placed k n)).toList.find? (fun e => decide (e.lane = l)) = none := by
        cases entryFor es k <;> simp [placed, lt.ne]
      rw [skip, Option.none_or, placeEntries_find sorted h, List.filter_cons_of_pos (by simpa using lt), List.map_cons,
        List.sum_cons, Nat.add_assoc]

theorem formMap_entry? (es : List RawEntry) (l : LaneId) : (formMap es).entry? l =
    (entryFor es l).map
      (placed l (9 + (((List.finRange 24).filter fun k => k < l).map (numberFor RawEntry.reserved es)).sum)) :=
  placeEntries_find (finRange_pairwise_lt 24) (List.mem_finRange l)

theorem any_lane_eq (n : Nat) : ((List.finRange 24).any fun l => decide (n = l.val)) = decide (n < 24) := by
  rw [Bool.eq_iff_iff, List.any_eq_true, decide_eq_true_iff]
  constructor
  · rintro ⟨l, -, e⟩
    exact of_decide_eq_true e ▸ l.isLt
  · exact fun lt => ⟨⟨n, lt⟩, List.mem_finRange _, decide_eq_true rfl⟩

/-- With distinct lanes in range, a formed map holds as much as its table. -/
theorem formMap_sum {es : List RawEntry} {f : RawEntry → Nat} {g : MapEntry → Nat} (same : ∀ l n e, g (placed l n e) = f e)
    (distinct : (es.map RawEntry.lane).Nodup) (inRange : ∀ e ∈ es, e.lane < 24) :
    ((formMap es).entries.map g).sum = (es.map f).sum := by
  rw [formMap, placeEntries_sum es same, sum_numberFor f (List.nodup_finRange 24) distinct]
  congr 2
  refine List.filter_eq_self.mpr fun e he => ?_
  rw [any_lane_eq]
  exact decide_eq_true (inRange e he)

/-! ### Tables -/

theorem clampEntry_lane (e : RawEntry) : (clampEntry e).lane = e.lane := rfl

theorem clamped_lanes (es : List RawEntry) : (es.map clampEntry).map RawEntry.lane = es.map RawEntry.lane := by
  rw [List.map_map]; rfl

theorem clamped_reserved (es : List RawEntry) : (es.map clampEntry).map RawEntry.reserved = es.map RawEntry.reserved := by
  rw [List.map_map]; rfl

theorem clamped_share (es : List RawEntry) :
    (es.map clampEntry).map RawEntry.share = es.map fun e => min e.share 1023 := by rw [List.map_map]; rfl

theorem laneOf_some {n : Nat} {l : LaneId} : laneOf n = some l ↔ n = l.val := by
  unfold laneOf
  split
  next h => rw [Option.some_inj, Fin.ext_iff]
  next h => exact iff_of_false nofun fun e => h (e ▸ l.isLt)

theorem entriesOk_iff (s : State) (count : Nat) (es : List RawEntry) : entriesOk s count es = true ↔
    count ≤ 24 ∧ (es.map RawEntry.lane).Nodup ∧ ∀ e ∈ es, ∃ l, laneOf e.lane = some l ∧ (s.lane l).state ≠ .unused := by
  simp only [entriesOk, Bool.and_eq_true, decide_eq_true_iff, List.all_eq_true, and_assoc]
  refine and_congr_right fun _ => and_congr_right fun _ => forall₂_congr fun e _ => ?_
  cases laneOf e.lane <;> simp

theorem sumsOk_iff (es : List RawEntry) : sumsOk (es.map clampEntry) = true ↔
    (es.map RawEntry.reserved).sum ≤ 1191 ∧ (es.map fun e => min e.share 1023).sum ≤ 1024 := by
  simp only [sumsOk, Bool.and_eq_true, decide_eq_true_iff, clamped_reserved, clamped_share]

/-- The checks of a table that do not ask for the alerts. -/
structure TableOk (s : State) (count : Nat) (es : List RawEntry) : Prop where
  count    : count ≤ 24
  distinct : (es.map RawEntry.lane).Nodup
  used     : ∀ e ∈ es, ∃ l, laneOf e.lane = some l ∧ (s.lane l).state ≠ .unused
  reserved : (es.map RawEntry.reserved).sum ≤ 1191
  share    : (es.map fun e => min e.share 1023).sum ≤ 1024

theorem TableOk.inRange {s : State} {count : Nat} {es : List RawEntry} (h : TableOk s count es) : ∀ e ∈ es, e.lane < 24 :=
  fun e he => by
    obtain ⟨l, hl, -⟩ := h.used e he
    exact laneOf_some.mp hl ▸ l.isLt

theorem tableOk_iff (s : State) (count : Nat) (es : List RawEntry) :
    TableOk s count es ↔ entriesOk s count es = true ∧ sumsOk (es.map clampEntry) = true := by
  rw [entriesOk_iff, sumsOk_iff]
  exact ⟨fun ⟨a, b, c, d, e⟩ => ⟨⟨a, b, c⟩, d, e⟩, fun ⟨⟨a, b, c⟩, d, e⟩ => ⟨a, b, c, d, e⟩⟩

theorem tableFault_ok {s : State} {count : Nat} {es : List RawEntry} (h : TableOk s count es) :
    tableFault s count es = alertsFault s (formMap (es.map clampEntry)) := by
  obtain ⟨entries, sums⟩ := (tableOk_iff s count es).mp h
  simp [tableFault, entries, sums]

theorem tableFault_bad {s : State} {count : Nat} {es : List RawEntry} (h : ¬ TableOk s count es) :
    tableFault s count es = some statusMapInvalid := by
  rw [tableOk_iff] at h
  unfold tableFault
  cases entries : entriesOk s count es with
  | false => rfl
  | true =>
    cases sums : sumsOk (es.map clampEntry) with
    | false => rfl
    | true => exact absurd ⟨entries, sums⟩ h

/-! ### Check 5: the active alerts -/

theorem mem_alertsById (s : State) (a : Alert) : a ∈ alertsById s ↔ a ∈ activeAlerts s := by
  have := a.id.isLt
  simp [alertsById, this]

/-- The alerts of a list of ids stand in the order of the list. -/
theorem flatMap_filter_pairwise (as : List Alert) : ∀ ns : List Nat, ns.Pairwise (· < ·) →
    (ns.flatMap fun n => as.filter fun a => a.id.toNat = n).Pairwise fun a b => a.id.toNat ≤ b.id.toNat
  | [], _ => List.Pairwise.nil
  | n :: ns, sorted => by
    obtain ⟨above, sorted⟩ := List.pairwise_cons.mp sorted
    rw [List.flatMap_cons]
    refine List.pairwise_append.mpr ⟨?_, flatMap_filter_pairwise as ns sorted, fun a ha b hb => ?_⟩
    · refine List.pairwise_of_forall_mem_list fun a ha b hb => ?_
      rw [List.mem_filter, decide_eq_true_iff] at ha hb
      omega
    · obtain ⟨m, hm, hb⟩ := List.mem_flatMap.mp hb
      rw [List.mem_filter, decide_eq_true_iff] at ha hb
      have := above m hm
      omega

theorem alertsById_pairwise (s : State) : (alertsById s).Pairwise fun a b => a.id.toNat ≤ b.id.toNat :=
  flatMap_filter_pairwise _ _ List.pairwise_lt_range

theorem alertsFault_eq_none (s : State) (m : AirMap) : alertsFault s m = none ↔
    ∀ a ∈ activeAlerts s, ∀ l ∈ a.targets, targetFault m a l = none := by
  simp only [alertsFault, List.findSome?_eq_none_iff, mem_alertsById]

/-- A target fails check 5 against the map of a table. -/
def tableFails (es : List RawEntry) (a : Alert) (l : LaneId) : Prop :=
  ∀ e ∈ es, e.lane = l.val → a.take.audio = true ∧ e.reserved < a.width

theorem targetFault_some {es : List RawEntry} {a : Alert} {l : LaneId}
    (h : tableFails es a l) : targetFault (formMap (es.map clampEntry)) a l =
      some (if ∀ e ∈ es, e.lane ≠ l.val then 19 else 18) := by
  unfold targetFault
  rw [formMap_entry?, entryFor_clamp]
  cases found : entryFor es l with
  | none => exact congrArg some (if_pos (entryFor_eq_none.mp found)).symm
  | some e =>
    obtain ⟨he, el⟩ := entryFor_some found
    obtain ⟨audio, narrow⟩ := h e he el
    have some : ¬ ∀ e ∈ es, e.lane ≠ l.val := fun k => k e he el
    simp only [Option.map_some, audio, placed, clampEntry, narrow, decide_true, Bool.and_self, if_true, if_neg some]
    rfl

theorem targetFault_none {es : List RawEntry} (distinct : (es.map RawEntry.lane).Nodup) {a : Alert} {l : LaneId}
    (h : ¬ tableFails es a l) : targetFault (formMap (es.map clampEntry)) a l = none := by
  unfold targetFault
  rw [formMap_entry?, entryFor_clamp]
  cases found : entryFor es l with
  | none => exact absurd (fun e he el => absurd el (entryFor_eq_none.mp found e he)) h
  | some e =>
    have fits : ¬ (a.take.audio = true ∧ e.reserved < a.width) := fun k => h fun x hx xl => by
      have := (entryFor_of_mem distinct hx xl).symm.trans found
      cases this
      exact k
    have : (a.take.audio && decide (e.reserved < a.width)) = false := by
      rw [← Bool.not_eq_true, Bool.and_eq_true, decide_eq_true_iff]
      exact fits
    simp only [Option.map_some, placed, clampEntry, this, Bool.false_eq_true, if_false]

theorem findSome?_of_split {α β : Type} {f : α → Option β} {before after : List α} {x : α} {b : β}
    (earlier : ∀ y ∈ before, f y = none) (here : f x = some b) : (before ++ x :: after).findSome? f = some b :=
  List.findSome?_eq_some_iff.mpr ⟨before, x, after, rfl, here, earlier⟩

/-- Some target that fails decides. -/
theorem alertsFault_some {s : State} {es : List RawEntry} (distinct : (es.map RawEntry.lane).Nodup)
    (h : ∃ a ∈ activeAlerts s, ∃ l ∈ a.targets, tableFails es a l) :
    ∃ st, (st = 18 ∨ st = 19) ∧ alertsFault s (formMap (es.map clampEntry)) = some st := by
  obtain ⟨a, ha, l, hl, fails⟩ := h
  cases found : alertsFault s (formMap (es.map clampEntry)) with
  | none =>
    have := (alertsFault_eq_none s _).mp found a ha l hl
    rw [targetFault_some fails] at this
    exact absurd this nofun
  | some st =>
    refine ⟨st, ?_, rfl⟩
    obtain ⟨b, -, inner⟩ := List.exists_of_findSome?_eq_some found
    obtain ⟨k, -, fault⟩ := List.exists_of_findSome?_eq_some inner
    by_cases bad : tableFails es b k
    · rw [targetFault_some bad] at fault
      obtain rfl := Option.some.inj fault
      split
      · exact .inr rfl
      · exact .inl rfl
    · rw [targetFault_none distinct bad] at fault
      exact absurd fault nofun

/-- The first target that fails, of the first alert with one, decides. -/
theorem alertsFault_first {s : State} {es : List RawEntry} (distinct : (es.map RawEntry.lane).Nodup)
    (ids : ((activeAlerts s).map Alert.id).Nodup) {a : Alert} (ha : a ∈ activeAlerts s) (sorted : a.targets.Pairwise (· < ·))
    {l : LaneId} (hl : l ∈ a.targets) (fails : tableFails es a l)
    (earlier : ∀ b ∈ activeAlerts s, b.id.toNat < a.id.toNat → ∀ k ∈ b.targets, ¬ tableFails es b k)
    (lower : ∀ k ∈ a.targets, k < l → ¬ tableFails es a k) :
    alertsFault s (formMap (es.map clampEntry)) = some (if ∀ e ∈ es, e.lane ≠ l.val then 19 else 18) := by
  have distinctAlerts : (alertsById s).Nodup := by
    rw [alertsById, List.nodup_flatMap]
    refine ⟨fun n _ => (List.Nodup.of_map _ ids).filter _, List.nodup_range.imp fun {m n} ne => ?_⟩
    intro x hx hy
    rw [List.mem_filter, decide_eq_true_iff] at hx hy
    exact ne (hx.2.symm.trans hy.2)
  obtain ⟨before, after, split⟩ := List.append_of_mem ((mem_alertsById s a).mpr ha)
  obtain ⟨t1, t2, targets⟩ := List.append_of_mem hl
  have inner : a.targets.findSome? (targetFault (formMap (es.map clampEntry)) a) =
      some (if ∀ e ∈ es, e.lane ≠ l.val then 19 else 18) := by
    rw [targets] at sorted ⊢
    refine findSome?_of_split (fun k hk => targetFault_none distinct (lower k ?_ ?_)) (targetFault_some fails)
    · rw [targets]; exact List.mem_append_left _ hk
    · exact (List.pairwise_append.mp sorted).2.2 k hk l List.mem_cons_self
  rw [alertsFault, split]
  refine findSome?_of_split (fun b hb => ?_) inner
  have order := alertsById_pairwise s
  rw [split] at order distinctAlerts
  have le : b.id.toNat ≤ a.id.toNat := (List.pairwise_append.mp order).2.2 b hb a List.mem_cons_self
  have hbs : b ∈ activeAlerts s := (mem_alertsById s b).mp (split ▸ List.mem_append_left _ hb)
  have ne : b.id ≠ a.id := fun e => by
    have same := List.inj_on_of_nodup_map ids hbs ha e
    exact (List.nodup_append.mp distinctAlerts).2.2 b hb a List.mem_cons_self same
  have lt : b.id.toNat < a.id.toNat := lt_of_le_of_ne le fun e => ne (BitVec.eq_of_toNat_eq e)
  exact List.findSome?_eq_none_iff.mpr fun k hk => targetFault_none distinct (earlier b hbs lt k hk)

/-! ### MAP_LOAD and MAP_TABLE_READ -/

theorem mapLoad_starts {s : State} {r : RecId} {rest : List RecId} (front : s.maps.mapLoads = r :: rest)
    (free : s.maps.checking = none) (clear : s.maps.upcoming = none) :
    mapLoad s = s.setMaps { s.maps with mapLoads := rest, checking := some r } := by
  simp only [mapLoad, free, front, clear]

theorem mapLoad_pending {s : State} {r : RecId} {rest : List RecId} {p : PendingMap} (front : s.maps.mapLoads = r :: rest)
    (free : s.maps.checking = none) (pending : s.maps.upcoming = some p) :
    mapLoad s = finishUnstated r statusMapPending (s.setMaps { s.maps with mapLoads := rest }) := by
  simp only [mapLoad, free, front, pending]

/-- The entries of the table that a MAP_LOAD read. -/
def tableOf (w : WorkRecord) (table : List Byte) : List RawEntry := (List.range (min (w.arg 0 1) 24)).map (rawEntry table)

theorem mapTableRead_failed {h : HostView} {s : State} {r : RecId} {w : WorkRecord} (checking : s.maps.checking = some r)
    (work : s.work r = some w) (failed : hostRead h (w.argAddr 8) (8 * min (w.arg 0 1) 24) = none) :
    mapTableRead h s = finishUnstated r statusFetchFault (s.setMaps { s.maps with checking := none }) := by
  simp only [mapTableRead, checking, work, failed]

theorem mapTableRead_faulty {h : HostView} {s : State} {r : RecId} {w : WorkRecord} {table : List Byte} {status : Nat}
    (checking : s.maps.checking = some r) (work : s.work r = some w)
    (read : hostRead h (w.argAddr 8) (8 * min (w.arg 0 1) 24) = some table)
    (fault : tableFault s (w.arg 0 1) (tableOf w table) = some status) :
    mapTableRead h s = finishUnstated r status (s.setMaps { s.maps with checking := none }) := by
  unfold tableOf at fault
  simp only [mapTableRead, checking, work, read, fault]

theorem mapTableRead_forms {h : HostView} {s : State} {r : RecId} {w : WorkRecord} {table : List Byte}
    (checking : s.maps.checking = some r) (work : s.work r = some w)
    (read : hostRead h (w.argAddr 8) (8 * min (w.arg 0 1) 24) = some table)
    (fault : tableFault s (w.arg 0 1) (tableOf w table) = none) :
    mapTableRead h s = s.setMaps { s.maps with
      checking := none, upcoming := some ⟨formMap ((tableOf w table).map clampEntry), Config.announceStart, r⟩ } := by
  unfold tableOf at fault
  simp only [mapTableRead, checking, work, read, fault]
  rfl

/-- Settles O16. -/
theorem mapLoadStartsItsReadOrIsRefused : Obligations.MapLoadStartsItsReadOrIsRefused := by
  constructor
  · intro s r rest w front free
    constructor
    · intro clear
      exact ⟨_, congrArg Host.Outcome.next (mapLoad_starts front.1 free clear), rfl, changesOnly_setMaps _ s⟩
    · intro busy
      obtain ⟨p, pending⟩ := Option.ne_none_iff_exists'.mp busy
      exact ⟨_, _, congrArg Host.Outcome.next (mapLoad_pending front.1 free pending), by rw [finishUnstated_maps]; rfl,
        finishUnstated_ends statusMapPending (changesOnly_setMaps _ s) front.2.1⟩
  · intro h s r w checking work refused
    have refuse : ∀ {ok : Nat → Prop} (status : Nat), ok status →
        mapTableRead h s = finishUnstated r status (s.setMaps { s.maps with checking := none }) → refused ok :=
      fun status holds acts => ⟨_, _, status, holds, congrArg Host.Outcome.next acts, by rw [finishUnstated_maps]; rfl,
        finishUnstated_ends status (changesOnly_setMaps _ s) work⟩
    refine ⟨fun failed => refuse _ rfl (mapTableRead_failed checking work failed), fun table read => ?_⟩
    intro es bad fails
    have ok_iff : TableOk s (w.arg 0 1) es ↔ ¬ bad := by
      constructor
      · rintro ⟨count, distinct, used, reserved, share⟩ (many | twice | ⟨e, he, unused⟩ | cells | shares)
        · omega
        · exact twice distinct
        · obtain ⟨l, hl, state⟩ := used e he
          exact state (unused l hl)
        · omega
        · omega
      · intro good
        refine ⟨not_lt.mp fun k => good (.inl k), not_not.mp fun k => good (.inr (.inl k)), fun e he => ?_,
          not_lt.mp fun k => good (.inr (.inr (.inr (.inl k)))), not_lt.mp fun k => good (.inr (.inr (.inr (.inr k))))⟩
        by_contra none
        exact good (.inr (.inr (.inl ⟨e, he, fun l hl => by_contra fun state => none ⟨l, hl, state⟩⟩)))
    refine ⟨fun isBad => refuse _ rfl (mapTableRead_faulty checking work read (tableFault_bad fun k => ok_iff.mp k isBad)),
      fun good some => ?_, fun good ids sorted a ha l hl failsHere earlier lower => ?_⟩
    · have ok := ok_iff.mpr good
      obtain ⟨st, which, fault⟩ := alertsFault_some ok.distinct some
      exact refuse st which (mapTableRead_faulty checking work read ((tableFault_ok ok).trans fault))
    · have ok := ok_iff.mpr good
      exact refuse _ rfl (mapTableRead_faulty checking work read ((tableFault_ok ok).trans
        (alertsFault_first ok.distinct ids ha (sorted a ha) hl failsHere earlier lower)))

/-- Settles O17. -/
theorem checkedMapTableFormsThePendingMap : Obligations.CheckedMapTableFormsThePendingMap := by
  intro h s r w table checking work count read es distinct used reserved share carried
  have least : min (w.arg 0 1) 24 = w.arg 0 1 := min_eq_left count
  have table_eq : tableOf w table = es := by rw [tableOf, least]
  have ok : TableOk s (w.arg 0 1) es := ⟨count, distinct, used, reserved, share⟩
  have fault : tableFault s (w.arg 0 1) (tableOf w table) = none := by
    rw [table_eq, tableFault_ok ok, alertsFault_eq_none]
    intro a ha l hl
    refine targetFault_none distinct fun fails => ?_
    obtain ⟨e, he, el, wide⟩ := carried a ha l hl
    obtain ⟨audio, narrow⟩ := fails e he el
    have := wide audio
    omega
  have forms := mapTableRead_forms checking work (by rw [least]; exact read) fault
  rw [table_eq] at forms
  refine ⟨_, formMap (es.map clampEntry), congrArg Host.Outcome.next forms, rfl, changesOnly_setMaps _ s, ?_, fun l => ?_, ?_, ?_⟩
  · rw [formMap, placeEntries_lanes]
    exact (finRange_pairwise_lt 24).filter _
  · rw [formMap_entry?, sum_numberFor _ ((List.nodup_finRange 24).filter _) (by rw [clamped_lanes]; exact distinct),
      entryFor_clamp]
    have below : ((es.map clampEntry).filter fun e => ((List.finRange 24).filter fun k => decide (k < l)).any
        fun k => decide (e.lane = k.val)) = (es.filter fun x => decide (x.lane < l.val)).map clampEntry := by
      rw [List.filter_map]
      congr 1
      refine List.filter_congr fun e _ => ?_
      rw [Bool.eq_iff_iff, Function.comp, List.any_eq_true, decide_eq_true_iff]
      constructor
      · rintro ⟨k, hk, ek⟩
        rw [List.mem_filter, decide_eq_true_iff] at hk
        rw [show e.lane = k.val from of_decide_eq_true ek]
        exact hk.2
      · intro lt
        exact ⟨⟨e.lane, lt.trans l.isLt⟩, List.mem_filter.mpr ⟨List.mem_finRange _, decide_eq_true lt⟩, decide_eq_true rfl⟩
    rw [below, clamped_reserved, Option.map_map]
    rfl
  · rw [formMap, clamped_reserved]
  · rw [formMap, clamped_reserved]

/-! ### The switch-over -/

theorem switchOver_waits {s : State} (h : ∀ p, s.maps.upcoming = some p → 0 < p.announce) : switchOver s = s := by
  unfold switchOver
  split
  next p pending => exact if_neg (h p pending).ne'
  next => rfl

theorem switchOver_due {s : State} {p : PendingMap} (pending : s.maps.upcoming = some p) (due : p.announce = 0) :
    switchOver s = (s.setLanes (switchLanes s.maps.active p.map s.lanes)).setMaps
      { s.maps with active := p.map, generation := s.maps.generation + 1, upcoming := none, switched := some p.record } := by
  simp only [switchOver, pending, if_pos due]

/-- Settles O18. -/
theorem switchOverAdoptsThePendingMap : Obligations.SwitchOverAdoptsThePendingMap := by
  refine fun s => ⟨switchOver_waits, fun p pending due => ?_⟩
  have switched := switchOver_due pending due
  have lane : ∀ l, (switchOver s).lane l =
      { s.lane l with credit := switchCredit (s.maps.active.entry? l) (p.map.entry? l) (s.lane l).credit } := fun l => by
    rw [switched]
    exact switchLanes_lane s.maps.active p.map s.lanes l
  refine ⟨by rw [switched]; rfl, fun l => ?_, (switchOver_touches s).changesOnly⟩
  rw [lane]
  refine ⟨rfl, fun e he isAired => ?_, fun moves => ?_, fun away unaired => ?_⟩
  · obtain ⟨old, hold⟩ := Option.isSome_iff_exists.mp isAired
    rw [hold, he]
    rfl
  · dsimp only
    unfold aired at moves
    cases old : s.maps.active.entry? l <;> cases new : p.map.entry? l <;> simp_all [switchCredit]
  · dsimp only
    rw [away, show s.maps.active.entry? l = none by simpa [aired] using unaired]
    rfl

end Sys2Proof.Machine
end

/-! ## Proofs: the restore log and the pass-up rule

`logSource` reads a log from its top, so what it gives depends on the topmost entry of a lane and field alone. An entry under
another of the same lane and field can therefore be taken away without a trace, if the one above takes over its previous value;
this is what the pass-up rule does, entry by entry (`passUpEntry_agrees`). -/

section
namespace Sys2Proof.Machine

/-! ### What a log gives -/

theorem logSource_cons (e : LogEntry) (es : List LogEntry) (l : LaneId) (f : Field) : logSource (e :: es) l f =
    if logSource es l f = .own then (if e.lane = l ∧ e.field = f then .alert e.alert else .own) else logSource es l f := by
  rw [logSource]
  cases logSource es l f <;> simp

theorem logSource_append (xs ys : List LogEntry) (l : LaneId) (f : Field) : logSource (xs ++ ys) l f =
    if logSource ys l f = .own then logSource xs l f else logSource ys l f := by
  induction xs with
  | nil => by_cases h : logSource ys l f = .own <;> simp [logSource, h]
  | cons x xs ih =>
    rw [List.cons_append, logSource_cons, logSource_cons, ih]
    by_cases h : logSource ys l f = .own <;> simp [h]

theorem logSource_eq_own {es : List LogEntry} {l : LaneId} {f : Field} :
    logSource es l f = .own ↔ ∀ e ∈ es, ¬ (e.lane = l ∧ e.field = f) := by
  induction es with
  | nil => simp [logSource]
  | cons e es ih =>
    rw [logSource_cons, List.forall_mem_cons, ← ih]
    by_cases h : logSource es l f = .own
    · by_cases k : e.lane = l ∧ e.field = f <;> simp [h, k]
    · simp [h]

/-- What a log gives depends on the alert, lane and field of its entries alone. -/
theorem logSource_congr : ∀ {xs ys : List LogEntry},
    xs.map (fun e => (e.alert, e.lane, e.field)) = ys.map (fun e => (e.alert, e.lane, e.field)) →
    ∀ l f, logSource xs l f = logSource ys l f
  | [], [], _, _, _ => rfl
  | [], _ :: _, h, _, _ => nomatch h
  | _ :: _, [], h, _, _ => nomatch h
  | x :: xs, y :: ys, h, l, f => by
    obtain ⟨head, tail⟩ := List.cons.inj h
    simp only [Prod.mk.injEq] at head
    obtain ⟨alert, lane, field⟩ := head
    rw [logSource_cons, logSource_cons, logSource_congr tail, alert, lane, field]

theorem logSource_single (e : LogEntry) (l : LaneId) (f : Field) :
    logSource [e] l f = if e.lane = l ∧ e.field = f then .alert e.alert else .own := rfl

/-- An entry under another for its lane and field gives nothing. -/
theorem logSource_covered {below above : List LogEntry} {e : LogEntry} (covered : logSource above e.lane e.field ≠ .own)
    (l : LaneId) (f : Field) : logSource (below ++ e :: above) l f = logSource (below ++ above) l f := by
  rw [logSource_append, logSource_append, logSource_cons]
  by_cases h : logSource above l f = .own
  · have other : ¬ (e.lane = l ∧ e.field = f) := by
      rintro ⟨rfl, rfl⟩
      exact covered h
    simp [h, other]
  · simp [h]

/-- Entries of one alert under nothing that reaches a field give nothing there. -/
theorem logSource_filter {id : Byte} {l : LaneId} {f : Field} : ∀ {log : List LogEntry}, logSource log l f ≠ .alert id →
    logSource (log.filter fun e => e.alert ≠ id) l f = logSource log l f
  | [], _ => rfl
  | e :: es, h => by
    rw [logSource_cons] at h ⊢
    have rest : logSource (es.filter fun e => e.alert ≠ id) l f = logSource es l f := by
      refine logSource_filter fun k => ?_
      rw [k] at h
      simp at h
    by_cases own : logSource es l f = .own
    · rw [if_pos own] at h ⊢
      by_cases here : e.lane = l ∧ e.field = f
      · rw [if_pos here] at h ⊢
        have kept : e.alert ≠ id := fun k => h (congrArg _ k)
        rw [List.filter_cons_of_pos (by simpa using kept), logSource_cons, rest, if_pos own, if_pos here]
      · rw [if_neg here] at h ⊢
        by_cases kept : e.alert ≠ id
        · rw [List.filter_cons_of_pos (by simpa using kept), logSource_cons, rest, if_pos own, if_neg here]
        · rw [List.filter_cons_of_neg (by simpa using kept), rest, own]
    · rw [if_neg own]
      by_cases kept : e.alert ≠ id
      · rw [List.filter_cons_of_pos (by simpa using kept), logSource_cons, rest, if_neg own]
      · rw [List.filter_cons_of_neg (by simpa using kept), rest]

/-! ### Chained logs -/

theorem logChained_append : ∀ {below xs ys : List LogEntry},
    logChained below (xs ++ ys) ↔ logChained below xs ∧ logChained (below ++ xs) ys
  | below, [], ys => by simp [logChained]
  | below, x :: xs, ys => by
    rw [List.cons_append, logChained, logChained, logChained_append, and_assoc, List.append_assoc]
    rfl

/-- A log stays chained on other entries below it that give its fields the same. -/
theorem logChained_congr : ∀ {below below' es : List LogEntry},
    (∀ e ∈ es, logSource below e.lane e.field = logSource below' e.lane e.field) → logChained below es → logChained below' es
  | _, _, [], _, _ => trivial
  | below, below', e :: es, same, chained => by
    obtain ⟨previous, chained⟩ := chained
    refine ⟨previous.trans (same e List.mem_cons_self), logChained_congr (fun x hx => ?_) chained⟩
    rw [logSource_append, logSource_append, same x (List.mem_cons_of_mem _ hx)]

/-- Entries for distinct lanes and fields, each with the value that the log below gives, are chained on it. -/
theorem logChained_fresh : ∀ {below es : List LogEntry}, (es.map fun e => (e.lane, e.field)).Nodup →
    (∀ e ∈ es, e.previous = logSource below e.lane e.field) → logChained below es
  | _, [], _, _ => trivial
  | below, e :: es, distinct, previous => by
    obtain ⟨fresh, distinct⟩ := List.nodup_cons.mp distinct
    refine ⟨previous e List.mem_cons_self, logChained_fresh distinct fun x hx => ?_⟩
    have other : ¬ (e.lane = x.lane ∧ e.field = x.field) := fun ⟨lane, field⟩ =>
      fresh (List.mem_map.mpr ⟨x, hx, Prod.ext lane.symm field.symm⟩)
    rw [previous x (List.mem_cons_of_mem _ hx), logSource_append, logSource_single, if_neg other, if_pos rfl]

/-! ### The pass-up rule -/

theorem sameField_iff (e x : LogEntry) : sameField e x = true ↔ x.lane = e.lane ∧ x.field = e.field := by
  simp [sameField]

/-- The pass of a previous value to the lowest entry for its lane and field. -/
theorem passTo_split {e : LogEntry} : ∀ {kept : List LogEntry}, kept.any (sameField e) = true →
    ∃ before x after, kept = before ++ x :: after ∧ (∀ y ∈ before, sameField e y = false) ∧ sameField e x = true ∧
      passTo e kept = before ++ { x with previous := e.previous } :: after
  | [], h => nomatch h
  | x :: xs, h => by
    by_cases same : sameField e x = true
    · exact ⟨[], x, xs, rfl, nofun, same, by simp [passTo, same]⟩
    · have rest : xs.any (sameField e) = true := by simpa [same] using h
      obtain ⟨before, y, after, split, none, here, passed⟩ := passTo_split rest
      refine ⟨x :: before, y, after, by rw [split]; rfl, ?_, here, by simp [passTo, same, passed]⟩
      intro z hz
      rcases List.mem_cons.mp hz with rfl | hz
      · exact eq_false_of_ne_true same
      · exact none z hz

theorem passTo_keys {e : LogEntry} {kept : List LogEntry} (h : kept.any (sameField e) = true) :
    (passTo e kept).map (fun x => (x.alert, x.lane, x.field)) = kept.map fun x => (x.alert, x.lane, x.field) := by
  obtain ⟨before, x, after, split, -, -, passed⟩ := passTo_split h
  rw [passed, split]
  simp

/-- Entries and crosspoint agree: every previous value and every source field is what the log gives. -/
def logAgrees (log : List LogEntry) (lanes : Vector Lane 24) : Prop :=
  logChained [] log ∧ ∀ (l : LaneId) (f : Field), lanes[l].sourceOf f = logSource log l f

/-- One entry met, all entries below it still to be met: the entries below and those kept still agree with the crosspoint. -/
theorem passUpEntry_agrees (id : Byte) {below kept : List LogEntry} {e : LogEntry} {lanes : Vector Lane 24}
    (h : logAgrees (below ++ e :: kept) lanes) : logAgrees (below ++ (passUpEntry id (kept, lanes) e).1)
      (passUpEntry id (kept, lanes) e).2 := by
  unfold passUpEntry
  dsimp only
  split
  next ending =>
    obtain ⟨chained, sources⟩ := h
    obtain ⟨lower, upper⟩ := logChained_append.mp chained
    obtain ⟨previous, upper⟩ := upper
    rw [List.nil_append] at previous upper
    split
    next covered =>
      obtain ⟨before, x, after, split, others, here, passed⟩ := passTo_split covered
      obtain ⟨lane, field⟩ := (sameField_iff e x).mp here
      rw [passed]
      have gives : ∀ l f, logSource kept l f = logSource (before ++ { x with previous := e.previous } :: after) l f :=
        fun l f => by rw [split]; exact logSource_congr (by simp) l f
      have covers : logSource kept e.lane e.field ≠ .own := fun own => by
        refine (logSource_eq_own.mp own) x ?_ ⟨lane, field⟩
        rw [split]; simp
      have away : ∀ y ∈ before, ¬ (e.lane = y.lane ∧ e.field = y.field) := fun y hy ⟨a, b⟩ => by
        have := others y hy
        rw [← Bool.not_eq_true, sameField_iff] at this
        exact this ⟨a.symm, b.symm⟩
      constructor
      · rw [split, logChained_append] at upper
        obtain ⟨first, second⟩ := upper
        obtain ⟨-, second⟩ := second
        refine logChained_append.mpr ⟨lower, logChained_append.mpr ⟨logChained_congr (fun y hy => ?_) first, ?_, ?_⟩⟩
        · rw [logSource_append, logSource_single, if_neg (away y hy), if_pos rfl]
          rfl
        · rw [List.nil_append]
          have none : logSource before x.lane x.field = .own :=
            logSource_eq_own.mpr fun y hy ⟨a, b⟩ => away y hy ⟨(a.trans lane).symm, (b.trans field).symm⟩
          rw [logSource_append, none, if_pos rfl, lane, field]
          exact previous
        · refine logChained_congr (fun y _ => ?_) second
          have top : logSource (before ++ [x]) e.lane e.field ≠ .own := fun own =>
            (logSource_eq_own.mp own) x (by simp) ⟨lane, field⟩
          have moved := logSource_covered (below := below) top y.lane y.field
          have same : logSource (below ++ (before ++ [x])) y.lane y.field =
              logSource (below ++ (before ++ [{ x with previous := e.previous }])) y.lane y.field :=
            logSource_congr (by simp) _ _
          simpa using moved.trans same
      · intro l f
        rw [sources, logSource_covered covers, logSource_append, gives, ← logSource_append]
    next uncovered =>
      have away : ∀ y ∈ kept, ¬ (e.lane = y.lane ∧ e.field = y.field) := fun y hy ⟨a, b⟩ =>
        uncovered (List.any_eq_true.mpr ⟨y, hy, (sameField_iff e y).mpr ⟨a.symm, b.symm⟩⟩)
      constructor
      · refine logChained_append.mpr ⟨lower, logChained_congr (fun y hy => ?_) upper⟩
        rw [logSource_append, logSource_single, if_neg (away y hy), if_pos rfl]
        rfl
      · intro l f
        have wrote : (lanes.set e.lane (lanes[e.lane].setSource e.field e.previous))[l].sourceOf f =
            if l = e.lane ∧ f = e.field then e.previous else lanes[l].sourceOf f := by
          by_cases hl : l = e.lane
          · subst hl
            simp only [Fin.getElem_fin, Vector.getElem_set_self, Lane.sourceOf_setSource, true_and]
          · rw [if_neg fun k => hl k.1]
            exact congrArg (fun x => Lane.sourceOf x f) (Vector.getElem_set_ne _ _ fun v => hl (Fin.ext v.symm))
        rw [wrote]
        split
        next here =>
          obtain ⟨rfl, rfl⟩ := here
          have own : logSource kept e.lane e.field = .own :=
            logSource_eq_own.mpr fun y hy ⟨a, b⟩ => away y hy ⟨a.symm, b.symm⟩
          rw [logSource_append, own, if_pos rfl]
          exact previous
        next elsewhere =>
          have other : ¬ (e.lane = l ∧ e.field = f) := fun ⟨a, b⟩ => elsewhere ⟨a.symm, b.symm⟩
          rw [sources, logSource_append, logSource_append below, logSource_cons, if_neg other]
          by_cases own : logSource kept l f = .own <;> simp [own]
  next =>
    exact h

theorem passUpEntry_keys (id : Byte) (acc : List LogEntry × Vector Lane 24) (e : LogEntry) :
    (passUpEntry id acc e).1.map (fun x => (x.alert, x.lane, x.field)) =
      (if e.alert = id then [] else [(e.alert, e.lane, e.field)]) ++ acc.1.map fun x => (x.alert, x.lane, x.field) := by
  unfold passUpEntry
  dsimp only
  split
  · split
    next covered => rw [passTo_keys covered]; rfl
    next => rfl
  · rfl

/-- The entries of a log met from its top, some kept already. -/
theorem passUp_fold (id : Byte) : ∀ {entries kept : List LogEntry} {lanes : Vector Lane 24},
    logAgrees (entries.reverse ++ kept) lanes →
    logAgrees (entries.foldl (passUpEntry id) (kept, lanes)).1 (entries.foldl (passUpEntry id) (kept, lanes)).2 ∧
      (entries.foldl (passUpEntry id) (kept, lanes)).1.map (fun x => (x.alert, x.lane, x.field)) =
        ((entries.reverse.filter fun e => e.alert ≠ id).map fun x => (x.alert, x.lane, x.field)) ++
          kept.map fun x => (x.alert, x.lane, x.field)
  | [], kept, lanes, h => ⟨h, rfl⟩
  | e :: es, kept, lanes, h => by
    rw [List.reverse_cons, List.append_assoc] at h
    obtain ⟨agrees, keys⟩ := passUp_fold id (entries := es) (passUpEntry_agrees id (kept := kept) h)
    refine ⟨agrees, keys.trans ?_⟩
    rw [passUpEntry_keys, List.reverse_cons, List.filter_append, List.map_append, List.append_assoc]
    congr 1
    by_cases ending : e.alert = id <;> simp [ending]

theorem passUp_agrees {id : Byte} {log : List LogEntry} {lanes : Vector Lane 24} (h : logAgrees log lanes) :
    logAgrees (passUp id log lanes).1 (passUp id log lanes).2 := by
  refine (passUp_fold id (entries := log.reverse) (kept := []) ?_).1
  rw [List.reverse_reverse, List.append_nil]
  exact h

theorem passUp_keys {id : Byte} {log : List LogEntry} {lanes : Vector Lane 24} (h : logAgrees log lanes) :
    (passUp id log lanes).1.map (fun x => (x.alert, x.lane, x.field)) =
      (log.filter fun e => e.alert ≠ id).map fun x => (x.alert, x.lane, x.field) := by
  have keys := (passUp_fold id (entries := log.reverse) (kept := []) (lanes := lanes)
    (by rw [List.reverse_reverse, List.append_nil]; exact h)).2
  rw [List.reverse_reverse] at keys
  exact keys.trans (List.append_nil _)

/-- Settles O45. -/
theorem passUpKeepsTheCrosspointTrue : Obligations.PassUpKeepsTheCrosspointTrue := by
  intro id log lanes _ chained sources out
  have agrees : logAgrees log lanes := ⟨chained, sources⟩
  have after : logAgrees out.1 out.2 := passUp_agrees agrees
  have keys := passUp_keys (id := id) agrees
  refine ⟨keys, after.1, after.2, fun l f other => ?_, fun l => ?_⟩
  · rw [sources] at other
    rw [after.2, logSource_congr keys, logSource_filter other, sources]
  · refine lane_eq_of_same (x := { lanes[l] with
      audioFrom := out.2[l].audioFrom, textFrom := out.2[l].textFrom, pictureFrom := out.2[l].pictureFrom }) fun a => ?_
    by_cases source : a ∈ [Aspect.audioFrom, .textFrom, .pictureFrom]
    · simp only [List.mem_cons, List.not_mem_nil, or_false] at source
      rcases source with rfl | rfl | rfl <;> rfl
    · have same := passUp_laneSame id log lanes l a source
      cases a <;> first | exact same | exact trivial | rfl

/-! ### Alert places -/

theorem mem_activeAlerts {s : State} {a : Alert} : a ∈ activeAlerts s ↔ ∃ p : PlaceId, s.alerts.places[p] = some a := by
  unfold activeAlerts
  rw [List.mem_filterMap]
  constructor
  · rintro ⟨x, hx, rfl⟩
    obtain ⟨i, hi, e⟩ := List.mem_iff_getElem.mp hx
    exact ⟨⟨i, by simpa using hi⟩, by simpa using e⟩
  · rintro ⟨p, e⟩
    exact ⟨some a, by rw [← e]; simp, rfl⟩

theorem activeAlerts_congr {s t : State} (h : t.alerts.places = s.alerts.places) : activeAlerts t = activeAlerts s := by
  unfold activeAlerts
  rw [h]

theorem getElem_set_place (v : Vector (Option Alert) 4) (p q : PlaceId) (x : Option Alert) :
    (v.set p x)[q] = if q = p then x else v[q] := by
  by_cases h : q = p
  · subst h; simp
  · rw [if_neg h]
    exact Vector.getElem_set_ne _ _ fun v => h (Fin.ext v.symm)

theorem places_setPlace (p q : PlaceId) (x : Option Alert) (s : State) :
    (setPlace p x s).alerts.places[q] = if q = p then x else s.alerts.places[q] := getElem_set_place _ p q x

/-! ### ALERT_END -/

theorem placeOf_some {s : State} {id : Byte} {p : PlaceId} (h : placeOf s id = some p) :
    ∃ a, s.alerts.places[p] = some a ∧ a.id = id := by
  have test := List.find?_some h
  cases here : s.alerts.places[p] with
  | none => rw [here] at test; cases test
  | some a => rw [here] at test; exact ⟨a, rfl, of_decide_eq_true test⟩

theorem placeOf_none {s : State} {id : Byte} (h : placeOf s id = none) : ∀ a ∈ activeAlerts s, a.id ≠ id := by
  intro a ha e
  obtain ⟨p, hp⟩ := mem_activeAlerts.mp ha
  have := List.find?_eq_none.mp h p (List.mem_finRange p)
  rw [hp] at this
  exact this (decide_eq_true e)

/-- Alerts with distinct ids stand in distinct places. -/
theorem place_unique {s : State} (ids : ((activeAlerts s).map Alert.id).Nodup) {p q : PlaceId} {a b : Alert}
    (hp : s.alerts.places[p] = some a) (hq : s.alerts.places[q] = some b) (same : a.id = b.id) : p = q := by
  by_contra ne
  have shown : ∀ (xs : List (Option Alert)) (i j : Nat) (hi : i < xs.length) (hj : j < xs.length), i ≠ j → xs[i] = some a →
      xs[j] = some b → ¬ ((xs.filterMap id).map Alert.id).Nodup := by
    intro xs
    induction xs with
    | nil => exact fun i _ hi => absurd hi (Nat.not_lt_zero i)
    | cons x xs ih =>
      intro i j hi hj ne ei ej nodup
      match i, j with
      | 0, 0 => exact ne rfl
      | 0, j + 1 =>
        obtain rfl : x = some a := ei
        obtain ⟨fresh, -⟩ := List.nodup_cons.mp (show (a.id :: (xs.filterMap id).map Alert.id).Nodup from nodup)
        exact fresh (List.mem_map.mpr ⟨b, List.mem_filterMap.mpr ⟨some b, ej ▸ List.getElem_mem _, rfl⟩, same.symm⟩)
      | i + 1, 0 =>
        obtain rfl : x = some b := ej
        obtain ⟨fresh, -⟩ := List.nodup_cons.mp (show (b.id :: (xs.filterMap id).map Alert.id).Nodup from nodup)
        exact fresh (List.mem_map.mpr ⟨a, List.mem_filterMap.mpr ⟨some a, ei ▸ List.getElem_mem _, rfl⟩, same⟩)
      | i + 1, j + 1 =>
        refine ih i j (Nat.lt_of_succ_lt_succ hi) (Nat.lt_of_succ_lt_succ hj) (fun e => ne (congrArg _ e)) ei ej ?_
        cases x with
        | none => exact nodup
        | some c => exact (List.nodup_cons.mp (show (c.id :: (xs.filterMap id).map Alert.id).Nodup from nodup)).2
  refine shown s.alerts.places.toList p.val q.val (by simp) (by simp) (fun e => ne (Fin.ext e)) ?_ ?_ ids
  · simpa using hp
  · simpa using hq

theorem placeOf_at {s : State} (ids : ((activeAlerts s).map Alert.id).Nodup) {p : PlaceId} {a : Alert}
    (hp : s.alerts.places[p] = some a) : placeOf s a.id = some p := by
  cases found : placeOf s a.id with
  | none => exact absurd rfl (placeOf_none found a (mem_activeAlerts.mpr ⟨p, hp⟩))
  | some q =>
    obtain ⟨b, hq, same⟩ := placeOf_some found
    rw [place_unique ids hq hp same]

theorem actAlertEnd_absent {s : State} (r : RecId) {w : WorkRecord} (h : ∀ a ∈ activeAlerts s, a.id ≠ w.argByte 0) :
    actAlertEnd r w s = finish r statusNotFound 0 s := by
  unfold actAlertEnd
  split
  · rfl
  next p found =>
    obtain ⟨a, ha, e⟩ := placeOf_some found
    exact absurd e (h a (mem_activeAlerts.mpr ⟨p, ha⟩))

theorem actAlertEnd_at {s : State} (r : RecId) {w : WorkRecord} (ids : ((activeAlerts s).map Alert.id).Nodup) {p : PlaceId}
    {a : Alert} (hp : s.alerts.places[p] = some a) (same : a.id = w.argByte 0) :
    actAlertEnd r w s = if a.state = .onAir then endAlert r p a s else finish r statusBusy 0 s := by
  have found := placeOf_at ids hp
  rw [same] at found
  simp only [actAlertEnd, found, hp]

theorem changesOnly_setAlerts (x : AlertControl) (s : State) : changesOnly [.alerts] s (s.setAlerts x) := fun p hp => by
  cases p <;> first | rfl | simp at hp

theorem changesOnly_setLanes (x : Vector Lane 24) (s : State) : changesOnly [.lanes] s (s.setLanes x) := fun p hp => by
  cases p <;> first | rfl | simp at hp

/-- Settles O44. -/
theorem alertEndRemovesItsEntries : Obligations.AlertEndRemovesItsEntries := by
  intro s r rest w front free ids refused
  have dispatched := alertDispatch_at front free actAlertEnd
  have refuse : ∀ status, actAlertEnd r w (s.setAlerts { s.alerts with queue := rest }) =
      finish r status 0 (s.setAlerts { s.alerts with queue := rest }) → refused status := fun status acts =>
    ⟨_, congrArg Host.Outcome.next (dispatched.trans acts), by rw [finish_alerts]; rfl,
      finish_ends status 0 (changesOnly_setAlerts _ s) front.2.1⟩
  have acts {p : PlaceId} {a : Alert} (hp : s.alerts.places[p] = some a) (same : a.id = w.argByte 0) :=
    actAlertEnd_at (s := s.setAlerts { s.alerts with queue := rest }) r ids hp same
  refine ⟨fun absent => refuse _ (actAlertEnd_absent (s := s.setAlerts { s.alerts with queue := rest }) r absent),
    fun p a hp same => ⟨fun state => refuse _ ((acts hp same).trans (if_neg state)), fun state =>
      ⟨_, congrArg Host.Outcome.next (dispatched.trans ((acts hp same).trans (if_pos state))), rfl, rfl, rfl, ?_⟩⟩⟩
  have removed := ((changesOnly_setAlerts { s.alerts with queue := rest } s).then (rs := [.lanes, .alerts])
    (changesOnly_setLanes (passUp a.id s.alerts.log s.lanes).2 _)).then (rs := [.lanes, .alerts])
    (changesOnly_setAlerts { s.alerts with
      queue := rest, log := (passUp a.id s.alerts.log s.lanes).1,
      places := s.alerts.places.set p (some { a with state := .ending, endRecord := some r }) } _)
  exact removed.then (changesOnly_post _ _)

end Sys2Proof.Machine
end

/-! ## Proofs: the checks of a raise (8.3) -/

section
namespace Sys2Proof.Machine

/-! ### First elements of ascending lists -/

/-- The first element of an ascending list with a property, and only that, has the property with none below it. -/
theorem find?_ascending {p : LaneId → Bool} {ls : List LaneId} (sorted : ls.Pairwise (· < ·)) {l : LaneId} (hl : l ∈ ls)
    (here : p l = true) (below : ∀ k ∈ ls, k < l → p k = false) : ls.find? p = some l := by
  obtain ⟨before, after, rfl⟩ := List.append_of_mem hl
  refine List.find?_eq_some_iff_append.mpr ⟨here, before, after, rfl, fun k hk => ?_⟩
  have lt := (List.pairwise_append.mp sorted).2.2 k hk l List.mem_cons_self
  rw [below k (List.mem_append_left _ hk) lt]
  rfl

theorem findSome?_ascending {β : Type} {f : LaneId → Option β} {ls : List LaneId} (sorted : ls.Pairwise (· < ·)) {l : LaneId}
    {b : β} (hl : l ∈ ls) (here : f l = some b) (below : ∀ k ∈ ls, k < l → f k = none) : ls.findSome? f = some b := by
  obtain ⟨before, after, rfl⟩ := List.append_of_mem hl
  exact findSome?_of_split (fun k hk => below k (List.mem_append_left _ hk)
    ((List.pairwise_append.mp sorted).2.2 k hk l List.mem_cons_self)) here

theorem targetsOf_sorted (mask : Nat) : (targetsOf mask).Pairwise (· < ·) := (finRange_pairwise_lt 24).filter _

theorem raiseOf_targets_sorted (w : WorkRecord) : (raiseOf w).targets.Pairwise (· < ·) := targetsOf_sorted _

/-! ### The tests -/

theorem fields_eq_filter (q : Raise) : q.take.fields = [Field.audio, .text, .picture].filter q.takes := by
  unfold TakeSet.fields Raise.takes
  cases q.take.audio <;> cases q.take.text <;> cases q.take.picture <;> rfl

theorem alertById_isSome (s : State) (id : Byte) : (alertById s id).isSome = true ↔ ∃ a ∈ activeAlerts s, a.id = id := by
  simp [alertById, List.find?_isSome]

theorem freePlace?_none (s : State) : (freePlace? s).isNone = true ↔ ∀ p : PlaceId, s.alerts.places[p] ≠ none := by
  simp [freePlace?, List.find?_eq_none]

theorem fields_eq_nil (t : TakeSet) :
    t.fields = [] ↔ t.audio = false ∧ t.text = false ∧ t.picture = false := by
  unfold TakeSet.fields
  cases t.audio <;> cases t.text <;> cases t.picture <;> simp

theorem raiseBadArg_iff (q : Raise) : raiseBadArg q = true ↔
    q.id = 0 ∨ q.level = 0 ∨ 3 < q.level ∨ q.targets = [] ∨
      (q.take.audio = false ∧ q.take.text = false ∧ q.take.picture = false) ∨
      (q.take.text = true ∧ (q.textLength = 0 ∨ 128 < q.textLength)) ∨
      (q.take.audio = true ∧ (q.width = 0 ∨ (24 ≤ q.source ∧ q.source ≠ 255))) ∨ (q.take.picture = true ∧ 63 < q.slot) := by
  simp only [raiseBadArg, Bool.or_eq_true, Bool.and_eq_true, decide_eq_true_iff, List.isEmpty_iff, fields_eq_nil,
    or_assoc]

theorem raiseLaneFault_none {s : State} {q : Raise}
    (h : ∀ l ∈ q.targets, ¬ ((s.lane l).state = .unused ∨ aired s l = false)) : raiseLaneFault s q = none :=
  List.find?_eq_none.mpr fun l hl => by simpa using h l hl

theorem raiseBadSource_iff (s : State) (q : Raise) : raiseBadSource s q = true ↔ q.take.audio = true ∧
    (24 ≤ q.source ∨ ∃ l : LaneId, l.val = q.source ∧ ((s.lane l).state = .unused ∨ l ∈ q.targets)) := by
  unfold raiseBadSource
  rw [Bool.and_eq_true]
  refine and_congr_right fun _ => ?_
  cases lane : laneOf q.source with
  | none =>
    have out := laneOf_isNone q.source
    rw [lane] at out
    exact iff_of_true rfl (.inl (of_decide_eq_true out.symm))
  | some l =>
    have eq := laneOf_some.mp lane
    simp only [Bool.or_eq_true, decide_eq_true_iff, List.contains_iff_mem]
    constructor
    · exact fun bad => .inr ⟨l, eq.symm, bad⟩
    · rintro (big | ⟨k, hk, bad⟩)
      · have := l.isLt; omega
      · rwa [← Fin.ext (hk.trans eq)]

theorem narrower_iff (m : AirMap) (l : LaneId) (n : Nat) : narrower m l n = true ↔
    ∃ e, m.entry? l = some e ∧ e.reserved < n := by
  unfold narrower
  cases m.entry? l <;> simp

/-- A target without an entry in the pending map. -/
def targetUnbound (s : State) (l : LaneId) : Prop := ∃ p, s.maps.upcoming = some p ∧ p.map.entry? l = none

/-- A target with too few reserved cells in a map, for a raise that takes AUDIO. -/
def targetNarrow (q : Raise) (m : AirMap) (l : LaneId) : Prop :=
  q.take.audio = true ∧ ∃ e, m.entry? l = some e ∧ e.reserved < q.width

/-- A bound target with too few reserved cells in the active or in the pending map. -/
def targetTooWide (s : State) (q : Raise) (l : LaneId) : Prop :=
  ¬ targetUnbound s l ∧ (targetNarrow q s.maps.active l ∨ ∃ p, s.maps.upcoming = some p ∧ targetNarrow q p.map l)

theorem targetNarrow_iff (q : Raise) (m : AirMap) (l : LaneId) :
    (q.take.audio && narrower m l q.width) = true ↔ targetNarrow q m l := by
  rw [Bool.and_eq_true, narrower_iff]; rfl

theorem raiseTargetFault_unbound {s : State} {q : Raise} {l : LaneId} (h : targetUnbound s l) :
    raiseTargetFault s q l = some statusAlertBound := by
  obtain ⟨p, pending, gone⟩ := h
  simp [raiseTargetFault, pending, gone]

theorem raiseTargetFault_tooWide {s : State} {q : Raise} {l : LaneId} (h : targetTooWide s q l) :
    raiseTargetFault s q l = some statusAlertTooWide := by
  obtain ⟨bound, narrow⟩ := h
  unfold raiseTargetFault
  cases pending : s.maps.upcoming with
  | none =>
    have narrow : targetNarrow q s.maps.active l := narrow.resolve_right fun ⟨p, hp, _⟩ => by simp [pending] at hp
    exact if_pos ((targetNarrow_iff _ _ _).mpr narrow)
  | some p =>
    have here : ¬ (p.map.entry? l).isNone = true := fun k => bound ⟨p, pending, Option.isNone_iff_eq_none.mp k⟩
    refine (if_neg here).trans ?_
    by_cases active : targetNarrow q s.maps.active l
    · exact if_pos ((targetNarrow_iff _ _ _).mpr active)
    · obtain ⟨p', hp, narrow⟩ := narrow.resolve_left active
      cases pending.symm.trans hp
      exact (if_neg (mt (targetNarrow_iff _ _ _).mp active)).trans (if_pos ((targetNarrow_iff _ _ _).mpr narrow))

theorem raiseTargetFault_none {s : State} {q : Raise} {l : LaneId} (bound : ¬ targetUnbound s l)
    (wide : ¬ targetTooWide s q l) : raiseTargetFault s q l = none := by
  have active : ¬ targetNarrow q s.maps.active l := fun k => wide ⟨bound, .inl k⟩
  unfold raiseTargetFault
  cases pending : s.maps.upcoming with
  | none => exact if_neg (mt (targetNarrow_iff _ _ _).mp active)
  | some p =>
    have here : ¬ (p.map.entry? l).isNone = true := fun k => bound ⟨p, pending, Option.isNone_iff_eq_none.mp k⟩
    have next : ¬ targetNarrow q p.map l := fun k => wide ⟨bound, .inr ⟨p, pending, k⟩⟩
    exact (if_neg here).trans ((if_neg (mt (targetNarrow_iff _ _ _).mp active)).trans
      (if_neg (mt (targetNarrow_iff _ _ _).mp next)))

theorem raiseTargetFault_eq_none {s : State} {q : Raise} {l : LaneId} (h : raiseTargetFault s q l = none) :
    ¬ targetUnbound s l ∧ ¬ targetTooWide s q l :=
  ⟨fun k => by simp [raiseTargetFault_unbound k] at h, fun k => by simp [raiseTargetFault_tooWide k] at h⟩

theorem raiseNotReady_iff (s : State) (q : Raise) (slot : q.take.picture = true → q.slot ≤ 63) :
    raiseNotReady s q = true ↔ q.take.picture = true ∧ ∀ i : SlotId, i.val = q.slot →
      (s.slot i).record.state ≠ .ready ∨ (s.slot i).record.alertFlag = false := by
  unfold raiseNotReady
  rw [Bool.and_eq_true]
  refine and_congr_right fun picture => ?_
  have lt : q.slot < 64 := Nat.lt_succ_of_le (slot picture)
  rw [slotOf, dif_pos lt]
  simp only [Bool.or_eq_true, decide_eq_true_iff, Bool.not_eq_true']
  exact ⟨fun bad i hi => (Fin.ext hi : i = ⟨q.slot, lt⟩) ▸ bad, fun bad => bad ⟨q.slot, lt⟩ rfl⟩

/-! ### The checks in order -/

/-- The first three checks have passed. -/
structure RaiseNamed (s : State) (q : Raise) : Prop where
  fresh : (alertById s q.id).isSome = false
  place : (freePlace? s).isNone = false
  args  : raiseBadArg q = false

/-- The first five checks have passed. -/
structure RaiseSourced (s : State) (q : Raise) : Prop extends RaiseNamed s q where
  lanes  : raiseLaneFault s q = none
  source : raiseBadSource s q = false

/-- The first six checks have passed. -/
structure RaiseBound (s : State) (q : Raise) : Prop extends RaiseSourced s q where
  maps : raiseMapFault s q = none

/-- The first eight checks have passed. -/
structure RaiseRoom (s : State) (q : Raise) : Prop extends RaiseBound s q where
  picture : raiseNotReady s q = false
  room    : q.targets.length * q.take.fields.length ≤ logFree s

theorem raiseFault_duplicate {s : State} {q : Raise} (t : TextRead) (h : (alertById s q.id).isSome = true) :
    raiseFault s q t = some (statusDuplicate, 0) := if_pos h

theorem raiseFault_full {s : State} {q : Raise} (t : TextRead) (fresh : (alertById s q.id).isSome = false)
    (h : (freePlace? s).isNone = true) : raiseFault s q t = some (statusAlertLimit, 0) := by
  simp only [raiseFault, fresh, h, Bool.false_eq_true, if_false, if_true]

theorem raiseFault_badArg {s : State} {q : Raise} (t : TextRead) (fresh : (alertById s q.id).isSome = false)
    (place : (freePlace? s).isNone = false) (h : raiseBadArg q = true) : raiseFault s q t = some (statusBadArg, 0) := by
  simp only [raiseFault, fresh, place, h, Bool.false_eq_true, if_false, if_true]

theorem raiseFault_lane {s : State} {q : Raise} (t : TextRead) (ok : RaiseNamed s q) {l : LaneId}
    (h : raiseLaneFault s q = some l) : raiseFault s q t = some (statusLaneState, BitVec.ofNat 32 l.val) := by
  simp only [raiseFault, ok.fresh, ok.place, ok.args, h, Bool.false_eq_true, if_false]

theorem raiseFault_source {s : State} {q : Raise} (t : TextRead) (ok : RaiseNamed s q) (lanes : raiseLaneFault s q = none)
    (h : raiseBadSource s q = true) : raiseFault s q t = some (statusBadArg, 0) := by
  simp only [raiseFault, ok.fresh, ok.place, ok.args, lanes, h, Bool.false_eq_true, if_false, if_true]

theorem raiseFault_maps {s : State} {q : Raise} (t : TextRead) (ok : RaiseSourced s q) {st : Nat} {l : LaneId}
    (h : raiseMapFault s q = some (st, l)) : raiseFault s q t = some (st, BitVec.ofNat 32 l.val) := by
  simp only [raiseFault, ok.fresh, ok.place, ok.args, ok.lanes, ok.source, h, Bool.false_eq_true, if_false]

theorem raiseFault_picture {s : State} {q : Raise} (t : TextRead) (ok : RaiseBound s q) (h : raiseNotReady s q = true) :
    raiseFault s q t = some (statusNotReady, 0) := by
  simp only [raiseFault, ok.fresh, ok.place, ok.args, ok.lanes, ok.source, ok.maps, h, Bool.false_eq_true, if_false, if_true]

theorem raiseFault_room {s : State} {q : Raise} (t : TextRead) (ok : RaiseBound s q) (picture : raiseNotReady s q = false)
    (h : logFree s < q.targets.length * q.take.fields.length) :
    raiseFault s q t = some (statusLogFull, BitVec.ofNat 32 (logFree s)) := by
  simp only [raiseFault, ok.fresh, ok.place, ok.args, ok.lanes, ok.source, ok.maps, picture, h, Bool.false_eq_true, if_false,
    if_true]

/-- What is left of the checks once the first eight have passed. -/
theorem raiseFault_text {s : State} {q : Raise} (t : TextRead) (ok : RaiseRoom s q) : raiseFault s q t = match t with
    | .failed => some (statusFetchFault, 0)
    | .notMade => none
    | .got text => if text.contains 0 then some (statusBadArg, 0) else none := by
  cases t <;> simp only [raiseFault, ok.fresh, ok.place, ok.args, ok.lanes, ok.source, ok.maps, ok.picture,
    not_lt.mpr ok.room, Bool.false_eq_true, if_false]

/-- A raise that passes its checks has passed each of them. -/
theorem raiseRoom_of_raiseFault {s : State} {q : Raise} {t : TextRead} (h : raiseFault s q t = none) : RaiseRoom s q := by
  have fresh : (alertById s q.id).isSome = false := eq_false_of_ne_true fun k => by simp [raiseFault_duplicate t k] at h
  have place : (freePlace? s).isNone = false := eq_false_of_ne_true fun k => by simp [raiseFault_full t fresh k] at h
  have args : raiseBadArg q = false := eq_false_of_ne_true fun k => by simp [raiseFault_badArg t fresh place k] at h
  have named : RaiseNamed s q := ⟨fresh, place, args⟩
  have lanes : raiseLaneFault s q = none := by
    cases k : raiseLaneFault s q with
    | none => rfl
    | some l => simp [raiseFault_lane t named k] at h
  have source : raiseBadSource s q = false := eq_false_of_ne_true fun k => by simp [raiseFault_source t named lanes k] at h
  have sourced : RaiseSourced s q := ⟨named, lanes, source⟩
  have maps : raiseMapFault s q = none := by
    cases k : raiseMapFault s q with
    | none => rfl
    | some x => simp [raiseFault_maps t sourced (st := x.1) (l := x.2) k] at h
  have bound : RaiseBound s q := ⟨sourced, maps⟩
  have picture : raiseNotReady s q = false := eq_false_of_ne_true fun k => by simp [raiseFault_picture t bound k] at h
  have room : q.targets.length * q.take.fields.length ≤ logFree s := not_lt.mp fun k => by
    simp [raiseFault_room t bound picture k] at h
  exact ⟨bound, picture, room⟩

/-! ### Refused raises -/

theorem decidesRaise_work {c : Instr} {s : State} {r : RecId} {rest : List RecId} {w : WorkRecord}
    (h : decidesRaise c s r rest w) : s.work r = some w := by
  rcases h with ⟨-, front, -⟩ | ⟨_, -, -, work, -⟩
  · exact front.2.1
  · exact work

/-- The state on which a raise is decided: its slip is off the queue and in no read. -/
def raiseState (rest : List RecId) (s : State) : State := s.setAlerts { s.alerts with queue := rest, checking := none }

theorem raiseFault_raiseState (rest : List RecId) (s : State) (q : Raise) (t : TextRead) :
    raiseFault (raiseState rest s) q t = raiseFault s q t := rfl

theorem readAlertText_eq {h : HostView} {q : Raise} (text : q.take.text = true) (args : raiseBadArg q = false) :
    readAlertText h q = match hostRead h q.textAddr q.textLength with | none => .failed | some t => .got t := by
  have good := mt (raiseBadArg_iff q).mpr (by simp [args])
  have length : ¬ (q.textLength = 0 ∨ 128 < q.textLength) := fun k =>
    good (.inr (.inr (.inr (.inr (.inr (.inl ⟨text, k⟩))))))
  have reads : q.readsText = true := by
    rw [Raise.readsText, text, Bool.true_and, Bool.and_eq_true, decide_eq_true_iff, decide_eq_true_iff]
    omega
  exact if_pos reads

/-- Settles O43. -/
theorem alertRaiseIsRefusedInOrder : Obligations.AlertRaiseIsRefusedInOrder := by
  intro c s r rest w decides q refused duplicate full badArg unfit badSource narrow unbound tooWide first passes1 passes2
    passes3 notReady free wanted
  have refuse : ∀ status aux, raiseFault s q (textAt c q) = some (status, aux) → refused status aux := by
    intro status aux fault
    have acts : decideRaise r q (textAt c q) (raiseState rest s) = finish r status aux (raiseState rest s) := by
      rw [decideRaise, raiseFault_raiseState, fault]
    exact ⟨_, (decidesRaise_exec decides).trans (congrArg _ acts), by rw [finish_alerts]; rfl,
      finish_ends status aux (changesOnly_setAlerts _ s) (decidesRaise_work decides)⟩
  have fresh : ¬ duplicate → (alertById s q.id).isSome = false := fun k =>
    eq_false_of_ne_true (mt (alertById_isSome s q.id).mp k)
  have place : ¬ full → (freePlace? s).isNone = false := fun k => eq_false_of_ne_true (mt (freePlace?_none s).mp k)
  have args : ¬ badArg → raiseBadArg q = false := fun k => eq_false_of_ne_true (mt (raiseBadArg_iff q).mp k)
  have named : passes1 → RaiseNamed s q := fun ⟨a, b, c⟩ => ⟨fresh a, place b, args c⟩
  have sourced : passes2 → RaiseSourced s q := fun ⟨p1, fits, source⟩ =>
    ⟨named p1, raiseLaneFault_none fits, eq_false_of_ne_true (mt (raiseBadSource_iff s q).mp source)⟩
  have bound : passes3 → RaiseBound s q := fun ⟨p2, fits⟩ => ⟨sourced p2,
    List.findSome?_eq_none_iff.mpr fun l hl => by rw [raiseTargetFault_none (fits l hl).1 (fits l hl).2]; rfl⟩
  have slot : passes3 → q.take.picture = true → q.slot ≤ 63 := fun ⟨⟨⟨_, _, good⟩, _⟩, _⟩ picture => not_lt.mp fun k =>
    good (.inr (.inr (.inr (.inr (.inr (.inr (.inr ⟨picture, k⟩)))))))
  have ready : passes3 → ¬ notReady → raiseNotReady s q = false := fun p3 k =>
    eq_false_of_ne_true (mt (raiseNotReady_iff s q (slot p3)).mp k)
  have wanted_eq : wanted = q.targets.length * q.take.fields.length := by rw [fields_eq_filter]
  have sorted : q.targets.Pairwise (· < ·) := raiseOf_targets_sorted w
  refine ⟨fun k => refuse _ _ (raiseFault_duplicate _ ((alertById_isSome s q.id).mpr k)),
    fun a k => refuse _ _ (raiseFault_full _ (fresh a) ((freePlace?_none s).mpr k)),
    fun a b k => refuse _ _ (raiseFault_badArg _ (fresh a) (place b) ((raiseBadArg_iff q).mpr k)),
    fun p1 l ⟨hl, bad, lower⟩ => refuse _ _ (raiseFault_lane _ (named p1) ?_),
    fun p1 fits k => refuse _ _ (raiseFault_source _ (named p1) (raiseLaneFault_none fits) ((raiseBadSource_iff s q).mpr k)),
    fun p2 l ⟨hl, _, lower⟩ => ?_,
    fun p3 k => refuse _ _ (raiseFault_picture _ (bound p3) ((raiseNotReady_iff s q (slot p3)).mpr k)),
    fun p3 a lt => refuse _ _ (raiseFault_room _ (bound p3) (ready p3 a) (wanted_eq ▸ lt)),
    fun p3 a le h hc text => ?_⟩
  · refine find?_ascending sorted hl (by simpa [unfit] using bad) fun k hk lt => ?_
    simpa [unfit] using lower k hk lt
  · have fault : ∀ st, raiseTargetFault s q l = some st → raiseMapFault s q = some (st, l) := fun st here =>
      findSome?_ascending sorted hl (by rw [here]; rfl) fun k hk lt => by
        rw [raiseTargetFault_none (fun u => lower k hk lt (.inl u)) (fun u => lower k hk lt (.inr u))]; rfl
    exact ⟨fun u => refuse _ _ (raiseFault_maps _ (sourced p2) (fault _ (raiseTargetFault_unbound u))),
      fun u => refuse _ _ (raiseFault_maps _ (sourced p2) (fault _ (raiseTargetFault_tooWide u)))⟩
  · have room : RaiseRoom s q := ⟨bound p3, ready p3 a, wanted_eq ▸ le⟩
    have read : textAt c q = match hostRead h q.textAddr q.textLength with | none => .failed | some t => .got t := by
      rw [hc]; exact readAlertText_eq text (args p3.1.1.2.2)
    refine ⟨fun failed => refuse _ _ ?_, fun t got zero => refuse _ _ ?_⟩
    · rw [raiseFault_text _ room, read, failed]; rfl
    · rw [raiseFault_text _ room, read, got]
      exact if_pos (by simpa using zero)

end Sys2Proof.Machine
end

/-! ## Proofs: the application of a raise (8.2, 8.3) -/

section
namespace Sys2Proof.Machine

/-! ### One field taken -/

/-- The carousel after a taken PICTURE field: an own airing in progress is abandoned. -/
def withdrawn (c : Carousel) : Carousel :=
  match c.airing with
  | none => c
  | some _ => abandonCarousel c

/-- The slot whose airing ends when a field is taken. -/
def goneSlot (s : State) (lf : LaneId × Field) : Option SlotId :=
  if lf.2 = .picture ∧ (s.lane lf.1).pictureFrom = .own then (s.lane lf.1).carousel.airing.map Airing.slot else none

theorem abandonAiring_none {l : LaneId} {s : State} (h : (s.lane l).carousel.airing = none) : abandonAiring l s = s := by
  simp only [abandonAiring, h]

theorem abandonAiring_some {l : LaneId} {s : State} {a : Airing} (h : (s.lane l).carousel.airing = some a) :
    abandonAiring l s = retally [a.slot] [] (s.setCarousel l (abandonCarousel (s.lane l).carousel)) := by
  simp only [abandonAiring, h]

theorem abandonAiring_lane (l k : LaneId) (s : State) : (abandonAiring l s).lane k =
    if k = l then { s.lane l with carousel := withdrawn (s.lane l).carousel } else s.lane k := by
  cases airing : (s.lane l).carousel.airing with
  | none =>
    rw [abandonAiring_none airing, withdrawn, airing]
    split
    next h => rw [h]
    next => rfl
  | some a =>
    rw [abandonAiring_some airing, retally_lane, State.setCarousel, withdrawn, airing]
    split
    next h => rw [h, State.lane_setLane_same]
    next h => exact State.lane_setLane_other _ _ _ _ h

theorem abandonAiring_alerts (l : LaneId) (s : State) : (abandonAiring l s).alerts = s.alerts := by
  cases airing : (s.lane l).carousel.airing with
  | none => rw [abandonAiring_none airing]
  | some a => rw [abandonAiring_some airing, retally_alerts]; rfl

theorem abandonAiring_users (l : LaneId) (i : SlotId) (s : State) : ((abandonAiring l s).slot i).users =
    (s.slot i).users - if (s.lane l).carousel.airing.map Airing.slot = some i then 1 else 0 := by
  cases airing : (s.lane l).carousel.airing with
  | none => rw [abandonAiring_none airing]; rfl
  | some a =>
    rw [abandonAiring_some airing, retally_users, List.count_nil, List.count_singleton]
    simp only [Nat.add_zero, Option.map_some, Option.some.injEq, beq_iff_eq]
    rfl

theorem abandonAiring_droppingBegun (l : LaneId) (s : State) : droppingBegun s (abandonAiring l s) := by
  cases airing : (s.lane l).carousel.airing with
  | none => rw [abandonAiring_none airing]; exact droppingBegun_refl s
  | some a =>
    rw [abandonAiring_some airing]
    let s1 := s.setCarousel l (abandonCarousel (s.lane l).carousel)
    exact droppingBegun_congr (s := s1) (v := retally [a.slot] [] s1) rfl rfl (retally_droppingBegun [a.slot] s1)

/-- The state in which one field has been taken, but for the airing that it may abandon. -/
def logField (id : Byte) (s : State) (lf : LaneId × Field) : State :=
  let s1 := s.setAlerts { s.alerts with log := s.alerts.log ++ [⟨id, lf.1, lf.2, (s.lane lf.1).sourceOf lf.2⟩] }
  s1.setLane lf.1 ((s1.lane lf.1).setSource lf.2 (.alert id))

theorem takeField_eq (id : Byte) (s : State) (lf : LaneId × Field) : takeField id s lf =
    if lf.2 = .picture ∧ (s.lane lf.1).sourceOf lf.2 = .own then abandonAiring lf.1 (logField id s lf)
    else logField id s lf := by
  unfold takeField logField
  exact rfl

theorem takeField_alerts (id : Byte) (s : State) (lf : LaneId × Field) : (takeField id s lf).alerts =
    { s.alerts with log := s.alerts.log ++ [⟨id, lf.1, lf.2, (s.lane lf.1).sourceOf lf.2⟩] } := by
  rw [takeField_eq]
  split
  · rw [abandonAiring_alerts]; rfl
  · rfl

theorem takeField_sourceOf (id : Byte) (s : State) (lf : LaneId × Field) (l : LaneId) (f : Field) :
    ((takeField id s lf).lane l).sourceOf f = if (l, f) = lf then .alert id else (s.lane l).sourceOf f := by
  have logged : ((logField id s lf).lane l).sourceOf f = if (l, f) = lf then .alert id else (s.lane l).sourceOf f := by
    obtain ⟨k, g⟩ := lf
    by_cases h : l = k
    · subst h
      rw [logField, State.lane_setLane_same, Lane.sourceOf_setSource]
      simp
    · rw [logField, State.lane_setLane_other _ _ _ _ h, if_neg fun e => h (congrArg Prod.fst e)]
      rfl
  have kept : ((abandonAiring lf.1 (logField id s lf)).lane l).sourceOf f = ((logField id s lf).lane l).sourceOf f := by
    rw [abandonAiring_lane]
    split
    next h => subst h; cases f <;> rfl
    next => rfl
  rw [takeField_eq]
  split
  · rw [kept, logged]
  · exact logged

theorem logField_carousel (id : Byte) (s : State) (lf : LaneId × Field) (l : LaneId) :
    ((logField id s lf).lane l).carousel = (s.lane l).carousel := by
  by_cases h : l = lf.1
  · subst h
    rw [logField, State.lane_setLane_same]
    cases lf.2 <;> rfl
  · rw [logField, State.lane_setLane_other _ _ _ _ h]
    rfl

theorem takeField_carousel (id : Byte) (s : State) (lf : LaneId × Field) (l : LaneId) :
    ((takeField id s lf).lane l).carousel =
      if (l, Field.picture) = lf ∧ (s.lane l).pictureFrom = .own then withdrawn (s.lane l).carousel
      else (s.lane l).carousel := by
  obtain ⟨k, f⟩ := lf
  rw [takeField_eq]
  by_cases taken : f = .picture ∧ (s.lane k).pictureFrom = .own
  · obtain ⟨rfl, own⟩ := taken
    rw [if_pos ⟨rfl, own⟩, abandonAiring_lane]
    by_cases h : l = k
    · subst h
      rw [if_pos rfl, if_pos ⟨rfl, own⟩]
      exact congrArg withdrawn (logField_carousel _ _ _ _)
    · rw [if_neg h, if_neg fun e => h (congrArg Prod.fst e.1), logField_carousel]
  · rw [if_neg fun ⟨hf, own⟩ => taken ⟨hf, by dsimp only at hf; subst hf; exact own⟩, logField_carousel, if_neg]
    rintro ⟨e, own⟩
    cases e
    exact taken ⟨rfl, own⟩

theorem takeField_users (id : Byte) (s : State) (lf : LaneId × Field) (i : SlotId) : ((takeField id s lf).slot i).users =
    (s.slot i).users - if goneSlot s lf = some i then 1 else 0 := by
  obtain ⟨l, f⟩ := lf
  rw [takeField_eq, goneSlot]
  by_cases taken : f = .picture ∧ (s.lane l).pictureFrom = .own
  · obtain ⟨rfl, own⟩ := taken
    have own' : (s.lane l).sourceOf .picture = .own := own
    rw [if_pos (And.intro rfl own'), if_pos (And.intro rfl own), abandonAiring_users, logField_carousel]
    rfl
  · rw [if_neg fun ⟨hf, own⟩ => taken ⟨hf, by dsimp only at hf; subst hf; exact own⟩, if_neg taken]
    rfl

theorem takeField_droppingBegun (id : Byte) (s : State) (lf : LaneId × Field) : droppingBegun s (takeField id s lf) := by
  rw [takeField_eq]
  split
  · exact droppingBegun_congr rfl rfl (abandonAiring_droppingBegun lf.1 (logField id s lf))
  · exact droppingBegun_congr rfl rfl (droppingBegun_refl s)

theorem goneSlot_takeField (id : Byte) (s : State) {lf kg : LaneId × Field} (ne : kg ≠ lf) :
    goneSlot (takeField id s lf) kg = goneSlot s kg := by
  obtain ⟨k, g⟩ := kg
  unfold goneSlot
  by_cases hg : g = .picture
  · subst hg
    have source : ((takeField id s lf).lane k).pictureFrom = (s.lane k).pictureFrom :=
      (takeField_sourceOf id s lf k .picture).trans (if_neg ne)
    dsimp only
    rw [source, takeField_carousel, if_neg fun h => ne (And.left h)]
  · rw [if_neg fun h => hg h.1, if_neg fun h => hg h.1]

/-! ### The fields taken one after the other -/

theorem takeFields_alerts (id : Byte) : ∀ {lfs : List (LaneId × Field)}, lfs.Nodup → ∀ s : State,
    (lfs.foldl (takeField id) s).alerts =
      { s.alerts with log := s.alerts.log ++ lfs.map fun lf => ⟨id, lf.1, lf.2, (s.lane lf.1).sourceOf lf.2⟩ }
  | [], _, s => by simp
  | lf :: lfs, nodup, s => by
    obtain ⟨fresh, nodup⟩ := List.nodup_cons.mp nodup
    rw [List.foldl_cons, takeFields_alerts id nodup, takeField_alerts]
    have sources : ∀ kg ∈ lfs, ((takeField id s lf).lane kg.1).sourceOf kg.2 = (s.lane kg.1).sourceOf kg.2 := fun kg hkg =>
      (takeField_sourceOf id s lf kg.1 kg.2).trans (if_neg fun e : kg = lf => fresh (e ▸ hkg))
    rw [List.map_congr_left (g := fun lf => (⟨id, lf.1, lf.2, (s.lane lf.1).sourceOf lf.2⟩ : LogEntry))
      fun kg hkg => by rw [sources kg hkg]]
    simp

theorem takeFields_sourceOf (id : Byte) (l : LaneId) (f : Field) : ∀ (lfs : List (LaneId × Field)) (s : State),
    ((lfs.foldl (takeField id) s).lane l).sourceOf f = if (l, f) ∈ lfs then .alert id else (s.lane l).sourceOf f
  | [], s => by simp
  | lf :: lfs, s => by
    rw [List.foldl_cons, takeFields_sourceOf id l f lfs, takeField_sourceOf]
    by_cases h : (l, f) = lf <;> by_cases k : (l, f) ∈ lfs <;> simp [h, k]

theorem takeFields_carousel (id : Byte) (l : LaneId) : ∀ {lfs : List (LaneId × Field)}, lfs.Nodup → ∀ s : State,
    ((lfs.foldl (takeField id) s).lane l).carousel =
      if (l, Field.picture) ∈ lfs ∧ (s.lane l).pictureFrom = .own then withdrawn (s.lane l).carousel
      else (s.lane l).carousel
  | [], _, s => by simp
  | lf :: lfs, nodup, s => by
    obtain ⟨fresh, nodup⟩ := List.nodup_cons.mp nodup
    rw [List.foldl_cons, takeFields_carousel id l nodup, takeField_carousel]
    by_cases h : (l, Field.picture) = lf
    · subst h; simp [fresh]
    · have source : ((takeField id s lf).lane l).pictureFrom = (s.lane l).pictureFrom :=
        (takeField_sourceOf id s lf l .picture).trans (if_neg h)
      simp [h, source]

theorem takeFields_users (id : Byte) (i : SlotId) : ∀ {lfs : List (LaneId × Field)}, lfs.Nodup → ∀ s : State,
    ((lfs.foldl (takeField id) s).slot i).users =
      (s.slot i).users - lfs.countP fun lf => decide (goneSlot s lf = some i)
  | [], _, s => by simp
  | lf :: lfs, nodup, s => by
    obtain ⟨fresh, nodup⟩ := List.nodup_cons.mp nodup
    rw [List.foldl_cons, takeFields_users id i nodup, takeField_users, List.countP_cons]
    have gone : lfs.countP (fun kg => decide (goneSlot (takeField id s lf) kg = some i)) =
        lfs.countP fun kg => decide (goneSlot s kg = some i) := List.countP_congr fun kg hkg => by
      rw [goneSlot_takeField id s fun e : kg = lf => fresh (e ▸ hkg)]
    rw [gone, Nat.sub_sub, Nat.add_comm]
    simp only [decide_eq_true_eq]

theorem takeFields_droppingBegun (id : Byte) (lfs : List (LaneId × Field)) (s : State) :
    droppingBegun s (lfs.foldl (takeField id) s) := by
  refine foldl_keeps (fun t => droppingBegun s t) _ (fun t lf h => ?_) _ s (droppingBegun_refl s)
  refine droppingBegun_trans h (takeField_droppingBegun id t lf) fun i => ?_
  rw [takeField_users]
  exact Nat.sub_le _ _

/-! ### The fields of a raise -/

theorem mem_takenFields {q : Raise} {l : LaneId} {f : Field} : (l, f) ∈ takenFields q ↔ l ∈ q.targets ∧ q.takes f = true := by
  simp only [takenFields, fields_eq_filter, List.mem_flatMap, List.mem_map, List.mem_filter, Prod.mk.injEq]
  constructor
  · rintro ⟨k, hk, g, ⟨-, hg⟩, rfl, rfl⟩
    exact ⟨hk, hg⟩
  · exact fun ⟨hl, hf⟩ => ⟨l, hl, f, ⟨by cases f <;> simp, hf⟩, rfl, rfl⟩

theorem takenFields_nodup {q : Raise} (h : q.targets.Nodup) : (takenFields q).Nodup := by
  have fields : q.take.fields.Nodup := by rw [fields_eq_filter]; exact List.Nodup.filter _ (by decide)
  refine List.nodup_flatMap.mpr ⟨fun l _ => fields.map fun _ _ e => congrArg Prod.snd e, h.imp fun {k l} ne lf => ?_⟩
  simp only [List.mem_map]
  rintro ⟨f, -, rfl⟩ ⟨g, -, e⟩
  exact ne (congrArg Prod.fst e).symm

/-- The slot of an own airing that a raise abandons on a target. -/
def abandonedSlot (s : State) (q : Raise) (l : LaneId) : Option SlotId :=
  if q.take.picture = true ∧ (s.lane l).pictureFrom = .own then (s.lane l).carousel.airing.map Airing.slot else none

theorem countP_goneSlot (s : State) (q : Raise) (i : SlotId) :
    (takenFields q).countP (fun lf => decide (goneSlot s lf = some i)) =
      q.targets.countP fun l => decide (abandonedSlot s q l = some i) := by
  have lane (l : LaneId) : (q.take.fields.map fun f => (l, f)).countP (fun lf => decide (goneSlot s lf = some i)) =
      if abandonedSlot s q l = some i then 1 else 0 := by
    unfold TakeSet.fields abandonedSlot goneSlot
    cases q.take.audio <;> cases q.take.text <;> cases q.take.picture <;> simp [List.countP_cons]
  unfold takenFields
  induction q.targets with
  | nil => rfl
  | cons l ls ih =>
    rw [List.flatMap_cons, List.countP_append, lane, List.countP_cons, ih, Nat.add_comm]
    simp only [decide_eq_true_eq]

/-! ### The picture of the alert -/

/-- A count of a slot that no CONDEMNED slot shares may rise after the fall, and the holds change with it. -/
theorem droppingBegun_raised {s v v' : State} {hold : Nat} (h : droppingBegun s v)
    (store : v'.store = { v.store with slots := v'.store.slots, hold := hold })
    (records : ∀ i, (v'.slot i).record = (v.slot i).record)
    (users : ∀ i, (s.slot i).record.state = .condemned → (v'.slot i).users = (v.slot i).users) :
    droppingBegun (s.setStore { s.store with hold := hold }) v' := by
  obtain ⟨hr, begun, hs, inside, covered⟩ := h
  refine ⟨fun i => (records i).trans (hr i), begun, ?_, fun i hi => ?_, fun i condemned used free => ?_⟩
  · rw [store, hs]; rfl
  · obtain ⟨condemned, free⟩ := inside i hi
    exact ⟨condemned, (users i condemned).trans free⟩
  · exact covered i condemned used ((users i condemned).symm.trans free)

theorem setUsers_rises {i : SlotId} {n : Nat} (s : State) (n0 : n ≠ 0) :
    (setUsers i n s).store = { s.store with slots := (setUsers i n s).store.slots } := by
  unfold setUsers
  dsimp only
  rw [if_neg fun h => n0 h.2]
  simp [State.setSlot]

/-- A reference that comes changes nothing of the store but user counts. -/
theorem retally_rises (i : SlotId) (s : State) :
    (retally [] [i] s).store = { s.store with slots := (retally [] [i] s).store.slots } := by
  refine foldl_keeps (fun t => t.store = { s.store with slots := t.store.slots }) _ (fun t k h => ?_) _ s rfl
  unfold retallySlot
  split_ifs with same
  · exact h
  · refine (setUsers_rises t ?_).trans (by rw [h])
    rw [List.count_nil] at same ⊢
    omega

theorem holdPicture_store (a : Alert) (s : State) : (holdPicture a s).store =
    { s.store with slots := (holdPicture a s).store.slots, hold := s.store.hold + if a.picture.isSome then 1 else 0 } := by
  unfold holdPicture
  cases a.picture with
  | none => rfl
  | some p =>
    have rises := retally_rises p.1 s
    simp only [State.setStore_store]
    rw [rises]
    rfl

theorem holdPicture_users (a : Alert) (s : State) (i : SlotId) : ((holdPicture a s).slot i).users =
    (s.slot i).users + if a.picture.map Prod.fst = some i then 1 else 0 := by
  unfold holdPicture
  cases a.picture with
  | none => rfl
  | some p =>
    change ((retally [] [p.1] s).slot i).users = _
    rw [retally_users, List.count_nil, Nat.sub_zero, List.count_singleton]
    simp

/-! ### The work record of the raise -/

theorem complete_work_other {s : State} {q r : RecId} (ne : q ≠ r) (status : Nat) (aux frame : Word) :
    (complete r status aux frame s).work q = s.work q := by
  cases held : s.work r with
  | none => rw [complete_none _ _ _ _ _ held]
  | some w =>
    have records := (complete_spec r status aux frame s w held).1.1.1
    simp only [State.work, records, Fin.getElem_fin]
    exact Vector.getElem_set_ne _ _ fun e => ne (Fin.ext e.symm)

/-- A work record that no job has is kept by the store's choice. -/
theorem choose_work_kept {s : State} {q : RecId} (h : ∀ j ∈ s.store.jobs, j.record ≠ q) :
    (choose s).work q = s.work q := by
  refine (choose_keeps (fun t => t.work q = s.work q ∧ ∀ j ∈ t.store.jobs, j.record ≠ q) (fun t e _ _ k => ?_)
    (fun t j op _ _ _ k => ⟨k.1, fun j' hj => ?_⟩) (fun t j _ found _ k => ?_) (fun t j _ _ _ k => ⟨k.1, fun j' hj => ?_⟩)
    ⟨rfl, h⟩).1
  · obtain ⟨work, others⟩ := k
    refine ⟨by rw [State.work, startRecovery_reader]; exact work, ?_⟩
    unfold startRecovery
    split <;> exact others
  · obtain ⟨j0, hj0, rfl⟩ := List.mem_map.mp hj
    split
    · exact k.2 j0 hj0
    · exact k.2 j0 hj0
  · obtain ⟨work, others⟩ := k
    have ne : q ≠ j.record := fun e => others j (List.mem_of_find?_eq_some found) e.symm
    have ends (status : Nat) (aux : Word) : (finish j.record status aux t).work q = s.work q ∧
        ∀ j' ∈ (finish j.record status aux t).store.jobs, j'.record ≠ q := by
      refine ⟨(complete_work_other ne status aux _).trans work, fun j' hj => ?_⟩
      cases held : t.work j.record with
      | none => rw [finish, complete_none _ _ _ _ _ held] at hj; exact others j' hj
      | some w =>
        rw [finish, (complete_spec j.record status aux t.frames.counter t w held).1.2] at hj
        exact others j' (List.mem_of_mem_filter hj)
    unfold finishWrite
    split <;> exact ends _ _
  · obtain ⟨j0, hj0, rfl⟩ := List.mem_map.mp hj
    split
    · exact k.2 j0 hj0
    · exact k.2 j0 hj0

end Sys2Proof.Machine
end

/-! ## Proofs: a raise that passes its checks (8.3) -/

section
namespace Sys2Proof.Machine

/-- The state of an applied raise before its mirror is written and the store chooses. -/
def raised (q : Raise) (a : Alert) (p : PlaceId) (s : State) : State :=
  holdPicture a ((takenFields q).foldl (takeField q.id) (setPlace p (some a) s))

theorem applyRaise_eq (r : RecId) (q : Raise) (t : TextRead) (p : PlaceId) (s : State) :
    applyRaise r q t p s = choose (writeAlertMirror p (raised q (newAlert s r q t) p s)) := rfl

theorem holdPicture_alerts (a : Alert) (s : State) : (holdPicture a s).alerts = s.alerts := by
  unfold holdPicture
  cases a.picture <;> simp

theorem holdPicture_lane (a : Alert) (s : State) (l : LaneId) : (holdPicture a s).lane l = s.lane l := by
  unfold holdPicture
  cases a.picture <;> simp

theorem holdPicture_reader (a : Alert) (s : State) : (holdPicture a s).reader = s.reader := by
  unfold holdPicture
  cases a.picture <;> simp

theorem holdPicture_record (a : Alert) (s : State) (i : SlotId) :
    ((holdPicture a s).slot i).record = (s.slot i).record :=
  (holdPicture_touches a s).same .slotRecords (by decide) i

theorem raised_alerts {q : Raise} (nodup : q.targets.Nodup) (a : Alert) (p : PlaceId) (s : State) :
    (raised q a p s).alerts = { s.alerts with
      log := s.alerts.log ++ (takenFields q).map fun lf => ⟨q.id, lf.1, lf.2, (s.lane lf.1).sourceOf lf.2⟩
      places := s.alerts.places.set p (some a) } := by
  rw [raised, holdPicture_alerts, takeFields_alerts q.id (takenFields_nodup nodup)]
  rfl

theorem raised_sourceOf (q : Raise) (a : Alert) (p : PlaceId) (s : State) (l : LaneId) (f : Field) :
    ((raised q a p s).lane l).sourceOf f =
      if l ∈ q.targets ∧ q.takes f = true then .alert q.id else (s.lane l).sourceOf f := by
  rw [raised, holdPicture_lane, takeFields_sourceOf]
  simp only [mem_takenFields]
  rfl

theorem raised_carousel {q : Raise} (nodup : q.targets.Nodup) (a : Alert) (p : PlaceId) (s : State) (l : LaneId) :
    ((raised q a p s).lane l).carousel =
      if l ∈ q.targets ∧ q.take.picture = true ∧ (s.lane l).pictureFrom = .own then withdrawn (s.lane l).carousel
      else (s.lane l).carousel := by
  rw [raised, holdPicture_lane, takeFields_carousel q.id l (takenFields_nodup nodup)]
  simp only [mem_takenFields, and_assoc]
  rfl

theorem raised_users {q : Raise} (nodup : q.targets.Nodup) (a : Alert) (p : PlaceId) (s : State) (i : SlotId) :
    ((raised q a p s).slot i).users =
      (s.slot i).users - q.targets.countP (fun l => decide (abandonedSlot s q l = some i)) +
        if a.picture.map Prod.fst = some i then 1 else 0 := by
  rw [raised, holdPicture_users, takeFields_users q.id i (takenFields_nodup nodup), countP_goneSlot]
  rfl

theorem raised_store_hold (q : Raise) (a : Alert) (p : PlaceId) (s : State) :
    (raised q a p s).store.hold = s.store.hold + if a.picture.isSome then 1 else 0 := by
  rw [raised, holdPicture_store]
  exact congrArg (· + _) ((touches_foldl (takeField_touches q.id) (takenFields q) (setPlace p (some a) s)).same .hold)

/-- The picture of the alert being READY, no CONDEMNED slot gains a user. -/
theorem raised_droppingBegun (q : Raise) {a : Alert} (p : PlaceId) {s : State}
    (ready : ∀ x, a.picture = some x → (s.slot x.1).record.state = .ready) :
    droppingBegun (s.setStore { s.store with hold := (raised q a p s).store.hold }) (raised q a p s) := by
  have fall : droppingBegun s ((takenFields q).foldl (takeField q.id) (setPlace p (some a) s)) :=
    droppingBegun_congr (s := setPlace p (some a) s) rfl rfl (takeFields_droppingBegun q.id (takenFields q) _)
  refine droppingBegun_raised fall ?_ (fun i => holdPicture_record _ _ i) fun i condemned => ?_
  · exact (holdPicture_store a _).trans (by rw [raised, holdPicture_store])
  · rw [raised, holdPicture_users, if_neg]
    · rfl
    · intro e
      obtain ⟨x, hx, rfl⟩ := Option.map_eq_some_iff.mp e
      rw [ready x hx] at condemned
      cases condemned

theorem raised_work (q : Raise) (a : Alert) (p : PlaceId) (s : State) (r : RecId) : (raised q a p s).work r = s.work r := by
  have reader : (raised q a p s).reader.records = s.reader.records :=
    (((setPlace_touches p (some a) s).trans (zs := raiseAspects.filter (· ≠ .records))
      (touches_foldl (takeField_touches q.id) _ _)).trans (zs := raiseAspects.filter (· ≠ .records))
      (holdPicture_touches _ _)).same .records
  rw [State.work, reader]
  rfl

theorem droppingBegun_jobs {s v : State} (h : droppingBegun s v) {r : RecId} (free : ∀ j ∈ s.store.jobs, j.record ≠ r) :
    ∀ j ∈ v.store.jobs, j.record ≠ r := by
  obtain ⟨-, begun, store, -, -⟩ := h
  intro j hj
  rw [store] at hj
  obtain ⟨j0, hj0, rfl⟩ := List.mem_map.mp hj
  split
  · exact free j0 hj0
  · exact free j0 hj0

/-! ### What the raise reads -/

theorem freePlace?_some {s : State} {p : PlaceId} (h : freePlace? s = some p) :
    s.alerts.places[p] = none ∧ ∀ p' : PlaceId, p' < p → s.alerts.places[p'] ≠ none := by
  obtain ⟨free, before, after, split, taken⟩ := List.find?_eq_some_iff_append.mp h
  refine ⟨Option.isNone_iff_eq_none.mp free, fun p' lt => ?_⟩
  have mem : p' ∈ before ++ p :: after := split ▸ List.mem_finRange p'
  have order := split ▸ finRange_pairwise_lt 4
  rcases List.mem_append.mp mem with h | h
  · have := taken p' h
    intro none
    rw [none] at this
    cases this
  · rcases List.mem_cons.mp h with rfl | h
    · exact absurd lt (lt_irrefl _)
    · have := (List.pairwise_cons.mp (List.pairwise_append.mp order).2.1).1 p' h
      exact absurd (lt.trans this) (lt_irrefl _)

theorem newAlert_picture_ready {s : State} {q : Raise} (r : RecId) (t : TextRead) (ready : raiseNotReady s q = false)
    (x : SlotId × Byte) (h : (newAlert s r q t).picture = some x) : (s.slot x.1).record.state = .ready := by
  have picture : q.take.picture = true ∧ (slotOf q.slot).map (fun i => (i, (s.slot i).record.version)) = some x := by
    by_cases takes : q.take.picture = true
    · exact ⟨takes, (if_pos takes).symm.trans h⟩
    · exact absurd ((if_neg takes).symm.trans h) (by simp)
  obtain ⟨takes, named⟩ := picture
  obtain ⟨i, hi, rfl⟩ := Option.map_eq_some_iff.mp named
  rw [raiseNotReady, takes, hi] at ready
  simp only [Bool.true_and, Bool.or_eq_false_iff, decide_eq_false_iff_not, not_not] at ready
  exact ready.1

theorem newAlert_picture_slot (s : State) (r : RecId) (q : Raise) (t : TextRead) (i : SlotId) :
    (newAlert s r q t).picture.map Prod.fst = some i ↔ q.take.picture = true ∧ slotOf q.slot = some i := by
  have eq : (newAlert s r q t).picture =
      if q.take.picture then (slotOf q.slot).map fun i => (i, (s.slot i).record.version) else none := rfl
  rw [eq]
  cases q.take.picture <;> cases slotOf q.slot <;> simp

theorem newAlert_picture_isSome {s : State} {q : Raise} (r : RecId) (t : TextRead) (ready : raiseNotReady s q = false) :
    (newAlert s r q t).picture.isSome = q.take.picture := by
  have eq : (newAlert s r q t).picture =
      if q.take.picture then (slotOf q.slot).map fun i => (i, (s.slot i).record.version) else none := rfl
  rw [eq]
  cases takes : q.take.picture with
  | false => rfl
  | true =>
    rw [raiseNotReady, takes] at ready
    cases named : slotOf q.slot with
    | none => rw [named] at ready; cases ready
    | some i => rfl

/-- The text of a raised alert, by the command that decides its raise. -/
def raiseText (c : Instr) (q : Raise) : Option (List Byte) :=
  match c with
  | .alertRaiseApply h => if q.take.text then hostRead h q.textAddr q.textLength else none
  | _ => none

theorem newAlert_text {c : Instr} {s : State} {r : RecId} {rest : List RecId} {w : WorkRecord} (h : decidesRaise c s r rest w)
    (args : raiseBadArg (raiseOf w) = false) (u : State) :
    (newAlert u r (raiseOf w) (textAt c (raiseOf w))).text = raiseText c (raiseOf w) := by
  rcases h with ⟨rfl, -⟩ | ⟨h, rfl, -⟩
  · rfl
  · by_cases text : (raiseOf w).take.text = true
    · have read : textAt (.alertRaiseApply h) (raiseOf w) = _ := readAlertText_eq (h := h) text args
      rw [read]
      refine Eq.trans ?_ (if_pos text).symm
      cases hostRead h (raiseOf w).textAddr (raiseOf w).textLength <;> rfl
    · have reads : (raiseOf w).readsText = false := by simp [Raise.readsText, text]
      have read : textAt (.alertRaiseApply h) (raiseOf w) = .notMade := if_neg (by simp [reads])
      rw [read]
      exact (if_neg text).symm

theorem alertMirror_congr {s t : State} (h : t.alerts = s.alerts) (p : PlaceId) : alertMirror t p = alertMirror s p := by
  simp only [alertMirror, h]

theorem takenFields_log (q : Raise) (s : State) :
    ((takenFields q).map fun lf => (⟨q.id, lf.1, lf.2, (s.lane lf.1).sourceOf lf.2⟩ : LogEntry)) =
      q.targets.flatMap fun l => ([Field.audio, .text, .picture].filter q.takes).map fun f =>
        ⟨q.id, l, f, (s.lane l).sourceOf f⟩ := by
  rw [takenFields, List.map_flatMap, fields_eq_filter]
  simp only [List.map_map, Function.comp_def]

/-- A lane is itself but for its source fields and its carousel. -/
theorem raised_lane (q : Raise) (a : Alert) (p : PlaceId) (s : State) (l : LaneId) : (raised q a p s).lane l = { s.lane l with
    audioFrom := ((raised q a p s).lane l).audioFrom, textFrom := ((raised q a p s).lane l).textFrom
    pictureFrom := ((raised q a p s).lane l).pictureFrom, carousel := ((raised q a p s).lane l).carousel } := by
  have touch : touches raiseAspects s (raised q a p s) :=
    ((setPlace_touches p (some a) s).trans (zs := raiseAspects) (touches_foldl (takeField_touches q.id) _ _)).trans
      (holdPicture_touches _ _)
  refine lane_eq_of_same fun b => ?_
  have kept := touch.1 b
  cases b <;> first | exact kept (by decide) l | exact trivial | exact Eq.refl _

theorem decideRaise_passes {s : State} {q : Raise} {t : TextRead} {p : PlaceId} (r : RecId) (passes : raiseFault s q t = none)
    (free : freePlace? s = some p) : decideRaise r q t s = applyRaise r q t p s := by
  simp only [decideRaise, passes, free]

/-- Settles O42: `v` is the state before the store chooses. -/
theorem alertRaiseTakesItsFields : Obligations.AlertRaiseTakesItsFields := by
  constructor
  · intro s r rest w front free text pos short
    have reads : (raiseOf w).readsText = true := by simp [Raise.readsText, text, pos, short]
    have acts : actAlertRaise r w (s.setAlerts { s.alerts with queue := rest }) =
        s.setAlerts { s.alerts with queue := rest, checking := some r } := if_pos reads
    exact ⟨_, congrArg Host.Outcome.next ((alertDispatch_at front free actAlertRaise).trans acts), rfl,
      changesOnly_setAlerts _ s⟩
  · intro c s r rest w decides q passes fields abandoned
    let s1 := raiseState rest s
    have room : RaiseRoom s q := raiseRoom_of_raiseFault passes
    have ready : raiseNotReady s q = false := room.picture
    have nodup : q.targets.Nodup := (raiseOf_targets_sorted w).imp fun lt => ne_of_lt lt
    obtain ⟨p, hp⟩ : ∃ p, freePlace? s = some p := Option.isSome_iff_exists.mp (by simpa using room.place)
    let a := newAlert s1 r q (textAt c q)
    let v := writeAlertMirror p (raised q a p s1)
    have run : exec c s = .next (choose v) := (decidesRaise_exec decides).trans
      (congrArg _ (decideRaise_passes (s := s1) r passes hp))
    have lane (l : LaneId) : (choose v).lane l = (raised q a p s1).lane l := choose_lane v l
    have slot (i : SlotId) : (choose v).slot i = (raised q a p s1).slot i := choose_slot v i
    have hold : (choose v).store.hold = (raised q a p s1).store.hold := (choose_touches v).same .hold
    have readyAlert : ∀ x, a.picture = some x → (s1.slot x.1).record.state = .ready :=
      newAlert_picture_ready (s := s1) r _ ready
    have fall := raised_droppingBegun q p readyAlert
    have alerts : (choose v).alerts = (raised q a p s1).alerts := choose_alerts v
    have anchor : (choose v).regs.anchor = (raised q a p s1).regs.anchor := (choose_touches v).same .anchor
    have frame : touches raiseAspects s1 (choose v) := applyRaise_touches r q (textAt c q) p s1
    obtain ⟨before, hbefore⟩ := (((setPlace_touches p (some a) s1).trans (zs := raiseAspects)
      (touches_foldl (takeField_touches q.id) (takenFields q) _)).trans (zs := raiseAspects) (holdPicture_touches a _)).posted
    obtain ⟨after, hafter⟩ := (choose_touches v).posted
    refine ⟨choose v, v, p, run, (freePlace?_some hp).1, (freePlace?_some hp).2, ?_, fun l f => ?_, fun l => ?_, fun l => ?_,
      fun i => ?_, ?_, fun i => ?_, ?_, ?_, choose_storeChose v, fun free => ?_, ⟨before, after, ?_⟩, fun b => ?_, ?_⟩
    · rw [alerts, raised_alerts nodup, takenFields_log]
      have text : a.text = raiseText c q := newAlert_text decides room.args s1
      exact (congrArg (fun x => { s.alerts with
        queue := rest, checking := none
        log := s.alerts.log ++ q.targets.flatMap fun l => fields.map fun f => (⟨q.id, l, f, (s.lane l).sourceOf f⟩ : LogEntry)
        places := s.alerts.places.set p (some { a with text := x }) }) text).trans rfl
    · rw [lane, raised_sourceOf]; rfl
    · rw [lane, raised_carousel nodup]
      have aired : withdrawn (s.lane l).carousel = if (s.lane l).carousel.airing ≠ none then
          abandonCarousel (s.lane l).carousel else (s.lane l).carousel := by
        cases airing : (s.lane l).carousel.airing <;> simp [withdrawn, airing]
      rw [show (s1.lane l) = s.lane l from rfl, aired, ← ite_and]
      simp only [and_assoc]
      rfl
    · rw [lane, raised_lane]; rfl
    · rw [slot, raised_users nodup]
      simp only [newAlert_picture_slot, a]
      rfl
    · rw [hold, raised_store_hold, newAlert_picture_isSome (s := s1) r _ ready]; rfl
    · rw [slot]; exact fall.1 i
    · exact (slots_eq_of_slot fun i => slot i).symm
    · rw [hold]; exact fall
    · have others : ∀ j ∈ v.store.jobs, j.record ≠ r := droppingBegun_jobs fall free
      exact (choose_work_kept others).trans ((raised_work q a p s1 r).trans (decidesRaise_work (s := s) decides))
    · rw [hafter]
      refine congrArg (· ++ after) ?_
      have mirror : alertMirrorWrite (choose v) p = alertMirrorWrite (raised q a p s1) p := by
        rw [alertMirrorWrite, anchor, alertMirror_congr alerts]
        rfl
      rw [mirror]
      exact congrArg (· ++ [alertMirrorWrite (raised q a p s1) p]) hbefore
    · rw [show (choose v).store.contents = s.store.contents from frame.same .contents]
    · exact (changesOnly_setAlerts { s.alerts with queue := rest, checking := none } s).then
        (rs := [.regs, .reader, .lanes, .store, .alerts, .posted])
        (frame.changesOnly (ps := [.regs, .reader, .lanes, .store, .alerts, .posted]))

end Sys2Proof.Machine
end

/-! ## Proofs: the alert records, and the restore log kept (8.1, 8.2, 8.5)

The alert records are read place by place: a raise fills one, an end changes the state of one, and a send makes of each what
`placeAfterSend` says. -/

section
namespace Sys2Proof.Machine

/-! ### The places as a list -/

theorem filterMap_id_cons {α : Type} (x : Option α) (xs : List (Option α)) :
    (x :: xs).filterMap id = x.toList ++ xs.filterMap id := by cases x <;> rfl

/-- A member of a list of places replaced: what stands before and after it is kept. -/
theorem filterMap_id_set {α : Type} (xs : List (Option α)) (i : Nat) (h : i < xs.length) : ∃ before after,
    xs.filterMap id = before ++ (xs[i].toList ++ after) ∧
      ∀ x, (xs.set i x).filterMap id = before ++ (x.toList ++ after) := by
  refine ⟨(xs.take i).filterMap id, (xs.drop (i + 1)).filterMap id, ?_, fun x => ?_⟩
  · conv_lhs => rw [← List.take_append_drop i xs, List.drop_eq_getElem_cons h]
    rw [List.filterMap_append, filterMap_id_cons]
  · rw [List.set_eq_take_append_cons_drop, if_pos h, List.filterMap_append, filterMap_id_cons]

/-- The active alerts around a place, and what they are with the place set. -/
theorem activeAlerts_around (s : State) (p : PlaceId) : ∃ before after,
    activeAlerts s = before ++ (s.alerts.places[p].toList ++ after) ∧
      ∀ {t : State} {x : Option Alert}, t.alerts.places = s.alerts.places.set p x →
        activeAlerts t = before ++ (x.toList ++ after) := by
  obtain ⟨before, after, here, set⟩ := filterMap_id_set s.alerts.places.toList p.val (by simp)
  refine ⟨before, after, ?_, fun {t x} places => ?_⟩
  · rw [activeAlerts, here]
    simp
  · rw [activeAlerts, places, Vector.toList_set, set]

/-- Places that are made something of one by one, each of it no more than its alert with the same id: ids stay distinct. -/
theorem ids_sublist {f : Option Alert → Option Alert} (ids : ∀ x a, f x = some a → ∃ b, x = some b ∧ b.id = a.id) :
    ∀ xs : List (Option Alert), List.Sublist (((xs.map f).filterMap id).map Alert.id) ((xs.filterMap id).map Alert.id)
  | [] => List.Sublist.refl _
  | x :: xs => by
    rw [List.map_cons, filterMap_id_cons, filterMap_id_cons, List.map_append, List.map_append]
    refine List.Sublist.append ?_ (ids_sublist ids xs)
    cases made : f x with
    | none => exact List.nil_sublist _
    | some a =>
      obtain ⟨b, rfl, same⟩ := ids x a made
      simp [same]

/-! ### The places after a send -/

theorem releasePicture_alerts (a : Alert) (s : State) : (releasePicture a s).alerts = s.alerts := by
  unfold releasePicture
  cases a.picture <;> simp

theorem holds_iff (p : Plan) (a : Alert) : (p.alerts.any fun b => decide (b.id = a.id)) = p.holds a := by
  rw [Plan.holds, Plan.alert?, Bool.eq_iff_iff, List.find?_isSome, List.any_eq_true]

theorem commitPlace_places (p : Plan) (counter : Word) (s : State) (i q : PlaceId) :
    (commitPlace p counter s i).alerts.places[q] =
      if q = i then placeAfterSend p counter s.alerts.places[i] else s.alerts.places[q] := by
  have unchanged : ∀ x, s.alerts.places[i] = x → s.alerts.places[q] = if q = i then x else s.alerts.places[q] := by
    rintro x rfl
    split
    next h => rw [h]
    next => rfl
  unfold commitPlace placeAfterSend
  cases here : s.alerts.places[i] with
  | none => exact unchanged _ here
  | some a =>
    simp only [holds_iff]
    cases a.state <;> cases p.holds a
    · exact unchanged _ here
    · exact places_setPlace i q _ s
    · exact unchanged _ here
    · exact unchanged _ here
    · exact (places_setPlace i q none _).trans (by rw [releasePicture_alerts])
    · exact unchanged _ here

/-- The commits of the places one after the other, of each place once. -/
theorem commitPlaces_places (p : Plan) (counter : Word) : ∀ (is : List PlaceId), is.Nodup → ∀ (s : State) (q : PlaceId),
    (is.foldl (commitPlace p counter) s).alerts.places[q] =
      if q ∈ is then placeAfterSend p counter s.alerts.places[q] else s.alerts.places[q]
  | [], _, s, q => (if_neg List.not_mem_nil).symm
  | i :: is, nodup, s, q => by
    obtain ⟨fresh, nodup⟩ := List.nodup_cons.mp nodup
    rw [List.foldl_cons, commitPlaces_places p counter is nodup, commitPlace_places]
    by_cases h : q = i
    · subst h
      rw [if_neg fresh, if_pos rfl, if_pos List.mem_cons_self]
    · rw [if_neg h]
      by_cases k : q ∈ is
      · rw [if_pos k, if_pos (List.mem_cons_of_mem _ k)]
      · rw [if_neg k, if_neg fun m => (List.mem_cons.mp m).elim h k]

/-- After the alerts' part of a send each place holds what the send makes of it (R149, R156). -/
theorem commitAlerts_places (p : Plan) (counter : Word) (s : State) (q : PlaceId) :
    (commitAlerts p counter s).alerts.places[q] = placeAfterSend p counter s.alerts.places[q] := by
  rw [commitAlerts, commitPlaces_places _ _ _ (List.nodup_finRange 4), if_pos (List.mem_finRange q)]

/-- What the commits of a frame touch before the alerts' part. -/
def carriageAspects : List Aspect := [.credit, .saturation, .poolCursor, .laneText, .counts] ++ airingAspects

/-- The state of a send's commits before the alerts' part. -/
def commitCarriage (c : Carriage) (s : State) : State :=
  c.lanes.foldl commitPicture (commitTexts c
    ((c.lanes.foldl commitCredit (c.lanes.foldl countFiller (c.fetched.foldl countAired s))).setCursor c.cursorNext))

theorem commitFrame_eq (p : Plan) (c : Carriage) (s : State) :
    commitFrame p c s = commitAlerts p p.counter (commitCarriage c s) := rfl

theorem commitCarriage_touches (c : Carriage) (s : State) : touches carriageAspects s (commitCarriage c s) := by
  have moved (t : State) : touches [.poolCursor] t (t.setCursor c.cursorNext) :=
    touches_of_same (fun a ha => by cases a <;> first | rfl | exact fun _ => rfl | simp at ha) rfl
  exact (((((touches_foldl countAired_touches c.fetched s).trans (zs := carriageAspects)
    (touches_foldl countFiller_touches c.lanes _)).trans (zs := carriageAspects)
    (touches_foldl commitCredit_touches c.lanes _)).trans (zs := carriageAspects) (moved _)).trans (zs := carriageAspects)
    (commitTexts_touches c _)).trans (touches_foldl commitPicture_touches c.lanes _)

theorem commitFrame_places (p : Plan) (c : Carriage) (s : State) (q : PlaceId) :
    (commitFrame p c s).alerts.places[q] = placeAfterSend p p.counter s.alerts.places[q] := by
  have before : (commitCarriage c s).alerts.places = s.alerts.places := (commitCarriage_touches c s).same .places
  rw [commitFrame_eq, commitAlerts_places, before]

/-- A send leaves the places after its commits as they are. -/
theorem sendFrame_places (p : Plan) (c : Carriage) (frame : List Byte) (s : State) (q : PlaceId) :
    (sendFrame p c frame s).alerts.places[q] = placeAfterSend p p.counter s.alerts.places[q] := by
  let s2 := announceSent p.announce ((setAirData (.sending frame) s).setFrames
    { (setAirData (.sending frame) s).frames with counter := (setAirData (.sending frame) s).frames.counter + 1 })
  have before : s2.alerts.places = s.alerts.places := (announceSent_touches p.announce _).same .places
  let zs : List Aspect := [.posted, .switched] ++ completionAspects ++ choiceAspects ++ assemblyAspects
  have after : (sendFrame p c frame s).alerts.places = (commitFrame p c s2).alerts.places :=
    (((((writeSendMirrors_touches p c (commitFrame p c s2)).trans (zs := zs) (completeAt_touches p.counter
      (alertCompletions p s) _)).trans (zs := zs) (completeSwitched_touches p.counter _)).trans (zs := zs)
      (choose_touches _)).trans (zs := zs) (beginAssembly_touches _)).same .places
  rw [after, commitFrame_places, before]

/-- A pull leaves the places, or makes of each what the send of a frame does. -/
theorem airPull_places (begun : List LaneId) (s : State) : (airPull begun s).alerts.places = s.alerts.places ∨
    ∃ p counter, ∀ q : PlaceId, (airPull begun s).alerts.places[q] = placeAfterSend p counter s.alerts.places[q] := by
  unfold airPull
  split
  · unfold answerPull
    split
    · exact .inl ((sendVoid_touches s).same .places)
    · exact .inl ((latePull_touches _ s).same .places)
    · exact .inr ⟨_, _, sendFrame_places _ _ _ s⟩
  · exact .inl rfl

/-! ### What an alert keeps -/

/-- The fields of an alert that its raise fixes. -/
def Alert.sameTerms (a b : Alert) : Prop :=
  a.id = b.id ∧ a.take = b.take ∧ a.targets = b.targets ∧ a.source = b.source ∧ a.width = b.width ∧ a.picture = b.picture

theorem Alert.sameTerms_refl (a : Alert) : a.sameTerms a := ⟨rfl, rfl, rfl, rfl, rfl, rfl⟩

/-- What a send leaves of a place is the alert that was there, ENDING only if it was. -/
theorem placeAfterSend_some {p : Plan} {counter : Word} {x : Option Alert} {a : Alert}
    (h : placeAfterSend p counter x = some a) : ∃ b, x = some b ∧ a.sameTerms b ∧ (a.state = .ending ↔ b.state = .ending) := by
  unfold placeAfterSend at h
  cases x with
  | none => cases h
  | some b =>
    dsimp only at h
    split at h
    next raised _ => cases h; exact ⟨b, rfl, ⟨rfl, rfl, rfl, rfl, rfl, rfl⟩, by simp [raised]⟩
    next => cases h
    next => cases h; exact ⟨a, rfl, a.sameTerms_refl, Iff.rfl⟩

/-- A send leaves an alert that is not ENDING, with what its raise fixed. -/
theorem placeAfterSend_kept (p : Plan) (counter : Word) {a : Alert} (h : a.state ≠ .ending) :
    ∃ b, placeAfterSend p counter (some a) = some b ∧ b.sameTerms a ∧ b.state ≠ .ending := by
  unfold placeAfterSend
  simp only
  split
  next => exact ⟨_, rfl, ⟨rfl, rfl, rfl, rfl, rfl, rfl⟩, by simp⟩
  next ending _ => exact absurd ending h
  next => exact ⟨a, rfl, a.sameTerms_refl, h⟩

/-! ### The log that a raise makes -/

theorem logSource_taken (id : Byte) (v : LaneId × Field → Source) (l : LaneId) (f : Field) :
    ∀ lfs : List (LaneId × Field), logSource (lfs.map fun lf => ⟨id, lf.1, lf.2, v lf⟩) l f =
      if (l, f) ∈ lfs then .alert id else .own
  | [] => rfl
  | lf :: lfs => by
    rw [List.map_cons, logSource_cons, logSource_taken id v l f lfs]
    by_cases k : (l, f) ∈ lfs
    · rw [if_pos k, if_neg (by simp), if_pos (List.mem_cons_of_mem _ k)]
    · rw [if_neg k, if_pos rfl]
      by_cases h : lf.1 = l ∧ lf.2 = f
      · rw [if_pos h, if_pos (List.mem_cons.mpr (.inl (Prod.ext h.1.symm h.2.symm)))]
      · rw [if_neg h, if_neg fun m => (List.mem_cons.mp m).elim (fun e => h ⟨by rw [← e], by rw [← e]⟩) k]

/-! ### The log kept -/

theorem LogSound.agrees {s : State} (h : LogSound s) : logAgrees s.alerts.log s.lanes :=
  ⟨h.2.2.2.2.2.2, h.2.2.2.2.2.1⟩

/-- Every alert that a log names is still there, RAISED or ON_AIR, and takes the same. -/
theorem holdsField_of {s t : State} {e : LogEntry}
    (kept : ∀ a ∈ activeAlerts s, a.id = e.alert → a.state ≠ .ending → ∃ b ∈ activeAlerts t, b.sameTerms a ∧ b.state ≠ .ending)
    (h : holdsField s e) : holdsField t e := by
  obtain ⟨a, ha, id, state, lane, field⟩ := h
  obtain ⟨b, hb, ⟨sameId, sameTake, sameTargets, -⟩, hs⟩ := kept a ha id state
  exact ⟨b, hb, sameId.trans id, hs, sameTargets ▸ lane, sameTake ▸ field⟩

/-- With the log and the crosspoint left alone, the log stays sound when the alerts do. -/
theorem LogSound.of_alerts {s t : State} (h : LogSound s) (log : t.alerts.log = s.alerts.log)
    (sources : ∀ l f, (t.lane l).sourceOf f = (s.lane l).sourceOf f)
    (kept : ∀ a ∈ activeAlerts s, a.state ≠ .ending → ∃ b ∈ activeAlerts t, b.sameTerms a ∧ b.state ≠ .ending)
    (ids : List.Sublist ((activeAlerts t).map Alert.id) ((activeAlerts s).map Alert.id))
    (targets : ∀ a ∈ activeAlerts t, ∃ b ∈ activeAlerts s, a.targets = b.targets) : LogSound t := by
  obtain ⟨short, keys, held, distinct, sorted, agree, chained⟩ := h
  refine ⟨log ▸ short, log ▸ keys, fun e he => ?_, distinct.sublist ids, fun a ha => ?_, fun l f => ?_, log ▸ chained⟩
  · exact holdsField_of (fun a ha _ hs => kept a ha hs) (held e (log ▸ he))
  · obtain ⟨b, hb, same⟩ := targets a ha
    exact same ▸ sorted b hb
  · rw [sources, log, agree]

theorem sourceOf_of_touches {xs : List Aspect} {s t : State} (touch : touches xs s t)
    (away : ∀ a ∈ [Aspect.audioFrom, .textFrom, .pictureFrom], a ∉ xs) (l : LaneId) (f : Field) :
    (t.lane l).sourceOf f = (s.lane l).sourceOf f := by
  cases f
  · exact touch.same .audioFrom (away _ (by decide)) l
  · exact touch.same .textFrom (away _ (by decide)) l
  · exact touch.same .pictureFrom (away _ (by decide)) l

theorem LogSound.of_touches {xs : List Aspect} {s t : State} (h : LogSound s) (touch : touches xs s t)
    (away : ∀ a ∈ [Aspect.audioFrom, .textFrom, .pictureFrom, .places, .log], a ∉ xs) : LogSound t := by
  have alerts : activeAlerts t = activeAlerts s := activeAlerts_congr (touch.same .places (away _ (by decide)))
  refine h.of_alerts (touch.same .log (away _ (by decide)))
    (sourceOf_of_touches touch fun a ha => away a (List.mem_append_left [Aspect.places, .log] ha))
    (fun a ha hs => ⟨a, alerts ▸ ha, a.sameTerms_refl, hs⟩) (by rw [alerts]) fun a ha => ⟨a, alerts ▸ ha, rfl⟩

theorem airPull_logSound {s : State} (h : LogSound s) (begun : List LaneId) : LogSound (airPull begun s) := by
  have touch := airPull_touches begun s
  have sources := sourceOf_of_touches touch (by decide)
  rcases airPull_places begun s with same | ⟨p, counter, made⟩
  · have alerts := activeAlerts_congr same
    exact h.of_alerts (touch.same .log) sources (fun a ha hs => ⟨a, alerts ▸ ha, a.sameTerms_refl, hs⟩) (by rw [alerts])
      fun a ha => ⟨a, alerts ▸ ha, rfl⟩
  · refine h.of_alerts (touch.same .log) sources (fun a ha hs => ?_) ?_ fun a ha => ?_
    · obtain ⟨q, hq⟩ := mem_activeAlerts.mp ha
      obtain ⟨b, hb, same, state⟩ := placeAfterSend_kept p counter hs
      exact ⟨b, mem_activeAlerts.mpr ⟨q, (made q).trans (hq ▸ hb)⟩, same, state⟩
    · have map : (airPull begun s).alerts.places = s.alerts.places.map (placeAfterSend p counter) :=
        Vector.ext fun i hi => (made ⟨i, hi⟩).trans (Vector.getElem_map ..).symm
      rw [activeAlerts, activeAlerts, map, Vector.toList_map]
      refine ids_sublist (fun x a made => ?_) _
      obtain ⟨b, rfl, same, -⟩ := placeAfterSend_some made
      exact ⟨b, rfl, same.1.symm⟩
    · obtain ⟨q, hq⟩ := mem_activeAlerts.mp ha
      obtain ⟨b, hb, same, -⟩ := placeAfterSend_some ((made q).symm.trans hq)
      exact ⟨b, mem_activeAlerts.mpr ⟨q, hb⟩, same.2.2.1⟩

/-! ### ALERT_END -/

theorem endAlert_logSound {s : State} (h : LogSound s) (r : RecId) {p : PlaceId} {a : Alert}
    (here : s.alerts.places[p] = some a) : LogSound (endAlert r p a s) := by
  obtain ⟨short, keys, held, distinct, sorted, agree, chained⟩ := id h
  have agrees := passUp_agrees (id := a.id) h.agrees
  have kept := passUp_keys (id := a.id) h.agrees
  have log : (endAlert r p a s).alerts.log = (passUp a.id s.alerts.log s.lanes).1 := rfl
  have places : (endAlert r p a s).alerts.places =
    s.alerts.places.set p (some { a with state := .ending, endRecord := some r }) := rfl
  have key {e : LogEntry} (he : e ∈ (passUp a.id s.alerts.log s.lanes).1) :
      ∃ x ∈ s.alerts.log, x.alert ≠ a.id ∧ x.alert = e.alert ∧ x.lane = e.lane ∧ x.field = e.field := by
    have mem := kept ▸ List.mem_map_of_mem (f := fun x : LogEntry => (x.alert, x.lane, x.field)) he
    obtain ⟨x, hx, same⟩ := List.mem_map.mp mem
    obtain ⟨hx, other⟩ := List.mem_filter.mp hx
    simp only [Prod.mk.injEq] at same
    exact ⟨x, hx, of_decide_eq_true other, same.1, same.2.1, same.2.2⟩
  obtain ⟨before, after, around, set⟩ := activeAlerts_around s p
  have alerts := set places
  rw [here] at around
  have terms (b : Alert) (hb : b ∈ activeAlerts (endAlert r p a s)) : ∃ b' ∈ activeAlerts s, b.targets = b'.targets := by
    rw [alerts] at hb
    rw [around]
    rcases List.mem_append.mp hb with hb | hb
    · exact ⟨b, List.mem_append_left _ hb, rfl⟩
    rcases List.mem_append.mp hb with hb | hb
    · obtain rfl := Option.some.inj (Option.mem_toList.mp hb)
      exact ⟨a, List.mem_append_right _ (List.mem_append_left _ (Option.mem_toList.mpr rfl)), rfl⟩
    · exact ⟨b, List.mem_append_right _ (List.mem_append_right _ hb), rfl⟩
  refine ⟨?_, ?_, fun e he => ?_, ?_, fun b hb => ?_, agrees.2, agrees.1⟩
  · have length := congrArg List.length kept
    rw [List.length_map, List.length_map] at length
    rw [log, length]
    exact (List.length_filter_le _ _).trans short
  · rw [log, kept]
    exact keys.sublist (List.filter_sublist.map _)
  · obtain ⟨x, hx, other, id, lane, field⟩ := key he
    obtain ⟨b, hb, hid, state, hl, hf⟩ := held x hx
    obtain ⟨q, hq⟩ := mem_activeAlerts.mp hb
    have elsewhere : q ≠ p := fun e => by
      rw [e, here] at hq
      cases hq
      exact other hid.symm
    refine ⟨b, mem_activeAlerts.mpr ⟨q, ?_⟩, hid.trans id, state, lane ▸ hl, field ▸ hf⟩
    rw [places, getElem_set_place, if_neg elsewhere, hq]
  · rw [alerts, List.map_append, List.map_append]
    rw [around, List.map_append, List.map_append] at distinct
    exact distinct
  · obtain ⟨b', hb', same⟩ := terms b hb
    exact same ▸ sorted b' hb'

/-! ### The application of a raise -/

/-- What a raise does to the alerts, the log and the crosspoint. -/
theorem applyRaise_alerts {q : Raise} (nodup : q.targets.Nodup) (r : RecId) (t : TextRead) (p : PlaceId) (s : State) :
    (applyRaise r q t p s).alerts = { s.alerts with
      log := s.alerts.log ++ (takenFields q).map fun lf => ⟨q.id, lf.1, lf.2, (s.lane lf.1).sourceOf lf.2⟩
      places := s.alerts.places.set p (some (newAlert s r q t)) } := by
  rw [applyRaise_eq, choose_alerts]
  exact raised_alerts nodup _ p s

theorem applyRaise_sourceOf (r : RecId) (q : Raise) (t : TextRead) (p : PlaceId) (s : State) (l : LaneId) (f : Field) :
    ((applyRaise r q t p s).lane l).sourceOf f =
      if (l, f) ∈ takenFields q then .alert q.id else (s.lane l).sourceOf f := by
  rw [applyRaise_eq, choose_lane]
  simp only [mem_takenFields]
  exact raised_sourceOf q _ p s l f

theorem applyRaise_logSound {s : State} (h : LogSound s) {q : Raise} (sorted : q.targets.Pairwise (· < ·)) (r : RecId)
    {t : TextRead} {p : PlaceId} (passes : raiseFault s q t = none) (free : s.alerts.places[p] = none) :
    LogSound (applyRaise r q t p s) := by
  obtain ⟨short, keys, held, distinct, inOrder, agree, chained⟩ := id h
  have room : RaiseRoom s q := raiseRoom_of_raiseFault passes
  have nodup : q.targets.Nodup := sorted.imp fun lt => ne_of_lt lt
  have alerts := applyRaise_alerts nodup r t p s
  have log := congrArg AlertControl.log alerts
  have places := congrArg AlertControl.places alerts
  have fresh : ∀ a ∈ activeAlerts s, a.id ≠ q.id := fun a ha e =>
    absurd room.fresh (by rw [(alertById_isSome s q.id).mpr ⟨a, ha, e⟩]; decide)
  obtain ⟨before, after, around, set⟩ := activeAlerts_around s p
  have active := set places
  rw [free] at around
  have still : ∀ a ∈ activeAlerts s, a ∈ activeAlerts (applyRaise r q t p s) := fun a ha => by
    rw [around] at ha
    rw [active]
    exact (List.mem_append.mp ha).elim (List.mem_append_left _) fun m => List.mem_append_right _ (List.mem_append_right _ m)
  have new : newAlert s r q t ∈ activeAlerts (applyRaise r q t p s) := by
    rw [active]
    exact List.mem_append_right _ (List.mem_append_left _ (Option.mem_toList.mpr rfl))
  have ids : (q.id :: (activeAlerts s).map Alert.id).Nodup :=
    List.nodup_cons.mpr ⟨fun m => by obtain ⟨a, ha, e⟩ := List.mem_map.mp m; exact fresh a ha e, distinct⟩
  have perm : ((activeAlerts (applyRaise r q t p s)).map Alert.id).Perm (q.id :: (activeAlerts s).map Alert.id) := by
    rw [active, around]
    simp only [List.map_append]
    exact List.perm_middle
  refine ⟨?_, ?_, fun e he => ?_, perm.nodup_iff.mpr ids, fun a ha => ?_, fun l f => ?_, ?_⟩
  · have count : (takenFields q).length = q.targets.length * q.take.fields.length := by
      simp [takenFields, List.length_flatMap, List.map_const']
    have le : q.targets.length * q.take.fields.length ≤ 64 - s.alerts.log.length := room.room
    rw [log, List.length_append, List.length_map, count]
    omega
  · rw [log, List.map_append, List.map_map]
    refine List.nodup_append.mpr ⟨keys, ?_, ?_⟩
    · refine (takenFields_nodup nodup).map fun x y e => ?_
      simp only [Function.comp_apply, Prod.mk.injEq, true_and] at e
      exact Prod.ext e.1 e.2
    · rintro x hx _ hy rfl
      obtain ⟨e, he, rfl⟩ := List.mem_map.mp hx
      obtain ⟨lf, -, same⟩ := List.mem_map.mp hy
      obtain ⟨a, ha, id, -⟩ := held e he
      exact fresh a ha (id.trans (congrArg Prod.fst same).symm)
  · rw [log] at he
    rcases List.mem_append.mp he with he | he
    · exact holdsField_of (fun a ha _ hs => ⟨a, still a ha, a.sameTerms_refl, hs⟩) (held e he)
    · obtain ⟨⟨l, f⟩, hlf, rfl⟩ := List.mem_map.mp he
      obtain ⟨hl, hf⟩ := mem_takenFields.mp hlf
      refine ⟨_, new, rfl, by simp [newAlert], hl, ?_⟩
      have fields : f ∈ q.take.fields := by
        rw [fields_eq_filter]
        exact List.mem_filter.mpr ⟨by cases f <;> simp, hf⟩
      exact fields
  · rw [active] at ha
    have mem : a ∈ activeAlerts s ∨ a = newAlert s r q t := by
      rw [around]
      rcases List.mem_append.mp ha with ha | ha
      · exact .inl (List.mem_append_left _ ha)
      rcases List.mem_append.mp ha with ha | ha
      · exact .inr (Option.some.inj (Option.mem_toList.mp ha)).symm
      · exact .inl (List.mem_append_right _ (List.mem_append_right _ ha))
    rcases mem with old | rfl
    · exact inOrder a old
    · exact sorted
  · rw [applyRaise_sourceOf, log, logSource_append, logSource_taken q.id fun lf => (s.lane lf.1).sourceOf lf.2]
    by_cases k : (l, f) ∈ takenFields q
    · rw [if_pos k, if_pos k, if_neg (by simp)]
    · rw [if_neg k, if_neg k, if_pos rfl, agree]
  · rw [log]
    refine logChained_append.mpr ⟨chained, logChained_fresh ?_ fun e he => ?_⟩
    · rw [List.map_map]
      exact (takenFields_nodup nodup).map fun x y e => e
    · obtain ⟨lf, -, rfl⟩ := List.mem_map.mp he
      exact agree lf.1 lf.2

/-! ### Every step -/

/-- A raise decided is refused, or applied at a free place. -/
theorem decideRaise_cases (r : RecId) (q : Raise) (t : TextRead) (s : State) :
    (∃ status aux, decideRaise r q t s = finish r status aux s) ∨
      ∃ p, raiseFault s q t = none ∧ s.alerts.places[p] = none ∧ decideRaise r q t s = applyRaise r q t p s := by
  cases fault : raiseFault s q t with
  | some x => exact .inl ⟨x.1, x.2, by simp only [decideRaise, fault]⟩
  | none =>
    obtain ⟨p, hp⟩ : ∃ p, freePlace? s = some p :=
      Option.isSome_iff_exists.mp (by simpa using (raiseRoom_of_raiseFault fault).place)
    exact .inr ⟨p, rfl, (freePlace?_some hp).1, decideRaise_passes r fault hp⟩

/-- The command of an alert slip acts on the state without it, or does nothing. -/
theorem alertDispatch_cases (k : Kind) (act : RecId → WorkRecord → State → State) (s : State) : alertDispatch k act s = s ∨
    ∃ r rest w, slipAt .alert k s r rest w ∧ alertDispatch k act s = act r w (s.setAlerts { s.alerts with queue := rest }) := by
  by_cases idle : alertDispatch k act s = s
  · exact .inl idle
  · cases free : s.alerts.checking with
    | some x => exact absurd (by simp [alertDispatch, free]) idle
    | none =>
      cases queue : s.alerts.queue with
      | nil => exact absurd (by simp [alertDispatch, free, queue]) idle
      | cons r rest =>
        cases work : s.work r with
        | none => exact absurd (by simp [alertDispatch, free, queue, work]) idle
        | some w =>
          by_cases kind : kindOf w.kind = some k
          · exact .inr ⟨r, rest, w, ⟨queue, work, kind⟩, alertDispatch_at ⟨queue, work, kind⟩ free act⟩
          · exact absurd (by simp [alertDispatch, free, queue, work, kind]) idle

theorem setAlerts_queue_touches (rest : List RecId) (x : Option RecId) (s : State) :
    touches [.alertQueue, .raiseChecking] s (s.setAlerts { s.alerts with queue := rest, checking := x }) :=
  touches_of_same (fun a ha => by cases a <;> first | rfl | exact fun _ => rfl | simp at ha) rfl

theorem decideRaise_logSound {s : State} (h : LogSound s) (r : RecId) (w : WorkRecord) (t : TextRead) :
    LogSound (decideRaise r (raiseOf w) t s) := by
  rcases decideRaise_cases r (raiseOf w) t s with ⟨status, aux, e⟩ | ⟨p, passes, free, e⟩
  · rw [e]
    exact h.of_touches (finish_touches r status aux s) (by decide)
  · rw [e]
    exact applyRaise_logSound h (raiseOf_targets_sorted w) r passes free

theorem alertDispatch_logSound {k : Kind} {act : RecId → WorkRecord → State → State}
    (acts : ∀ r w u, LogSound u → LogSound (act r w u)) {s : State} (h : LogSound s) : LogSound (alertDispatch k act s) := by
  rcases alertDispatch_cases k act s with e | ⟨r, rest, w, -, e⟩
  · rw [e]; exact h
  · rw [e]
    exact acts r w _ (h.of_touches (setAlerts_queue_touches rest s.alerts.checking s) (by decide))

theorem exec_logSound (c : Instr) (s t : State) (h : LogSound s) (hs : exec c s = .next t) : LogSound t := by
  have touch := touches_of_exec hs
  have reset (regs : Registers) : LogSound (resetKeeping regs s) := by
    have none : activeAlerts (resetKeeping regs s) = [] := rfl
    exact ⟨Nat.zero_le _, List.nodup_nil, nofun, by rw [none]; exact List.nodup_nil, by rw [none]; nofun, fun l f => by
      rw [lane_resetKeeping]; cases f <;> rfl, trivial⟩
  cases c
  case powerOnReset => cases hs; exact reset _
  case softReset => cases hs; exact reset _
  case airPull begun => cases hs; exact airPull_logSound h begun
  case alertRaise =>
    cases hs
    refine alertDispatch_logSound (fun r w u hu => ?_) h
    unfold actAlertRaise
    split
    · exact hu.of_touches (setAlerts_queue_touches u.alerts.queue (some r) u) (by decide)
    · exact decideRaise_logSound hu r w _
  case alertRaiseApply view =>
    cases hs
    unfold alertRaiseApply
    split
    · exact h
    · have checked : LogSound (s.setAlerts { s.alerts with checking := none }) :=
        h.of_touches (setAlerts_queue_touches s.alerts.queue none s) (by decide)
      dsimp only
      split
      · exact checked
      next w _ => exact decideRaise_logSound checked _ w _
  case alertEnd =>
    cases hs
    refine alertDispatch_logSound (fun r w u hu => ?_) h
    have refused (status : Nat) : LogSound (finish r status 0 u) := hu.of_touches (finish_touches r status 0 u) (by decide)
    unfold actAlertEnd
    split
    · exact refused _
    · split
      · exact refused _
      next here =>
        split
        · exact endAlert_logSound hu r here
        · exact refused _
  all_goals exact h.of_touches touch (by dsimp only [touched]; decide)

/-- Settles O59. -/
theorem everyStepKeepsTheRestoreLogTrue : Obligations.EveryStepKeepsTheRestoreLogTrue := fun _ _ sound hs =>
  step_keeps (fun _ _ h => h) exec_logSound sound hs

end Sys2Proof.Machine
end

/-! ## Proofs: the maps kept sound and wide enough (1.4, 1.5, 8.3) -/

section
namespace Sys2Proof.Machine

/-- The maps of a state are sound and have room for its alerts; what `MapsSound` says but for the held plan. -/
def MapsFit (s : State) : Prop :=
  s.maps.active.Sound ∧ (∀ p, s.maps.upcoming = some p → p.map.Sound ∧ p.announce ≤ 16) ∧
  ∀ a ∈ activeAlerts s, s.maps.active.carries a ∧ ∀ p, s.maps.upcoming = some p → p.map.carries a

/-- The announce count of a held plan is in range. -/
def HeldAnnounce (s : State) : Prop := ∀ p c, s.frames.assembler.held = some (p, c) → p.announce ≤ 16

theorem mapsSound_iff (s : State) : MapsSound s ↔ MapsFit s ∧ HeldAnnounce s := by
  unfold MapsSound MapsFit HeldAnnounce
  simp only [and_assoc]

/-- Every active alert of `t` is, in what its raise fixed, one of `s`. -/
def alertsFrom (s t : State) : Prop := ∀ a ∈ activeAlerts t, ∃ b ∈ activeAlerts s, a.sameTerms b

/-- The active map stays, a pending map at most counts down, and no alert is new. -/
def mapsStay (s t : State) : Prop :=
  t.maps.active = s.maps.active ∧
  (∀ p, t.maps.upcoming = some p → ∃ p0, s.maps.upcoming = some p0 ∧ p.map = p0.map ∧ p.announce ≤ max p0.announce 16) ∧
  alertsFrom s t

/-- A plan held was held before. -/
def planKept (s t : State) : Prop :=
  ∀ p c, t.frames.assembler.held = some (p, c) → ∃ c0, s.frames.assembler.held = some (p, c0)

theorem mapsStay.trans {s t u : State} (h : mapsStay s t) (k : mapsStay t u) : mapsStay s u := by
  obtain ⟨active, upcoming, alerts⟩ := h
  obtain ⟨active', upcoming', alerts'⟩ := k
  refine ⟨active'.trans active, fun p hp => ?_, fun a ha => ?_⟩
  · obtain ⟨p1, hp1, map1, le1⟩ := upcoming' p hp
    obtain ⟨p0, hp0, map0, le0⟩ := upcoming p1 hp1
    exact ⟨p0, hp0, map1.trans map0, le1.trans (max_le le0 (le_max_right _ _))⟩
  · obtain ⟨b, hb, i1, i2, i3, i4, i5, i6⟩ := alerts' a ha
    obtain ⟨d, hd, j1, j2, j3, j4, j5, j6⟩ := alerts b hb
    exact ⟨d, hd, i1.trans j1, i2.trans j2, i3.trans j3, i4.trans j4, i5.trans j5, i6.trans j6⟩

theorem mapsStay_of_touches {xs : List Aspect} {s t : State} (touch : touches xs s t)
    (away : ∀ a ∈ [Aspect.active, .upcoming, .places], a ∉ xs := by decide) : mapsStay s t := by
  have upcoming : t.maps.upcoming = s.maps.upcoming := touch.same .upcoming (away _ (by decide))
  have alerts := activeAlerts_congr (touch.same .places (away _ (by decide)))
  exact ⟨touch.same .active (away _ (by decide)), fun p hp => ⟨p, upcoming ▸ hp, rfl, le_max_left _ _⟩,
    fun a ha => ⟨a, alerts ▸ ha, a.sameTerms_refl⟩⟩

theorem carries_of_sameTerms {m : AirMap} {a b : Alert} (same : a.sameTerms b) (h : m.carries b) : m.carries a := by
  obtain ⟨-, take, targets, -, width, -⟩ := same
  intro l hl
  rw [take, width]
  exact h l (targets ▸ hl)

theorem MapsFit.stay {s t : State} (h : MapsFit s) (stay : mapsStay s t) : MapsFit t := by
  obtain ⟨sound, next, fits⟩ := h
  obtain ⟨active, upcoming, alerts⟩ := stay
  refine ⟨active ▸ sound, fun p hp => ?_, fun a ha => ?_⟩
  · obtain ⟨p0, hp0, map, le⟩ := upcoming p hp
    obtain ⟨s0, le0⟩ := next p0 hp0
    exact ⟨map ▸ s0, le.trans (max_le le0 le_rfl)⟩
  · obtain ⟨b, hb, same⟩ := alerts a ha
    obtain ⟨now, later⟩ := fits b hb
    refine ⟨active ▸ carries_of_sameTerms same now, fun p hp => ?_⟩
    obtain ⟨p0, hp0, map, -⟩ := upcoming p hp
    exact map ▸ carries_of_sameTerms same (later p0 hp0)

theorem HeldAnnounce.kept {s t : State} (h : HeldAnnounce s) (plan : planKept s t) : HeldAnnounce t := fun p c held => by
  obtain ⟨c0, held0⟩ := plan p c held
  exact h p c0 held0

theorem planKept_of_assembler {s t : State} (same : t.frames.assembler = s.frames.assembler) : planKept s t :=
  fun _ c held => ⟨c, same ▸ held⟩

/-! ### The switch-over and the beginning of an assembly -/

theorem switchOver_mapsFit {s : State} (h : MapsFit s) : MapsFit (switchOver s) := by
  by_cases due : ∃ p, s.maps.upcoming = some p ∧ p.announce = 0
  · obtain ⟨p, pending, zero⟩ := due
    obtain ⟨-, next, fits⟩ := h
    have switched := switchOver_due pending zero
    have active : (switchOver s).maps.active = p.map := by rw [switched]; rfl
    have upcoming : (switchOver s).maps.upcoming = none := by rw [switched]; rfl
    have alerts := activeAlerts_congr ((switchOver_touches s).same .places)
    unfold MapsFit
    rw [active, upcoming, alerts]
    exact ⟨(next p pending).1, nofun, fun a ha => ⟨(fits a ha).2 p pending, nofun⟩⟩
  · rw [switchOver_waits fun p pending => Nat.pos_of_ne_zero fun zero => due ⟨p, pending, zero⟩]
    exact h

theorem goOnFetching_held {p p' : Plan} {c c' : Carriage} {s : State}
    (h : (goOnFetching p c s).frames.assembler.held = some (p', c')) : p' = p := by
  obtain ⟨c1, e⟩ := goOnFetching_assembler p c s
  rw [e] at h
  exact (congrArg Prod.fst (Option.some.inj h)).symm

theorem capturePlan_announce {s : State} (h : MapsFit s) : (capturePlan s).announce ≤ 16 := by
  change (announceNow s).2 ≤ 16
  unfold announceNow
  split
  next p pending => exact (h.2.1 p pending).2
  next => exact Nat.zero_le _

theorem beginAssembly_mapsSound {s : State} (h : MapsFit s) : MapsSound (beginAssembly s) := by
  have switched := switchOver_mapsFit h
  refine (mapsSound_iff _).mpr ⟨switched.stay (mapsStay_of_touches (goOnFetching_touches _ _ _)), fun p c held => ?_⟩
  rw [goOnFetching_held held]
  exact capturePlan_announce switched

/-! ### Pulls -/

theorem announceSent_upcoming (k : Nat) (s : State) : (announceSent k s).maps.upcoming =
    s.maps.upcoming.map fun p => if 0 < k then { p with announce := k - 1 } else p := by
  cases pending : s.maps.upcoming with
  | none => simp only [announceSent, pending, Option.map_none]
  | some p =>
    simp only [announceSent, pending, Option.map_some]
    split
    · rfl
    · exact pending

theorem announceSent_mapsStay {k : Nat} (le : k ≤ 16) (s : State) : mapsStay s (announceSent k s) := by
  refine ⟨(announceSent_touches k s).same .active, fun p hp => ?_, fun a ha => ?_⟩
  · rw [announceSent_upcoming] at hp
    obtain ⟨p0, hp0, rfl⟩ := Option.map_eq_some_iff.mp hp
    refine ⟨p0, hp0, ?_, ?_⟩
    · split <;> rfl
    · split
      · exact le_max_of_le_right ((Nat.sub_le k 1).trans le)
      · exact le_max_left _ _
  · exact ⟨a, activeAlerts_congr ((announceSent_touches k s).same .places) ▸ ha, a.sameTerms_refl⟩

theorem announceNow_le {s : State} (h : MapsFit s) : (announceNow s).2 ≤ 16 := by
  unfold announceNow
  split
  next p pending => exact (h.2.1 p pending).2
  next => exact Nat.zero_le _

/-- The state of a void frame's send before its announcement is counted down. -/
def voidStart (s : State) : State :=
  let s1 := setAirData (.sending (voidFrame s)) s
  s1.setFrames { s1.frames with counter := s.frames.counter + 1, voidCount := s1.frames.voidCount + 1 }

/-- The send of a void frame after its announcement has been counted down. -/
def voidRest (counter : Word) (s : State) : State :=
  completeSwitched counter (writeFrameMirror counter (s.setLanes (s.lanes.map fun x => { x with text := paceOn x.text })))

theorem sendVoid_eq (s : State) :
    sendVoid s = voidRest s.frames.counter (announceSent (announceNow s).2 (voidStart s)) := rfl

theorem voidStart_touches (s : State) : touches [.airData, .counter, .voidCount] s (voidStart s) :=
  (setAirData_touches _ s).trans (setFrames_counters_touches _ _ _)

theorem voidRest_touches (counter : Word) (s : State) :
    touches ([.laneText, .switched] ++ completionAspects) s (voidRest counter s) := by
  have paced : touches [.laneText] s (s.setLanes (s.lanes.map fun x => { x with text := paceOn x.text })) :=
    touches_setLanes fun l a ha => by
      have : (s.lanes.map fun x => { x with text := paceOn x.text })[l] = { s.lane l with text := paceOn (s.lane l).text } :=
        Vector.getElem_map ..
      rw [this]
      cases a <;> first | rfl | trivial
  exact (paced.trans (zs := [.laneText, .posted]) (touches_postRecord _ _ _)).trans (completeSwitched_touches _ _)

theorem sendVoid_mapsStay {s : State} (h : MapsFit s) : mapsStay s (sendVoid s) := by
  rw [sendVoid_eq]
  exact ((mapsStay_of_touches (voidStart_touches s)).trans (announceSent_mapsStay (announceNow_le h) _)).trans
    (mapsStay_of_touches (voidRest_touches _ _))

theorem commitFrame_mapsStay (p : Plan) (c : Carriage) (s : State) : mapsStay s (commitFrame p c s) := by
  have touch := commitFrame_touches p c s
  have upcoming : (commitFrame p c s).maps.upcoming = s.maps.upcoming := touch.same .upcoming
  refine ⟨touch.same .active, fun p hp => ⟨p, upcoming ▸ hp, rfl, le_max_left _ _⟩, fun a ha => ?_⟩
  obtain ⟨q, hq⟩ := mem_activeAlerts.mp ha
  rw [commitFrame_places] at hq
  obtain ⟨b, hb, same, -⟩ := placeAfterSend_some hq
  exact ⟨b, mem_activeAlerts.mpr ⟨q, hb⟩, same⟩

/-- The state of a frame's send before its commits. -/
def sendStart (p : Plan) (frame : List Byte) (s : State) : State :=
  let s1 := setAirData (.sending frame) s
  announceSent p.announce (s1.setFrames { s1.frames with counter := s1.frames.counter + 1 })

/-- The send of a frame after its commits, before the next assembly; `ends` are the slips of its alerts. -/
def sendRest (p : Plan) (c : Carriage) (ends : List RecId) (s : State) : State :=
  choose (completeSwitched p.counter (completeAt p.counter ends (writeSendMirrors p c s)))

theorem sendFrame_eq (p : Plan) (c : Carriage) (frame : List Byte) (s : State) : sendFrame p c frame s =
    beginAssembly (sendRest p c (alertCompletions p s) (commitFrame p c (sendStart p frame s))) := rfl

theorem sendRest_touches (p : Plan) (c : Carriage) (ends : List RecId) (s : State) :
    touches (.switched :: choiceAspects) s (sendRest p c ends s) :=
  (((writeSendMirrors_touches p c s).trans (zs := completionAspects) (completeAt_touches p.counter ends _)).trans
    (zs := .switched :: completionAspects) (completeSwitched_touches p.counter _)).trans (choose_touches _)

theorem sendStart_mapsStay {p : Plan} (le : p.announce ≤ 16) (frame : List Byte) (s : State) :
    mapsStay s (sendStart p frame s) := by
  have counted (t : State) (n : Word) : touches [.counter] t (t.setFrames { t.frames with counter := n }) :=
    touches_of_same (fun a ha => by cases a <;> first | rfl | exact fun _ => rfl | simp at ha) rfl
  exact ((mapsStay_of_touches (setAirData_touches (.sending frame) s)).trans (mapsStay_of_touches (counted _ _))).trans
    (announceSent_mapsStay le _)

theorem airPull_mapsSound {s : State} (h : MapsSound s) (begun : List LaneId) : MapsSound (airPull begun s) := by
  obtain ⟨fit, held⟩ := (mapsSound_iff s).mp h
  unfold airPull
  split
  · unfold answerPull
    split
    · exact (mapsSound_iff _).mpr ⟨fit.stay (sendVoid_mapsStay fit),
        held.kept (planKept_of_assembler ((sendVoid_touches s).same .assembler))⟩
    · refine beginAssembly_mapsSound (fit.stay ((sendVoid_mapsStay fit).trans ((mapsStay_of_touches
        (dropAssembly_touches begun _)).trans (mapsStay_of_touches (raiseNotice_touches _ _)))))
    next p c frame ready =>
      have le : p.announce ≤ 16 := held p c (by rw [ready]; rfl)
      rw [sendFrame_eq]
      exact beginAssembly_mapsSound (fit.stay (((sendStart_mapsStay le frame s).trans (commitFrame_mapsStay p c _)).trans
        (mapsStay_of_touches (sendRest_touches p c _ _))))
  · exact h

/-! ### The map of a table -/

theorem formMap_sound {es : List RawEntry} (distinct : (es.map RawEntry.lane).Nodup) (inRange : ∀ e ∈ es, e.lane < 24)
    (reserved : (es.map RawEntry.reserved).sum ≤ 1191) (share : (es.map RawEntry.share).sum ≤ 1024)
    (fields : ∀ e ∈ es, e.reserved ≤ 255 ∧ e.share ≤ 1023 ∧ 1 ≤ e.burst ∧ e.burst ≤ 255) : (formMap es).Sound := by
  have cells : ((formMap es).entries.map MapEntry.reserved).sum = (es.map RawEntry.reserved).sum :=
    formMap_sum (fun _ _ _ => rfl) distinct inRange
  refine ⟨?_, cells ▸ reserved, ?_, fun x hx => ?_, by rw [cells]; rfl, by rw [cells]; rfl,
    fun before x after split => placeEntries_start split⟩
  · rw [formMap, placeEntries_lanes]
    exact (finRange_pairwise_lt 24).filter _
  · rw [formMap_sum (f := RawEntry.share) (fun _ _ _ => rfl) distinct inRange]
    exact share
  · obtain ⟨l, k, e, he, rfl⟩ := mem_placeEntries hx
    exact fields e he

/-- The map formed of a table that was read is sound when the table passes its checks. -/
theorem tableMap_sound {s : State} {w : WorkRecord} {table : List Byte} {count : Nat}
    (ok : TableOk s count (tableOf w table)) : (formMap ((tableOf w table).map clampEntry)).Sound := by
  refine formMap_sound (by rw [clamped_lanes]; exact ok.distinct) (fun e he => ?_) (by rw [clamped_reserved]; exact ok.reserved)
    (by rw [clamped_share]; exact ok.share) fun e he => ?_
  · obtain ⟨x, hx, rfl⟩ := List.mem_map.mp he
    exact ok.inRange x hx
  · obtain ⟨x, hx, rfl⟩ := List.mem_map.mp he
    obtain ⟨i, -, rfl⟩ := List.mem_map.mp hx
    have burst := leNat_slice_one table (8 * i + 4)
    exact ⟨leNat_slice_one table (8 * i + 1), min_le_right _ _, le_max_right _ _, max_le burst (by decide)⟩

theorem carries_of_targetFault {m : AirMap} {a : Alert} (h : ∀ l ∈ a.targets, targetFault m a l = none) : m.carries a := by
  intro l hl
  have passes := h l hl
  unfold targetFault at passes
  split at passes
  · cases passes
  next e entry =>
    refine ⟨e, entry, fun audio => not_lt.mp fun narrow => ?_⟩
    rw [if_pos (by simp [audio, narrow])] at passes
    cases passes

theorem mapTableRead_mapsFit {s : State} (h : MapsFit s) (view : HostView) : MapsFit (mapTableRead view s) := by
  have unchecked : mapsStay s (s.setMaps { s.maps with checking := none }) :=
    ⟨rfl, fun p hp => ⟨p, hp, rfl, le_max_left _ _⟩, fun a ha => ⟨a, ha, a.sameTerms_refl⟩⟩
  have refused (r : RecId) (status : Nat) : MapsFit (finishUnstated r status (s.setMaps { s.maps with checking := none })) :=
    h.stay (unchecked.trans (mapsStay_of_touches (finishUnstated_touches r status _)))
  cases checking : s.maps.checking with
  | none =>
    have idle : mapTableRead view s = s := by simp only [mapTableRead, checking]
    rw [idle]
    exact h
  | some r =>
    cases work : s.work r with
    | none =>
      have left : mapTableRead view s = s.setMaps { s.maps with checking := none } := by
        simp only [mapTableRead, checking, work]
      rw [left]
      exact h.stay unchecked
    | some w =>
      cases read : hostRead view (w.argAddr 8) (8 * min (w.arg 0 1) 24) with
      | none => rw [mapTableRead_failed checking work read]; exact refused r _
      | some table =>
        cases fault : tableFault s (w.arg 0 1) (tableOf w table) with
        | some status => rw [mapTableRead_faulty checking work read fault]; exact refused r status
        | none =>
          have ok : TableOk s (w.arg 0 1) (tableOf w table) := by
            by_contra bad
            rw [tableFault_bad bad] at fault
            cases fault
          rw [tableFault_ok ok, alertsFault_eq_none] at fault
          rw [mapTableRead_forms checking work read (by rw [tableFault_ok ok, alertsFault_eq_none]; exact fault)]
          obtain ⟨sound, -, fits⟩ := h
          refine ⟨sound, fun p hp => ?_, fun a ha => ⟨(fits a ha).1, fun p hp => ?_⟩⟩
          · obtain rfl := Option.some.inj hp
            exact ⟨tableMap_sound ok, le_rfl⟩
          · obtain rfl := Option.some.inj hp
            exact carries_of_targetFault (fault a ha)

/-! ### Alerts raised and ended -/

theorem carries_of_passes {s : State} {q : Raise} {t : TextRead} (r : RecId) (passes : raiseFault s q t = none) :
    s.maps.active.carries (newAlert s r q t) ∧ ∀ p, s.maps.upcoming = some p → p.map.carries (newAlert s r q t) := by
  have room : RaiseRoom s q := raiseRoom_of_raiseFault passes
  have target {l : LaneId} (hl : l ∈ q.targets) : ¬ targetUnbound s l ∧ ¬ targetTooWide s q l := by
    have none := List.findSome?_eq_none_iff.mp room.maps l hl
    exact raiseTargetFault_eq_none (Option.map_eq_none_iff.mp none)
  have width (audio : q.take.audio = true) : (newAlert s r q t).width = q.width := if_pos audio
  have wide {m : AirMap} {e : MapEntry} {l : LaneId} (entry : m.entry? l = some e) (fits : ¬ targetNarrow q m l) :
      (newAlert s r q t).take.audio = true → (newAlert s r q t).width ≤ e.reserved := fun audio => by
    rw [width audio]
    exact not_lt.mp fun narrow => fits ⟨audio, e, entry, narrow⟩
  refine ⟨fun l hl => ?_, fun p pending l hl => ?_⟩
  · have fit := List.find?_eq_none.mp room.lanes l hl
    simp only [Bool.or_eq_true, decide_eq_true_eq, Bool.not_eq_true', not_or] at fit
    obtain ⟨e, entry⟩ : ∃ e, s.maps.active.entry? l = some e :=
      Option.isSome_iff_exists.mp (eq_true_of_ne_false fit.2)
    obtain ⟨bound, fits⟩ := target hl
    exact ⟨e, entry, wide entry fun narrow => fits ⟨bound, .inl narrow⟩⟩
  · obtain ⟨bound, fits⟩ := target hl
    cases entry : p.map.entry? l with
    | none => exact absurd ⟨p, pending, entry⟩ bound
    | some e => exact ⟨e, rfl, wide entry fun narrow => fits ⟨bound, .inr ⟨p, pending, narrow⟩⟩⟩

theorem applyRaise_places {q : Raise} (nodup : q.targets.Nodup) (r : RecId) (t : TextRead) (p : PlaceId) (s : State) :
    (applyRaise r q t p s).alerts.places = s.alerts.places.set p (some (newAlert s r q t)) :=
  congrArg AlertControl.places (applyRaise_alerts nodup r t p s)

theorem applyRaise_mapsFit {s : State} (h : MapsFit s) {q : Raise} (nodup : q.targets.Nodup) (r : RecId) {t : TextRead}
    (p : PlaceId) (passes : raiseFault s q t = none) : MapsFit (applyRaise r q t p s) := by
  have touch := applyRaise_touches r q t p s
  have active : (applyRaise r q t p s).maps.active = s.maps.active := touch.same .active
  have upcoming : (applyRaise r q t p s).maps.upcoming = s.maps.upcoming := touch.same .upcoming
  obtain ⟨sound, next, fits⟩ := h
  refine ⟨active ▸ sound, upcoming ▸ next, fun a ha => ?_⟩
  rw [active, upcoming]
  obtain ⟨k, hk⟩ := mem_activeAlerts.mp ha
  rw [applyRaise_places nodup, getElem_set_place] at hk
  split at hk
  · cases hk
    exact carries_of_passes r passes
  · exact fits a (mem_activeAlerts.mpr ⟨k, hk⟩)

theorem decideRaise_mapsFit {s : State} (h : MapsFit s) (r : RecId) (w : WorkRecord) (t : TextRead) :
    MapsFit (decideRaise r (raiseOf w) t s) := by
  rcases decideRaise_cases r (raiseOf w) t s with ⟨status, aux, e⟩ | ⟨p, passes, -, e⟩
  · rw [e]
    exact h.stay (mapsStay_of_touches (finish_touches r status aux s))
  · rw [e]
    exact applyRaise_mapsFit h ((raiseOf_targets_sorted w).imp fun lt => ne_of_lt lt) r p passes

theorem endAlert_mapsStay {s : State} (r : RecId) {p : PlaceId} {a : Alert} (here : s.alerts.places[p] = some a) :
    mapsStay s (endAlert r p a s) := by
  refine ⟨rfl, fun p hp => ⟨p, hp, rfl, le_max_left _ _⟩, fun b hb => ?_⟩
  obtain ⟨k, hk⟩ := mem_activeAlerts.mp hb
  have places : (endAlert r p a s).alerts.places =
    s.alerts.places.set p (some { a with state := .ending, endRecord := some r }) := rfl
  rw [places, getElem_set_place] at hk
  split at hk
  · cases hk
    exact ⟨a, mem_activeAlerts.mpr ⟨p, here⟩, rfl, rfl, rfl, rfl, rfl, rfl⟩
  · exact ⟨b, mem_activeAlerts.mpr ⟨k, hk⟩, b.sameTerms_refl⟩

theorem actAlertEnd_mapsStay (r : RecId) (w : WorkRecord) (s : State) : mapsStay s (actAlertEnd r w s) := by
  have refused (status : Nat) : mapsStay s (finish r status 0 s) := mapsStay_of_touches (finish_touches r status 0 s)
  unfold actAlertEnd
  split
  · exact refused _
  · split
    · exact refused _
    next here =>
      split
      · exact endAlert_mapsStay r here
      · exact refused _

theorem alertDispatch_mapsFit {k : Kind} {act : RecId → WorkRecord → State → State}
    (acts : ∀ r w u, MapsFit u → MapsFit (act r w u)) {s : State} (h : MapsFit s) : MapsFit (alertDispatch k act s) := by
  rcases alertDispatch_cases k act s with e | ⟨r, rest, w, -, e⟩
  · rw [e]; exact h
  · rw [e]
    exact acts r w _ (h.stay (mapsStay_of_touches (setAlerts_queue_touches rest s.alerts.checking s)))

/-! ### Every step -/

theorem laneFetch_planKept (l : LaneId) (h : HostView) (s : State) : planKept s (laneFetch l h s) := by
  unfold laneFetch
  split
  · exact planKept_of_assembler ((straggle_touches _ h s).same .assembler)
  split
  next p c building =>
    split
    · intro p' c' held
      have same : p' = p := by
        unfold assemblyFetch at held
        dsimp only at held
        split at held <;> exact goOnFetching_held held
      exact ⟨c, by rw [building, same]; rfl⟩
    · exact planKept_of_assembler rfl
  · exact planKept_of_assembler rfl
  · exact planKept_of_assembler rfl

theorem pictureDataRead_planKept (l : LaneId) (s : State) : planKept s (pictureDataRead l s) := by
  unfold pictureDataRead
  split
  next p c building =>
    split
    · intro p' c' held
      cases held
      exact ⟨c, by rw [building]; rfl⟩
    · exact planKept_of_assembler rfl
  · exact planKept_of_assembler rfl
  · exact planKept_of_assembler rfl

theorem assemblyComplete_planKept (s : State) : planKept s (assemblyComplete s) := by
  unfold assemblyComplete
  split
  next p c building =>
    split
    · intro p' c' held
      cases held
      exact ⟨c, by rw [building]; rfl⟩
    · exact planKept_of_assembler rfl
  · exact planKept_of_assembler rfl
  · exact planKept_of_assembler rfl

theorem writeRunctl_mapsSound {s : State} (h : MapsSound s) (run : Bool) (ms : Byte) (begun : List LaneId) :
    MapsSound (writeRunctl run ms begun s) := by
  obtain ⟨fit, held⟩ := (mapsSound_iff s).mp h
  have written := mapsStay_of_touches (setRunctl_touches run ms s)
  unfold writeRunctl
  dsimp only
  split
  · have retimed : touches [.timer] (s.setRegs { s.regs with run := run, sweepMs := ms })
        (retime s.regs.sweepMs (s.setRegs { s.regs with run := run, sweepMs := ms })) :=
      touches_ite (fun _ => setTimer_touches _ _) fun _ => touches_refl _ _
    exact (mapsSound_iff _).mpr ⟨fit.stay (written.trans (mapsStay_of_touches retimed)),
      held.kept (planKept_of_assembler (retimed.same .assembler))⟩
  split
  · exact beginAssembly_mapsSound (fit.stay (written.trans (((mapsStay_of_touches (firstRun_touches _)).trans
      (mapsStay_of_touches (owedSweep_touches _))).trans (mapsStay_of_touches (setTimer_touches _ _)))))
  · refine (mapsSound_iff _).mpr ⟨fit.stay (written.trans (mapsStay_of_touches (runBecomesClear_touches begun _))),
      fun p c kept => ?_⟩
    rw [runBecomesClear, dropAssembly_assembler] at kept
    cases kept

/-- The map of no entries. -/
theorem emptyMap_sound : AirMap.Sound ⟨[], 9, 1191⟩ :=
  ⟨List.Pairwise.nil, by decide, by decide, nofun, rfl, rfl, fun before x after e => by simp at e⟩

theorem exec_mapsSound (c : Instr) (s t : State) (h : MapsSound s) (hs : exec c s = .next t) : MapsSound t := by
  have touch := touches_of_exec hs
  obtain ⟨fit, held⟩ := (mapsSound_iff s).mp h
  have reset (regs : Registers) : MapsSound (resetKeeping regs s) := by
    have none : activeAlerts (resetKeeping regs s) = [] := rfl
    exact ⟨emptyMap_sound, nofun, by rw [none]; nofun, nofun⟩
  have kept (fits : MapsFit t) (away : Aspect.assembler ∉ touched c := by dsimp only [touched]; decide) : MapsSound t :=
    (mapsSound_iff t).mpr ⟨fits, held.kept (planKept_of_assembler (touch.same .assembler away))⟩
  cases c
  case powerOnReset => cases hs; exact reset _
  case softReset => cases hs; exact reset _
  case runSet => cases hs; exact writeRunctl_mapsSound h _ _ _
  case runClear => cases hs; exact writeRunctl_mapsSound h _ _ _
  case sweepMsWrite => cases hs; exact writeRunctl_mapsSound h _ _ _
  case airPull begun => cases hs; exact airPull_mapsSound h begun
  case mapTableRead view => exact kept (by cases hs; exact mapTableRead_mapsFit fit view)
  case laneFetch l view =>
    cases hs
    exact (mapsSound_iff _).mpr ⟨fit.stay (mapsStay_of_touches touch (by dsimp only [touched]; decide)),
      held.kept (laneFetch_planKept l view s)⟩
  case pictureDataRead l =>
    cases hs
    exact (mapsSound_iff _).mpr ⟨fit.stay (mapsStay_of_touches touch (by dsimp only [touched]; decide)),
      held.kept (pictureDataRead_planKept l s)⟩
  case assemblyComplete =>
    cases hs
    exact (mapsSound_iff _).mpr ⟨fit.stay (mapsStay_of_touches touch (by dsimp only [touched]; decide)),
      held.kept (assemblyComplete_planKept s)⟩
  case alertRaise =>
    refine kept ?_
    cases hs
    refine alertDispatch_mapsFit (fun r w u hu => ?_) fit
    unfold actAlertRaise
    split
    · exact hu.stay (mapsStay_of_touches (setAlerts_queue_touches u.alerts.queue (some r) u))
    · exact decideRaise_mapsFit hu r w _
  case alertRaiseApply view =>
    refine kept ?_
    cases hs
    unfold alertRaiseApply
    split
    · exact fit
    · have checked := fit.stay (mapsStay_of_touches (setAlerts_queue_touches s.alerts.queue none s))
      dsimp only
      split
      · exact checked
      next w _ => exact decideRaise_mapsFit checked _ w _
  case alertEnd =>
    refine kept ?_
    cases hs
    exact alertDispatch_mapsFit (fun r w u hu => hu.stay (actAlertEnd_mapsStay r w u)) fit
  all_goals exact kept (fit.stay (mapsStay_of_touches touch (by dsimp only [touched]; decide)))

/-- Settles O57. -/
theorem everyStepKeepsTheMapsSound : Obligations.EveryStepKeepsTheMapsSound := fun _ _ sound hs =>
  step_keeps (fun _ _ h => h) exec_mapsSound sound hs

end Sys2Proof.Machine
end

/-! ## Proofs: the state after power-on reset -/

section
namespace Sys2Proof.Machine

theorem activeAlerts_reset : activeAlerts State.reset = [] := rfl

theorem lane_reset (l : LaneId) : State.reset.lane l = .fresh := lane_resetKeeping State.reset.regs State.reset l

theorem slot_reset (i : SlotId) : State.reset.slot i = .vacant := slot_resetKeeping State.reset.regs State.reset i

theorem work_reset (r : RecId) : State.reset.work r = none := work_resetKeeping State.reset.regs State.reset r

theorem usersSound_reset : UsersSound State.reset := by
  refine ⟨fun i => ?_, rfl, fun l _ => ?_, fun _ => ⟨slot_reset, rfl, rfl, rfl, rfl⟩⟩
  · have fresh : ∀ x ∈ State.reset.lanes.toList, (carouselUses x.carousel).count i = 0 := fun x hx => by
      obtain ⟨k, hk, rfl⟩ := List.mem_iff_getElem.mp hx
      have lane : State.reset.lanes.toList[k] = .fresh := by
        rw [Vector.getElem_toList]
        exact lane_reset ⟨k, by simpa using hk⟩
      rw [lane]
      rfl
    rw [slot_reset, activeAlerts_reset, List.sum_eq_zero_iff_forall_eq_nat.mpr]
    · rfl
    · intro n hn
      obtain ⟨x, hx, rfl⟩ := List.mem_map.mp hn
      exact fresh x hx
  · rw [lane_reset]
    exact ⟨rfl, rfl⟩

/-- Settles O60. -/
theorem resetStateIsSound : Obligations.ResetStateIsSound where
  run := ⟨by decide, fun _ => rfl⟩
  link := nofun
  anchor := rfl
  store := rfl
  work := ⟨List.nodup_nil, nofun, nofun, List.nodup_nil, nofun, nofun⟩
  maps := ⟨emptyMap_sound, nofun, by rw [activeAlerts_reset]; nofun, nofun⟩
  credit := ⟨fun l => by rw [lane_reset]; exact Nat.zero_le _, nofun⟩
  log := ⟨Nat.zero_le _, List.nodup_nil, nofun, List.nodup_nil, by rw [activeAlerts_reset]; nofun, fun l f => by
    rw [lane_reset]; cases f <;> rfl, trivial⟩
  users := usersSound_reset
  frame := nofun

end Sys2Proof.Machine
end

/-! ## Proofs: jobs that enter the store's queue, and the refusals of the picture slips (6.3, 6.4) -/

section
namespace Sys2Proof.Machine

/-! ### What the store's choice does -/

theorem choose_busy {s : State} (h : s.store.running ≠ none) : choose s = s := by
  obtain ⟨x, hx⟩ := Option.ne_none_iff_exists'.mp h
  simp only [choose, storeChoose, hx]

theorem choose_nothing {s : State} (h : storeIdle s) : choose s = s := by
  obtain ⟨idle, recovery, jobs⟩ := h
  have noSlot : s.store.recovery.find? (recoveryReady s) = none :=
    List.find?_eq_none.mpr fun e he => by rw [recovery e he]; decide
  have noJob : s.store.jobs.find? (eligible s) = none := List.find?_eq_none.mpr fun j hj => by rw [jobs j hj]; decide
  simp only [choose, storeChoose, idle, noSlot, noJob]

theorem choose_starts {s : State} {j : Job} {op : Operation} (idle : s.store.running = none)
    (recovery : s.store.recovery.find? (recoveryReady s) = none) (job : s.store.jobs.find? (eligible s) = some j)
    (first : j.firstOperation = some op) : choose s = startJob j.record op s := by
  unfold Job.firstOperation at first
  simp only [choose, storeChoose, idle, recovery, job]
  split at first <;> cases first <;> simp only [*]

/-- A write job with nothing to write ends at the choice, and the store chooses again. -/
theorem choose_finishes {s : State} {j : Job} (idle : s.store.running = none)
    (recovery : s.store.recovery.find? (recoveryReady s) = none) (job : s.store.jobs.find? (eligible s) = some j)
    (work : j.work = .programs []) : choose s = storeChoose s.store.jobs.length (finishWrite j s) := by
  simp only [choose, storeChoose, idle, recovery, job, work]

theorem storeChoose_nothing {s : State} (h : storeIdle s) (n : Nat) : storeChoose n s = s := by
  obtain ⟨idle, recovery, jobs⟩ := h
  have noSlot : s.store.recovery.find? (recoveryReady s) = none :=
    List.find?_eq_none.mpr fun e he => by rw [recovery e he]; decide
  have noJob : s.store.jobs.find? (eligible s) = none := List.find?_eq_none.mpr fun j hj => by rw [jobs j hj]; decide
  cases n <;> simp only [storeChoose, idle, noSlot, noJob]

theorem eligible_congr {s u : State} (hold : u.store.hold = s.store.hold) : eligible u = eligible s := by
  funext j
  simp only [eligible, bankHeld, hold]

theorem recoveryReady_congr {s u : State} (hold : u.store.hold = s.store.hold) : recoveryReady u = recoveryReady s := by
  funext e
  simp only [recoveryReady, bankHeld, hold]

/-! ### A job enters the queue -/

/-- What a slip's acceptance may change before its job enters the queue. -/
structure AcceptedFrom (s u : State) (writes : List Posted) : Prop where
  jobs     : u.store.jobs = s.store.jobs
  running  : u.store.running = s.store.running
  recovery : u.store.recovery = s.store.recovery
  hold     : u.store.hold = s.store.hold
  posted   : u.posted = s.posted ++ writes
  reader   : u.reader = s.reader
  regs     : u.regs = s.regs

/-- On an idle store the queue with a job behind it has no other job that may run. -/
theorem find?_enterJob {s u : State} {writes : List Posted} (h : AcceptedFrom s u writes) (idle : storeIdle s) (j : Job) :
    (enterJob j u).store.jobs.find? (eligible (enterJob j u)) = if eligible s j = true then some j else none := by
  have others : s.store.jobs.find? (eligible s) = none :=
    List.find?_eq_none.mpr fun k hk => by rw [idle.2.2 k hk]; decide
  rw [eligible_congr (show (enterJob j u).store.hold = s.store.hold from h.hold),
    show (enterJob j u).store.jobs = s.store.jobs ++ [j] by rw [← h.jobs]; rfl, List.find?_append, others, Option.none_or]
  by_cases e : eligible s j = true <;> simp [e]

theorem enterJob_idle {s u : State} {writes : List Posted} (h : AcceptedFrom s u writes) (idle : storeIdle s) {j : Job}
    (waits : eligible s j = false) : storeIdle (enterJob j u) := by
  obtain ⟨running, recovery, jobs⟩ := idle
  refine ⟨h.running.trans running, fun e he => ?_, fun k hk => ?_⟩
  · rw [recoveryReady_congr (show (enterJob j u).store.hold = s.store.hold from h.hold)]
    exact recovery e (h.recovery ▸ he)
  · rw [eligible_congr (show (enterJob j u).store.hold = s.store.hold from h.hold)]
    have hk : k ∈ u.store.jobs ++ [j] := hk
    rw [h.jobs] at hk
    rcases List.mem_append.mp hk with hk | hk
    · exact jobs k hk
    · rw [List.mem_singleton.mp hk]
      exact waits

theorem enterJob_recovery {s u : State} {writes : List Posted} (h : AcceptedFrom s u writes) (idle : storeIdle s) (j : Job) :
    (enterJob j u).store.recovery.find? (recoveryReady (enterJob j u)) = none := by
  rw [recoveryReady_congr (show (enterJob j u).store.hold = s.store.hold from h.hold)]
  exact List.find?_eq_none.mpr fun e he => by
    rw [idle.2.1 e (show e ∈ s.store.recovery from h.recovery ▸ he)]
    decide

/-- A job that may run once it has entered: what becomes of it when the store chooses (R110, R111). -/
theorem jobEntered_choose {s u : State} {writes : List Posted} (h : AcceptedFrom s u writes) {j : Job}
    (state : j.state = .queued ∨ j.state = .waiting) : jobEntered s (choose (enterJob j u)) j writes := by
  have entered : (enterJob j u).store.jobs = s.store.jobs ++ [j] := congrArg (· ++ [j]) h.jobs
  refine ⟨fun busy => ?_, fun idle others op first => ?_⟩
  · have running : (enterJob j u).store.running ≠ none := fun e => by
      have e : u.store.running = none := e
      rw [← h.running, e] at busy
      cases busy
    rw [choose_busy running]
    exact ⟨entered, h.running, h.posted, h.reader, h.regs⟩
  · have may : eligible s j = true ↔ ¬ (bankHeld s j.bank = true ∨ j.state = .waiting) := by
      unfold eligible
      rcases state with e | e <;> cases bankHeld s j.bank <;> simp [e]
    by_cases waits : bankHeld s j.bank = true ∨ j.state = .waiting
    · rw [choose_nothing (enterJob_idle h idle (eq_false_of_ne_true fun e => may.mp e waits)), if_pos waits]
      exact ⟨⟨entered, h.running.trans idle.1⟩, h.posted, h.reader, h.regs⟩
    · rw [choose_starts (s := enterJob j u) (h.running.trans idle.1) (enterJob_recovery h idle j)
        ((find?_enterJob h idle j).trans (if_pos (may.mpr waits))) first, if_neg waits]
      refine ⟨⟨?_, rfl⟩, h.posted, h.reader, h.regs⟩
      change (enterJob j u).store.jobs.map (fun k => if k.record = j.record then { k with state := .running } else k) = _
      rw [entered, List.map_append]
      congr 1
      · exact (List.map_congr_left fun k hk => if_neg (others k hk)).trans (List.map_id _)
      · simp

/-! ### The record of a slot -/

theorem recordSlot_slot (i k : SlotId) (d : DirRecord) (s : State) :
    (recordSlot i d s).slot k = if k = i then { s.slot i with record := d } else s.slot k := by
  rw [State.slot, recordSlot, writeDirectoryMirror_store]
  simp only [State.setStore_store, Fin.getElem_fin, Vector.getElem_set, State.slot]
  by_cases h : k = i
  · subst h; simp
  · rw [if_neg h, if_neg fun e => h (Fin.ext e.symm)]

theorem recordSlot_store (i : SlotId) (d : DirRecord) (s : State) : (recordSlot i d s).store =
    { s.store with stored := s.store.stored.set i d, slots := s.store.slots.set i { s.slot i with record := d } } := by
  rw [recordSlot, writeDirectoryMirror_store]
  rfl

theorem slotMirrorWrite_congr {s t : State} {i : SlotId} (ran : t.ran = s.ran) (slot : t.slot i = s.slot i)
    (anchor : t.regs.anchor = s.regs.anchor) : slotMirrorWrite t i = slotMirrorWrite s i := by
  simp only [slotMirrorWrite, ran, slot, anchor]

theorem writeDirectoryMirror_posted (i : SlotId) (s : State) :
    (writeDirectoryMirror i s).posted = s.posted ++ slotMirrorWrite s i := by
  unfold writeDirectoryMirror slotMirrorWrite
  split
  · rfl
  · simp

theorem recordSlot_posted (i : SlotId) (d : DirRecord) (s : State) :
    (recordSlot i d s).posted = s.posted ++ slotMirrorWrite (recordSlot i d s) i := by
  have same : slotMirrorWrite (recordSlot i d s) i = slotMirrorWrite (s.setStore { s.store with
      stored := s.store.stored.set i d, slots := s.store.slots.set i { s.slot i with record := d } }) i :=
    slotMirrorWrite_congr (by simp) (by rw [State.slot, recordSlot_store]; rfl) (by simp)
  rw [same]
  exact writeDirectoryMirror_posted _ _

/-- The state of a picture slip's dispatch: its slip off the queue. -/
def picState (rest : List RecId) (s : State) : State := s.setStore { s.store with queue := rest }

theorem picState_changesOnly (rest : List RecId) (s : State) : changesOnly [.store] s (picState rest s) := fun p hp => by
  cases p <;> first | rfl | simp at hp

theorem picState_accepted (rest : List RecId) (s : State) : AcceptedFrom s (picState rest s) [] :=
  ⟨rfl, rfl, rfl, rfl, (List.append_nil _).symm, rfl, rfl⟩

theorem recordSlot_accepted (rest : List RecId) (i : SlotId) (d : DirRecord) (s : State) :
    AcceptedFrom s (recordSlot i d (picState rest s)) (slotMirrorWrite (recordSlot i d (picState rest s)) i) where
  jobs := by rw [recordSlot_store]; rfl
  running := by rw [recordSlot_store]; rfl
  recovery := by rw [recordSlot_store]; rfl
  hold := by rw [recordSlot_store]; rfl
  posted := recordSlot_posted i d (picState rest s)
  reader := by rw [recordSlot_reader]; rfl
  regs := by rw [recordSlot_regs]; rfl

/-- A slot recorded and its job entered, as the statements tell it. -/
theorem enterRecorded_spec (rest : List RecId) (i : SlotId) (d : DirRecord) (s : State) {j : Job}
    (state : j.state = .queued ∨ j.state = .waiting) :
    let t := choose (enterJob j (recordSlot i d (picState rest s)))
    slotRecorded s t i d ∧ (t.slot i).users = (s.slot i).users ∧ jobEntered s t j (slotMirrorWrite t i) ∧
      t.store.queue = rest ∧ t.store.hold = s.store.hold ∧ t.store.recovery = s.store.recovery := by
  intro t
  let u := recordSlot i d (picState rest s)
  have slot (k : SlotId) : t.slot k = if k = i then { s.slot i with record := d } else s.slot k :=
    (choose_slot _ k).trans (recordSlot_slot i k d (picState rest s))
  have touch : touches choiceAspects u t := (enterJob_touches j u).trans (choose_touches _)
  have mirror : slotMirrorWrite t i = slotMirrorWrite u i :=
    slotMirrorWrite_congr (touch.same .ran) (choose_slot _ i) (touch.same .anchor)
  refine ⟨⟨by rw [slot, if_pos rfl], fun k hk => by rw [slot, if_neg hk], ?_⟩, by rw [slot, if_pos rfl], ?_, ?_, ?_, ?_⟩
  · exact (touch.same .stored).trans (by rw [recordSlot_store]; rfl)
  · rw [mirror]
    exact jobEntered_choose (recordSlot_accepted rest i d s) state
  · exact (touch.same .storeQueue).trans (by rw [recordSlot_store]; rfl)
  · exact (touch.same .hold).trans (by rw [recordSlot_store]; rfl)
  · exact (touch.same .recovery).trans (by rw [recordSlot_store]; rfl)

/-! ### Runs of blocks -/

theorem runFree_iff (s : State) (first count : Nat) : runFree s first count = true ↔
    ∀ (i : SlotId) (e : Extent), (s.slot i).record.extent = some e →
      first + count ≤ e.first ∨ e.first + e.count ≤ first := by
  have each (x : Slot) : (match x.record.extent with
      | some e => decide (first + count ≤ e.first) || decide (e.first + e.count ≤ first)
      | none => true) = true ↔
      ∀ e, x.record.extent = some e → first + count ≤ e.first ∨ e.first + e.count ≤ first := by
    cases x.record.extent <;> simp
  unfold runFree
  rw [List.all_eq_true]
  constructor
  · intro all i
    have member : s.slot i ∈ s.store.slots.toList := by simp [State.slot]
    exact (each _).mp (all _ member)
  · intro all x hx
    obtain ⟨k, hk, rfl⟩ := List.mem_iff_getElem.mp hx
    have lt : k < 64 := by simpa using hk
    have here : s.store.slots.toList[k] = s.slot ⟨k, lt⟩ := by simp [State.slot]
    rw [here]
    exact (each _).mpr (all ⟨k, lt⟩)

theorem runIn_eq_some {s : State} {lo hi count f : Nat} (pos : 0 < count) : runIn s lo hi count = some f ↔
    (lo ≤ f ∧ f + count ≤ hi ∧ runFree s f count = true) ∧
      ∀ g, lo ≤ g → g < f → ¬ (g + count ≤ hi ∧ runFree s g count = true) := by
  unfold runIn
  rw [List.find?_range'_eq_some]
  simp only [Bool.and_eq_true, decide_eq_true_eq, List.mem_range', Bool.not_eq_true', Bool.and_eq_false_iff,
    decide_eq_false_iff_not, not_and_or, Bool.not_eq_true]
  constructor
  · rintro ⟨⟨ends, free⟩, ⟨k, -, rfl⟩, lower⟩
    exact ⟨⟨by omega, ends, free⟩, lower⟩
  · rintro ⟨⟨low, ends, free⟩, lower⟩
    exact ⟨⟨ends, free⟩, ⟨f - lo, by omega, by omega⟩, lower⟩

theorem runIn_eq_none {s : State} {lo hi count : Nat} (pos : 0 < count)
    (h : ∀ g, lo ≤ g → ¬ (g + count ≤ hi ∧ runFree s g count = true)) : runIn s lo hi count = none := by
  cases found : runIn s lo hi count with
  | none => rfl
  | some f =>
    obtain ⟨⟨low, fits⟩, -⟩ := (runIn_eq_some pos).mp found
    exact absurd fits (h f low)

theorem runFits_iff (s : State) (alertFlag : Bool) (first count : Nat) : runFits s alertFlag first count ↔
    (if alertFlag then first + count ≤ 64
      else (64 ≤ first ∧ first + count ≤ 512) ∨ (512 ≤ first ∧ first + count ≤ 1016)) ∧ runFree s first count = true := by
  rw [runFree_iff]
  rfl

theorem findRun_lowest {s : State} {alertFlag : Bool} {first count : Nat} (pos : 0 < count)
    (fits : runFits s alertFlag first count) (lower : ∀ f < first, ¬ runFits s alertFlag f count) :
    findRun s alertFlag count = some first := by
  simp only [runFits_iff] at fits lower
  obtain ⟨region, free⟩ := fits
  cases alertFlag with
  | true =>
    refine (if_pos rfl).trans ((runIn_eq_some pos).mpr ⟨⟨Nat.zero_le _, region, free⟩, fun g _ lt fits => ?_⟩)
    exact lower g lt ⟨(if_pos rfl).mpr fits.1, fits.2⟩
  | false =>
    have below {g : Nat} (lt : g < first) (inRegion : (64 ≤ g ∧ g + count ≤ 512) ∨ (512 ≤ g ∧ g + count ≤ 1016)) :
        ¬ runFree s g count = true := fun free => lower g lt ⟨inRegion, free⟩
    refine (if_neg (by decide)).trans ?_
    rcases region with ⟨low, ends⟩ | ⟨low, ends⟩
    · have found : runIn s 64 512 count = some first := (runIn_eq_some pos).mpr
        ⟨⟨low, ends, free⟩, fun g hg lt fits => below lt (.inl ⟨hg, fits.1⟩) fits.2⟩
      rw [found]
      rfl
    · have none : runIn s 64 512 count = none := runIn_eq_none pos fun g hg fits =>
        below (by omega) (.inl ⟨hg, fits.1⟩) fits.2
      rw [none]
      exact (runIn_eq_some pos).mpr ⟨⟨low, ends, free⟩, fun g hg lt fits => below lt (.inr ⟨hg, fits.1⟩) fits.2⟩

theorem findRun_none {s : State} {alertFlag : Bool} {count : Nat} (pos : 0 < count)
    (full : ∀ f, ¬ runFits s alertFlag f count) : findRun s alertFlag count = none := by
  simp only [runFits_iff] at full
  cases alertFlag with
  | true => exact (if_pos rfl).trans (runIn_eq_none pos fun g _ fits => full g ⟨(if_pos rfl).mpr fits.1, fits.2⟩)
  | false =>
    have low : runIn s 64 512 count = none := runIn_eq_none pos fun g hg fits => full g ⟨.inl ⟨hg, fits.1⟩, fits.2⟩
    have high : runIn s 512 1016 count = none := runIn_eq_none pos fun g hg fits => full g ⟨.inr ⟨hg, fits.1⟩, fits.2⟩
    refine (if_neg (by decide)).trans ?_
    rw [low]
    exact high

/-! ### The refusals -/

theorem slot_of_arg {w : WorkRecord} {i : SlotId} (h : w.arg 0 1 = i.val) : w.slot = some i := by
  rw [WorkRecord.slot, h, slotOf_val]

theorem slot_above {w : WorkRecord} (h : 63 < w.arg 0 1) : w.slot = none := dif_neg (by omega)

theorem anyAlert_protects {s : State} {flag : Bool} : (flag && anyAlert s) = true ↔ flag = true ∧ activeAlerts s ≠ [] := by
  simp [anyAlert]

theorem alertPicture_iff (s : State) (i : SlotId) :
    alertPicture s i = true ↔ ∃ a ∈ activeAlerts s, ∃ v, a.picture = some (i, v) := by
  unfold alertPicture
  rw [List.any_eq_true]
  refine exists_congr fun a => and_congr_right fun _ => ?_
  cases picture : a.picture with
  | none => simp
  | some x =>
    constructor
    · exact fun same => ⟨x.2, congrArg some (Prod.ext (of_decide_eq_true same) rfl)⟩
    · rintro ⟨v, e⟩
      exact decide_eq_true (congrArg Prod.fst (Option.some.inj e))

theorem actPicOpen_noSlot {s : State} {w : WorkRecord} (r : RecId) (above : w.slot = none) :
    actPicOpen r w s = finish r statusBadArg 0 s := by simp only [actPicOpen, above]

theorem actPicWrite_noSlot {s : State} {w : WorkRecord} (r : RecId) (above : w.slot = none) :
    actPicWrite r w s = finish r statusBadArg 0 s := by simp only [actPicWrite, above]

theorem actPicSeal_noSlot {s : State} {w : WorkRecord} (r : RecId) (above : w.slot = none) :
    actPicSeal r w s = finish r statusBadArg 0 s := by simp only [actPicSeal, above]

theorem actPicDrop_noSlot {s : State} {w : WorkRecord} (r : RecId) (above : w.slot = none) :
    actPicDrop r w s = finish r statusBadArg 0 s := by simp only [actPicDrop, above]

section
variable {s : State} {w : WorkRecord} {i : SlotId} (r : RecId) (slot : w.slot = some i)
include slot

theorem actPicOpen_used (used : (s.slot i).record.state ≠ .empty) : actPicOpen r w s = finish r statusSlotState 0 s := by
  simp only [actPicOpen, slot, used, ne_eq, not_false_eq_true, if_true]

theorem actPicOpen_badLength (empty : (s.slot i).record.state = .empty) (bad : w.arg 4 4 = 0 ∨ 262144 < w.arg 4 4) :
    actPicOpen r w s = finish r statusBadArg 0 s := by
  simp only [actPicOpen, slot, empty, bad, ne_eq, not_true, if_false, if_true]

theorem actPicOpen_protected (empty : (s.slot i).record.state = .empty) (good : ¬ (w.arg 4 4 = 0 ∨ 262144 < w.arg 4 4))
    (alert : ((w.argByte 1).getLsbD 0 && anyAlert s) = true) : actPicOpen r w s = finish r statusProtected 0 s := by
  simp only [actPicOpen, slot, empty, good, alert, ne_eq, not_true, if_false, if_true]

theorem actPicOpen_noSpace (empty : (s.slot i).record.state = .empty) (good : ¬ (w.arg 4 4 = 0 ∨ 262144 < w.arg 4 4))
    (free : ¬ ((w.argByte 1).getLsbD 0 && anyAlert s) = true)
    (none : findRun s ((w.argByte 1).getLsbD 0) (ceilDiv (w.arg 4 4) Config.blockBytes) = none) :
    actPicOpen r w s = finish r statusNoSpace 0 s := by
  simp only [actPicOpen, slot, empty, good, free, none, ne_eq, not_true, Bool.false_eq_true, if_false]

theorem actPicOpen_opens (empty : (s.slot i).record.state = .empty) (good : ¬ (w.arg 4 4 = 0 ∨ 262144 < w.arg 4 4))
    (free : ¬ ((w.argByte 1).getLsbD 0 && anyAlert s) = true) {first : Nat}
    (run : findRun s ((w.argByte 1).getLsbD 0) (ceilDiv (w.arg 4 4) Config.blockBytes) = some first) :
    actPicOpen r w s = openSlot r i (w.arg 4 4) ((w.argByte 1).getLsbD 0) first s := by
  simp only [actPicOpen, slot, empty, good, free, run, ne_eq, not_true, Bool.false_eq_true, if_false]

theorem actPicWrite_state (other : (s.slot i).record.state ≠ .filling) : actPicWrite r w s = finish r statusSlotState 0 s := by
  simp only [actPicWrite, slot, other, ne_eq, not_false_eq_true, if_true]

theorem actPicWrite_badLength (filling : (s.slot i).record.state = .filling) (bad : w.arg 2 2 = 0 ∨ 256 < w.arg 2 2) :
    actPicWrite r w s = finish r statusBadArg 0 s := by
  simp only [actPicWrite, slot, filling, bad, ne_eq, not_true, if_false, if_true]

theorem actPicSeal_state (other : (s.slot i).record.state ≠ .filling) : actPicSeal r w s = finish r statusSlotState 0 s := by
  simp only [actPicSeal, slot, other, ne_eq, not_false_eq_true, if_true]

theorem actPicDrop_state (other : (s.slot i).record.state ≠ .filling ∧ (s.slot i).record.state ≠ .ready) :
    actPicDrop r w s = finish r statusSlotState 0 s := by
  simp only [actPicDrop, slot]
  exact if_pos other

theorem actPicDrop_inAlert (live : ¬ ((s.slot i).record.state ≠ .filling ∧ (s.slot i).record.state ≠ .ready))
    (shown : alertPicture s i = true) : actPicDrop r w s = finish r statusInAlert 0 s := by
  simp only [actPicDrop, slot]
  exact (if_neg live).trans (if_pos shown)

theorem actPicDrop_protected (live : ¬ ((s.slot i).record.state ≠ .filling ∧ (s.slot i).record.state ≠ .ready))
    (unshown : ¬ alertPicture s i = true) (alert : ((s.slot i).record.alertFlag && anyAlert s) = true) :
    actPicDrop r w s = finish r statusProtected 0 s := by
  simp only [actPicDrop, slot]
  exact (if_neg live).trans ((if_neg unshown).trans (if_pos alert))

theorem actPicDrop_drops (live : ¬ ((s.slot i).record.state ≠ .filling ∧ (s.slot i).record.state ≠ .ready))
    (unshown : ¬ alertPicture s i = true) (free : ¬ ((s.slot i).record.alertFlag && anyAlert s) = true) :
    actPicDrop r w s = dropSlot r i s := by
  simp only [actPicDrop, slot]
  exact (if_neg live).trans ((if_neg unshown).trans (if_neg free))

end

theorem ceilDiv_blocks (n : Nat) : ceilDiv n Config.blockBytes = (n + 4095) / 4096 := by
  rw [ceilDiv, show Config.blockBytes = 4096 from rfl, show n + 4096 - 1 = n + 4095 by omega]

/-- A refused picture slip, with its slip off the queue. -/
theorem picRefusal {s : State} {r : RecId} {rest : List RecId} {w : WorkRecord} (work : s.work r = some w) (status : Nat) :
    slipCompleted s (finish r status 0 (picState rest s)) r w [] status 0 ∧
      (finish r status 0 (picState rest s)).store =
        { s.store with queue := rest, jobs := (finish r status 0 (picState rest s)).store.jobs } ∧
      changesOnly [.regs, .reader, .store, .posted] s (finish r status 0 (picState rest s)) := by
  exact ⟨finish_slipCompleted status 0 work rfl rfl (List.append_nil _).symm rfl rfl,
    finish_onlyJobs r status 0 (picState rest s), (picState_changesOnly rest s).then (finish_changesOnly r status 0 (picState rest s))⟩

/-- Settles O37. -/
theorem pictureSlipsAreRefusedInOrder : Obligations.PictureSlipsAreRefusedInOrder := by
  intro s r rest w loaded refused len
  have refuse {k : Kind} {act : RecId → WorkRecord → State → State} {c : Instr} {status : Nat}
      (run : exec c s = .next (picDispatch k act s)) (front : slipAt .store k s r rest w)
      (acts : act r w (picState rest s) = finish r status 0 (picState rest s)) : refused c status :=
    ⟨_, run.trans (congrArg _ ((picDispatch_at front loaded act).trans acts)), picRefusal front.2.1 status⟩
  have length : ∀ n : Nat, 0 < n → n ≤ 262144 → ¬ (n = 0 ∨ 262144 < n) := fun n pos le => by omega
  refine ⟨fun front => ?_, fun front => ?_, fun front => ?_, fun front => ?_⟩
  · have refuse {status} := refuse (c := .picOpen) (status := status) rfl front
    refine ⟨fun above => refuse (actPicOpen_noSlot r (slot_above above)), fun i named => ?_⟩
    have slot := slot_of_arg named
    intro flag
    refine ⟨fun used => refuse (actPicOpen_used r slot used), fun empty =>
      ⟨fun bad => refuse (actPicOpen_badLength r slot empty bad), fun pos le flagged some => refuse ?_,
        fun pos le free none => refuse ?_⟩⟩
    · exact actPicOpen_protected r slot empty (length _ pos le) (anyAlert_protects.mpr ⟨flagged, some⟩)
    · refine actPicOpen_noSpace r slot empty (length _ pos le) (fun k => ?_) (findRun_none ?_ none)
      · obtain ⟨flagged, some⟩ := anyAlert_protects.mp k
        exact some (free flagged)
      · rw [ceilDiv_blocks]
        exact Nat.div_pos (show 4096 ≤ len + 4095 by omega) (by decide)
  · have refuse {status} := refuse (c := .picWrite) (status := status) rfl front
    refine ⟨fun above => refuse (actPicWrite_noSlot r (slot_above above)), fun i named => ?_⟩
    have slot := slot_of_arg named
    exact ⟨fun other => refuse (actPicWrite_state r slot other), fun filling bad =>
      refuse (actPicWrite_badLength r slot filling bad)⟩
  · have refuse {status} := refuse (c := .picSeal) (status := status) rfl front
    exact ⟨fun above => refuse (actPicSeal_noSlot r (slot_above above)), fun i named other =>
      refuse (actPicSeal_state r (slot_of_arg named) other)⟩
  · have refuse {status} := refuse (c := .picDrop) (status := status) rfl front
    refine ⟨fun above => refuse (actPicDrop_noSlot r (slot_above above)), fun i named => ?_⟩
    have slot := slot_of_arg named
    intro live shown
    have alive : live → ¬ ((s.slot i).record.state ≠ .filling ∧ (s.slot i).record.state ≠ .ready) :=
      fun h k => h.elim k.1 k.2
    refine ⟨fun dead => refuse (actPicDrop_state r slot (not_or.mp dead)), fun h pictured => refuse ?_,
      fun h unpictured flagged some => refuse ?_⟩
    · exact actPicDrop_inAlert r slot (alive h) ((alertPicture_iff s i).mpr pictured)
    · exact actPicDrop_protected r slot (alive h) (mt (alertPicture_iff s i).mp unpictured)
        (anyAlert_protects.mpr ⟨flagged, some⟩)

end Sys2Proof.Machine
end

/-! ## Proofs: the picture slips accepted (6.2-6.4) -/

section
namespace Sys2Proof.Machine

/-! ### PIC_OPEN -/

/-- Settles O32. -/
theorem picOpenTakesTheLowestRun : Obligations.PicOpenTakesTheLowestRun := by
  intro s r rest w i first front loaded named empty len flag count pos le free fits lower
  let e : Extent := ⟨first, count, len⟩
  let d : DirRecord := { (s.slot i).record with state := .erasing, alertFlag := flag, extent := some e, crc := none }
  let job : Job := { record := r, kind := .opening, slot := i, bank := bankOf first, state := .queued,
                     work := .erases (List.range' first count), made := 0, cut := 0 }
  let u := picState rest s
  have blocks : ceilDiv (w.arg 4 4) Config.blockBytes = count := ceilDiv_blocks _
  have unprotected : ¬ (flag && anyAlert u) = true := fun k => by
    obtain ⟨flagged, some⟩ := anyAlert_protects.mp k
    exact some (free flagged)
  have some : 0 < count := Nat.div_pos (show 4096 ≤ len + 4095 by omega) (by decide)
  have opens : openSlot r i len flag first u = choose (enterJob job (recordSlot i d u)) := by
    unfold openSlot
    rw [show ceilDiv len Config.blockBytes = count from blocks]
    rfl
  have acts : actPicOpen r w u = choose (enterJob job (recordSlot i d u)) :=
    (actPicOpen_opens r (slot_of_arg named) (s := u) empty (by omega) unprotected
      (by rw [blocks]; exact findRun_lowest some fits lower)).trans opens
  have run : exec .picOpen s = .next (choose (enterJob job (recordSlot i d u))) :=
    congrArg Host.Outcome.next ((picDispatch_at front loaded actPicOpen).trans acts)
  obtain ⟨recorded, users, entered, queue, hold, recovery⟩ := enterRecorded_spec rest i d s (j := job) (.inl rfl)
  exact ⟨_, d, job, run, rfl, recorded, users, rfl, entered, queue, hold, recovery,
    fun a => by rw [(touches_of_exec run).same .contents (by decide)], exec_touch _ run⟩

/-! ### The repetitions of a PIC_WRITE -/

theorem repLength_le (start len size : Nat) : repLength start len size ≤ len := by
  unfold repLength
  omega

theorem repLength_bounds {start len size : Nat} (writes : repLength start len size ≠ 0) :
    start + repLength start len size ≤ size ∧ start / 256 = (start + repLength start len size - 1) / 256 ∧
      (repLength start len size = len ∨ start + repLength start len size = size ∨
        (start + repLength start len size) % 256 = 0) := by
  unfold repLength at *
  omega

theorem repLength_pos {start len size : Nat} (pos : 0 < len) (inside : start < size) : repLength start len size ≠ 0 := by
  unfold repLength
  omega

/-- The program of repetition `k`. -/
def rep (host : Addr) (base offset len size k : Nat) : Program :=
  { host := addrAt host (k * len), dest := base + (offset + k * len), length := repLength (offset + k * len) len size }

theorem writeReps_eq (host : Addr) (base offset len n size : Nat) : writeReps host base offset len n size =
    ((List.range (n + 1)).filter fun k => decide (repLength (offset + k * len) len size ≠ 0)).map
      (rep host base offset len size) := by
  rw [← List.filterMap_eq_map, List.filterMap_filter]
  refine List.filterMap_congr fun k _ => ?_
  by_cases h : repLength (offset + k * len) len size = 0 <;> simp [h, rep]

theorem sum_filter_nonzero (f : Nat → Nat) : ∀ ks : List Nat,
    ((ks.filter fun k => decide (f k ≠ 0)).map f).sum = (ks.map f).sum
  | [] => rfl
  | k :: ks => by
    by_cases h : f k = 0
    · rw [List.filter_cons_of_neg (by simpa using h), sum_filter_nonzero f ks, List.map_cons, List.sum_cons, h, Nat.zero_add]
    · rw [List.filter_cons_of_pos (by simpa using h), List.map_cons, List.sum_cons, sum_filter_nonzero f ks, List.map_cons,
        List.sum_cons]

theorem sum_repLength_add_cutBytes (host : Addr) (base offset len n size : Nat) :
    ((writeReps host base offset len n size).map Program.length).sum + cutBytes offset len n size = (n + 1) * len := by
  have written : ((writeReps host base offset len n size).map Program.length).sum =
      ((List.range (n + 1)).map fun k => repLength (offset + k * len) len size).sum := by
    rw [writeReps_eq, List.map_map]
    exact sum_filter_nonzero (fun k => repLength (offset + k * len) len size) _
  rw [written, cutBytes, ← List.sum_map_add]
  have each : ∀ k, repLength (offset + k * len) len size + (len - repLength (offset + k * len) len size) = len :=
    fun k => Nat.add_sub_cancel' (repLength_le _ _ _)
  simp only [each, List.map_const', List.sum_replicate, List.length_range, smul_eq_mul]

/-- Settles O33. -/
theorem writeRepetitionsStayInPageAndPicture : Obligations.WriteRepetitionsStayInPageAndPicture := by
  intro host base offset len n size pos reps
  have reps_eq : reps = _ := writeReps_eq host base offset len n size
  refine ⟨fun p hp => ?_, fun k le inside => ?_, ?_, sum_repLength_add_cutBytes host base offset len n size⟩
  · rw [reps_eq] at hp
    obtain ⟨k, hk, rfl⟩ := List.mem_map.mp hp
    obtain ⟨hk, writes⟩ := List.mem_filter.mp hk
    have writes := of_decide_eq_true writes
    obtain ⟨inside, page, ends⟩ := repLength_bounds writes
    exact ⟨k, Nat.lt_succ_iff.mp (List.mem_range.mp hk), Nat.pos_of_ne_zero writes, repLength_le _ _ _,
      (Nat.add_assoc _ _ _).symm, rfl, inside, page, ends⟩
  · refine ⟨rep host base offset len size k, ?_, (Nat.add_assoc _ _ _).symm⟩
    rw [reps_eq]
    exact List.mem_map_of_mem (List.mem_filter.mpr ⟨List.mem_range.mpr (Nat.lt_succ_of_le le),
      decide_eq_true (repLength_pos pos inside)⟩)
  · rw [reps_eq]
    refine List.pairwise_map.mpr ((List.pairwise_lt_range.filter _).imp fun {j k} lt => ?_)
    exact Nat.add_lt_add_left (Nat.add_lt_add_left (Nat.mul_lt_mul_of_pos_right lt pos) _) _

/-! ### PIC_WRITE -/

theorem actPicWrite_writes {s : State} {w : WorkRecord} {i : SlotId} (r : RecId) (slot : w.slot = some i)
    (filling : (s.slot i).record.state = .filling) (good : ¬ (w.arg 2 2 = 0 ∨ 256 < w.arg 2 2)) :
    actPicWrite r w s = choose (enterJob
      { record := r, kind := .writing, slot := i, bank := slotBank s i, state := .queued,
        work := .programs (writeReps (w.argAddr 8) (slotBase s i) (w.arg 4 4) (w.arg 2 2) (w.arg 1 1) (slotLength s i)), made := 0,
        cut := cutBytes (w.arg 4 4) (w.arg 2 2) (w.arg 1 1) (slotLength s i) } s) := by
  simp only [actPicWrite, slot, filling, good, ne_eq, not_true, if_false]

/-- On an idle store a write job with nothing to write completes at once, and nothing else runs. -/
theorem choose_cutOff {s u : State} {j : Job} {w : WorkRecord} (h : AcceptedFrom s u []) (idle : storeIdle s)
    (queued : j.state = .queued) (free : bankHeld s j.bank = false)
    (work : j.work = .programs []) (cut : j.cut ≠ 0) (held : s.work j.record = some w)
    (counter : u.frames.counter = s.frames.counter) :
    slipReported s (choose (enterJob j u)) j.record w [] s.regs 1 (BitVec.ofNat 32 j.cut) s.frames.counter ∧
      (choose (enterJob j u)).store.running = none := by
  have may : eligible s j = true := by simp [eligible, queued, free]
  let u' := enterJob j u
  have held' : u'.work j.record = some w := by rw [State.work, show u'.reader = s.reader from h.reader]; exact held
  let t := complete j.record statusPartial (BitVec.ofNat 32 j.cut) u'.frames.counter u'
  have ends : finishWrite j u' = t := if_neg cut
  have jobs : u'.store.jobs = s.store.jobs ++ [j] := congrArg (· ++ [j]) h.jobs
  have reported := complete_slipReported (s0 := u') (before := []) statusPartial (BitVec.ofNat 32 j.cut) u'.frames.counter
    held' rfl rfl (List.append_nil _).symm rfl
  obtain ⟨⟨records, regs, posted⟩, left⟩ := reported
  have gone : t.store.jobs = s.store.jobs.filter fun k => k.record ≠ j.record := by
    rw [left, jobs, List.filter_append]
    simp
  have kept : t.store = { u'.store with jobs := t.store.jobs } := complete_onlyJobs _ _ _ _ _
  have still : storeIdle t := by
    obtain ⟨running, recovery, waiting⟩ := idle
    have hold : t.store.hold = s.store.hold := by rw [kept]; exact h.hold
    refine ⟨by rw [kept]; exact h.running.trans running, fun e he => ?_, fun k hk => ?_⟩
    · rw [recoveryReady_congr hold]
      rw [kept] at he
      exact recovery e (h.recovery ▸ he)
    · rw [eligible_congr hold]
      rw [gone] at hk
      exact waiting k (List.mem_of_mem_filter hk)
  have chosen : choose u' = t := by
    rw [choose_finishes (s := u') (h.running.trans idle.1) (enterJob_recovery h idle j) ((find?_enterJob h idle j).trans (if_pos may))
      work, ends]
    exact storeChoose_nothing still _
  rw [show choose (enterJob j u) = t from chosen]
  have counted : u'.frames.counter = s.frames.counter := counter
  refine ⟨⟨⟨?_, ?_, ?_⟩, gone⟩, still.1⟩
  · rw [records, show u'.reader = s.reader from h.reader]
  · rw [regs, show u'.regs = s.regs from h.regs]
  · rw [posted, show u'.posted = s.posted ++ [] from h.posted, show u'.regs = s.regs from h.regs, counted]
    simp [statusPartial]

/-- Settles O34. -/
theorem picWriteQueuesItsPrograms : Obligations.PicWriteQueuesItsPrograms := by
  intro s r rest w i front loaded named filling pos le reps cut
  let job : Job := { record := r, kind := .writing, slot := i, bank := slotBank s i, state := .queued,
                     work := .programs reps, made := 0, cut := cut }
  let u := picState rest s
  have acts : actPicWrite r w u = choose (enterJob job u) :=
    actPicWrite_writes (s := u) r (slot_of_arg named) filling (by omega)
  have run : exec .picWrite s = .next (choose (enterJob job u)) :=
    congrArg Host.Outcome.next ((picDispatch_at front loaded actPicWrite).trans acts)
  have touch := touches_of_exec run
  refine ⟨_, job, run, rfl, jobEntered_choose (picState_accepted rest s) (.inl rfl), ?_, touch.same .stored (by decide), ?_,
    fun none idle free _ => ?_, fun a => by rw [touch.same .contents (by decide)], exec_touch _ run⟩
  · exact slots_eq_of_slot fun k => choose_slot _ k
  · exact ((enterJob_touches job u).trans (zs := choiceAspects) (choose_touches _)).same .storeQueue
  · have cutAll : cut ≠ 0 := fun zero => by
      have sum := sum_repLength_add_cutBytes (w.argAddr 8) (slotBase s i) (w.arg 4 4) (w.arg 2 2) (w.arg 1 1) (slotLength s i)
      rw [show writeReps (w.argAddr 8) (slotBase s i) (w.arg 4 4) (w.arg 2 2) (w.arg 1 1) (slotLength s i) = [] from none,
        show cutBytes (w.arg 4 4) (w.arg 2 2) (w.arg 1 1) (slotLength s i) = 0 from zero] at sum
      have := Nat.mul_pos (Nat.succ_pos (w.arg 1 1)) pos
      simp at sum
      omega
    exact choose_cutOff (picState_accepted rest s) (j := job) idle rfl free (congrArg JobWork.programs none) cutAll
      front.2.1 rfl

/-! ### PIC_SEAL -/

theorem actPicSeal_seals {s : State} {w : WorkRecord} {i : SlotId} (r : RecId) (slot : w.slot = some i)
    (filling : (s.slot i).record.state = .filling) :
    actPicSeal r w s = choose (enterJob
      { record := r, kind := .seal, slot := i, bank := slotBank s i, state := .queued,
        work := .sealRead (BitVec.ofNat 32 (w.arg 4 4)), made := 0, cut := 0 }
      (recordSlot i { (s.slot i).record with state := .sealing } s)) := by
  simp only [actPicSeal, slot]
  exact if_neg fun k => k filling

/-- What the store's choice adds to the directory writes stands behind those under way. -/
theorem choose_dirWrites (s : State) : ∃ more, (choose s).store.dirWrites = s.store.dirWrites ++ more := by
  refine choose_keeps (fun t => ∃ more, t.store.dirWrites = s.store.dirWrites ++ more) (fun t e _ _ k => ?_)
    (fun t j op _ _ _ k => k) (fun t j _ _ _ k => ?_) (fun t j _ _ _ ⟨more, k⟩ => ⟨more ++ [eraseJobWrite t j], ?_⟩)
    ⟨[], (List.append_nil _).symm⟩
  · rw [(startRecovery_touches e t).same .dirWrites]; exact k
  · rw [(finishWrite_touches j t).same .dirWrites]; exact k
  · rw [← List.append_assoc, ← k]; rfl

theorem sealReadEnd_at {s : State} {r : RecId} {j : Job} {expected : Word}
    (running : s.store.running = some ⟨.job r, .sealRead⟩) (job : jobOf s r = some j) (work : j.work = .sealRead expected) :
    sealReadEnd s = choose (beginDirWrite (sealWrite s j expected)
      (setRunning none (updateJob r (fun j => { j with state := .ended }) s))) := by
  simp only [sealReadEnd, running, job, work]

theorem sealWrite_eq (s : State) (j : Job) (expected : Word) : sealWrite s j expected =
    if crc32 (storeRead s.store.contents (slotBase s j.slot) (slotLength s j.slot)) = expected then
      ⟨j.slot, .toReady (crc32 (storeRead s.store.contents (slotBase s j.slot) (slotLength s j.slot))),
        some ⟨j.record, 0, ((s.slot j.slot).record.version + 1).zeroExtend 32⟩⟩
    else ⟨j.slot, .toFilling, some ⟨j.record, 15, crc32 (storeRead s.store.contents (slotBase s j.slot) (slotLength s j.slot))⟩⟩ := by
  have next : BitVec.ofNat 32 ((s.slot j.slot).record.version + 1).toNat =
      ((s.slot j.slot).record.version + 1).zeroExtend 32 := BitVec.ofNat_toNat ..
  unfold sealWrite
  rw [next]
  rfl

/-- Settles O35. -/
theorem picSealChecksThePicture : Obligations.PicSealChecksThePicture := by
  constructor
  · intro s r rest w i front loaded named filling
    let u := picState rest s
    let job : Job := { record := r, kind := .seal, slot := i, bank := slotBank s i, state := .queued,
                       work := .sealRead (BitVec.ofNat 32 (w.arg 4 4)), made := 0, cut := 0 }
    have run : exec .picSeal s = .next (choose (enterJob job (recordSlot i { (s.slot i).record with state := .sealing } u))) :=
      congrArg Host.Outcome.next ((picDispatch_at front loaded actPicSeal).trans
        (actPicSeal_seals (s := u) r (slot_of_arg named) filling))
    obtain ⟨recorded, users, entered, queue, -, -⟩ :=
      enterRecorded_spec rest i { (s.slot i).record with state := .sealing } s (j := job) (.inl rfl)
    exact ⟨_, job, run, recorded, users, rfl, entered, queue,
      fun a => by rw [(touches_of_exec run).same .contents (by decide)], exec_touch _ run⟩
  · intro s r j expected running job work sum next
    have run : exec .sealReadEnd s = .next _ := congrArg Host.Outcome.next (sealReadEnd_at running job work)
    obtain ⟨more, writes⟩ := choose_dirWrites (beginDirWrite (sealWrite s j expected)
      (setRunning none (updateJob r (fun j => { j with state := .ended }) s)))
    refine ⟨_, more, run, ?_, slots_eq_of_slot fun k => choose_slot _ k, (touches_of_exec run).same .stored (by decide),
      fun a => by rw [(touches_of_exec run).same .contents (by decide)], exec_touch _ run⟩
    rw [writes]
    exact congrArg (fun x => s.store.dirWrites ++ [x] ++ more) (sealWrite_eq s j expected)

/-! ### PIC_DROP -/

theorem mem_entriesNaming {s : State} {i k : SlotId} (h : k ∈ entriesNaming s i) : k = i := by
  obtain ⟨x, -, hk⟩ := List.mem_flatMap.mp h
  exact of_decide_eq_true (List.mem_filter.mp hk).2

/-- A fold of steps of which all but one do nothing is that one step. -/
theorem foldl_once {f : State → SlotId → State} {i : SlotId} (others : ∀ s k, k ≠ i → f s k = s) :
    ∀ {is : List SlotId}, is.Nodup → i ∈ is → ∀ s, is.foldl f s = f s i
  | [], _, h, _ => absurd h List.not_mem_nil
  | k :: is, nodup, h, s => by
    obtain ⟨fresh, nodup⟩ := List.nodup_cons.mp nodup
    rw [List.foldl_cons]
    by_cases here : k = i
    · subst here
      have rest : ∀ {is : List SlotId}, k ∉ is → ∀ t, is.foldl f t = t := by
        intro is
        induction is with
        | nil => exact fun _ _ => rfl
        | cons x xs ih =>
          intro away t
          obtain ⟨ne, away⟩ := List.ne_and_not_mem_of_not_mem_cons away
          rw [List.foldl_cons, others t x ne.symm, ih away]
      exact rest fresh _
    · rw [others s k here]
      exact foldl_once others nodup ((List.mem_cons.mp h).resolve_left fun e => here e.symm) s

/-- References to one slot that go: its count falls, and nothing happens with none. -/
theorem retally_gone {old : List SlotId} {i : SlotId} (named : ∀ k ∈ old, k = i) (s : State) :
    retally old [] s = if old.count i = 0 then s else setUsers i ((s.slot i).users - old.count i) s := by
  have others : ∀ (t : State) k, k ≠ i → retallySlot old [] t k = t := fun t k ne =>
    if_pos (List.count_eq_zero.mpr fun m => ne (named k m))
  exact foldl_once others (List.nodup_finRange 64) (List.mem_finRange i) s

/-- A slot without users, or one FILLING, becomes DROPPING. -/
theorem dropSlot_erases {s : State} {i : SlotId} (r : RecId) (free : ¬ ((s.slot i).record.state = .ready ∧ 0 < (s.slot i).users)) :
    dropSlot r i s =
      choose (enterJob (dropJob r i s .queued) (recordSlot i { (s.slot i).record with state := .dropping, crc := none } s)) :=
  if_neg free

/-- A slot in use becomes CONDEMNED and leaves every carousel. -/
theorem dropSlot_condemns {s : State} {i : SlotId} (r : RecId) (used : (s.slot i).record.state = .ready ∧ 0 < (s.slot i).users) :
    dropSlot r i s = choose (removeCondemned i
      (enterJob (dropJob r i s .waiting) (recordSlot i { (s.slot i).record with state := .condemned } s))) :=
  if_pos used

theorem dropJob_eq {s : State} {i : SlotId} {e : Extent} (extent : (s.slot i).record.extent = some e) (r : RecId)
    (state : JobState) : dropJob r i s state =
      { record := r, kind := .drop, slot := i, bank := e.bank, state := state, work := .erases (List.range' e.first e.count),
        made := 0, cut := 0 } := by
  simp only [dropJob, slotBank, extent]
  rfl

/-- The user count of a CONDEMNED slot set: at 0 its directory write to DROPPING begins, and its job wakes. -/
theorem setUsers_condemned_store {s : State} {i : SlotId} (n : Nat) (condemned : (s.slot i).record.state = .condemned) :
    (setUsers i n s).store = { s.store with
      slots := s.store.slots.set i { s.slot i with users := n }
      jobs := if n = 0 then s.store.jobs.map (wakeJob i) else s.store.jobs
      dirWrites := s.store.dirWrites ++ if n = 0 then [⟨i, .toDropping, none⟩] else [] } := by
  unfold setUsers
  by_cases zero : n = 0
  · simp [condemned, zero, beginDirWrite, State.setSlot]
  · simp [zero, State.setSlot]

/-- A CONDEMNED slot's entries removed: what becomes of the store. -/
theorem removeCondemned_store {s : State} {i : SlotId} (condemned : (s.slot i).record.state = .condemned)
    (used : 0 < (s.slot i).users) :
    (removeCondemned i s).store = { s.store with
      slots := s.store.slots.set i { s.slot i with users := (s.slot i).users - (entriesNaming s i).count i }
      jobs := if (s.slot i).users - (entriesNaming s i).count i = 0 then s.store.jobs.map (wakeJob i) else s.store.jobs
      dirWrites := s.store.dirWrites ++
        if (s.slot i).users - (entriesNaming s i).count i = 0 then [⟨i, .toDropping, none⟩] else [] } := by
  let s1 := s.setLanes (s.lanes.map fun x => { x with carousel := dropEntries i x.carousel })
  have gone : removeCondemned i s = _ := retally_gone (fun k => mem_entriesNaming) s1
  rw [gone]
  by_cases none : (entriesNaming s i).count i = 0
  · rw [if_pos none, none, Nat.sub_zero, if_neg used.ne', if_neg used.ne', List.append_nil]
    have same : s.store.slots.set i { s.slot i with users := (s.slot i).users } = s.store.slots :=
      Vector.set_getElem_self ..
    rw [same]
    rfl
  · rw [if_neg none]
    exact setUsers_condemned_store (s := s1) _ condemned

theorem removeCondemned_lane (i : SlotId) (s : State) (l : LaneId) :
    (removeCondemned i s).lane l = { s.lane l with carousel := dropEntries i (s.lane l).carousel } := by
  rw [removeCondemned, retally_lane]
  exact Vector.getElem_map ..

/-- Settles O36: `v` is the state before the store chooses. -/
theorem picDropErasesOrCondemns : Obligations.PicDropErasesOrCondemns := by
  intro s r rest w i e front loaded named unshown free extent d job left
  let u := picState rest s
  have runs {t : State} (live : d.state = .filling ∨ d.state = .ready) (drops : dropSlot r i u = t) :
      exec .picDrop s = .next t := by
    refine congrArg Host.Outcome.next ((picDispatch_at front loaded actPicDrop).trans (Eq.trans ?_ drops))
    refine actPicDrop_drops (s := u) r (slot_of_arg named) (fun k => live.elim k.1 k.2) (fun k => ?_) fun k => ?_
    · obtain ⟨a, ha, v, hv⟩ := (alertPicture_iff u i).mp k
      exact unshown a ha v hv
    · obtain ⟨flagged, some⟩ := anyAlert_protects.mp k
      exact some (free flagged)
  constructor
  · intro idle
    have acts : dropSlot r i u = choose (enterJob (job .queued) (recordSlot i { d with state := .dropping, crc := none } u)) := by
      rw [dropSlot_erases r (s := u), dropJob_eq (s := u) extent]
      · rfl
      · rintro ⟨ready, used⟩
        rcases idle with filling | ⟨-, none⟩
        · exact absurd (ready.symm.trans filling) nofun
        · exact used.ne' none
    have run := runs (idle.imp id And.left) acts
    obtain ⟨recorded, users, entered, queue, -, -⟩ :=
      enterRecorded_spec rest i { d with state := .dropping, crc := none } s (j := job .queued) (.inl rfl)
    exact ⟨_, run, recorded, users, entered, queue,
      fun a => by rw [(touches_of_exec run).same .contents (by decide)], (picState_changesOnly rest s).then
        ((enterRecorded_touches (job .queued) i { d with state := .dropping, crc := none } u).changesOnly
          (ps := [.regs, .reader, .store, .posted]))⟩
  · intro ready used
    let u1 := enterJob (job .waiting) (recordSlot i { d with state := .condemned } u)
    have acts : dropSlot r i u = choose (removeCondemned i u1) := by
      rw [dropSlot_condemns r (s := u) ⟨ready, used⟩, dropJob_eq (s := u) extent]
      rfl
    have run := runs (.inr ready) acts
    have touch := touches_of_exec run
    have slot (k : SlotId) : u1.slot k = if k = i then { s.slot i with record := { d with state := .condemned } } else s.slot k :=
      recordSlot_slot i k _ u
    have here := (slot i).trans (if_pos rfl)
    have store := removeCondemned_store (s := u1) (i := i) (by rw [here]) (by rw [here]; exact used)
    have naming : entriesNaming u1 i = entriesNaming s i := by
      have lanes : u1.lanes = s.lanes := by simp [u1, u, picState]
      rw [entriesNaming, lanes]
      rfl
    have users : (u1.slot i).users = (s.slot i).users := by rw [here]
    rw [naming, users] at store
    have inner : u1.store = { u.store with
        stored := s.store.stored.set i { d with state := .condemned }
        slots := s.store.slots.set i { s.slot i with record := { d with state := .condemned } }
        jobs := s.store.jobs ++ [job .waiting] } := by
      have recorded := recordSlot_store i { d with state := .condemned } u
      change { (recordSlot i { d with state := .condemned } u).store with
        jobs := (recordSlot i { d with state := .condemned } u).store.jobs ++ [job .waiting] } = _
      rw [recorded]
      rfl
    have slots : (choose (removeCondemned i u1)).store.slots = (removeCondemned i u1).store.slots :=
      slots_eq_of_slot fun k => choose_slot _ k
    have vslot (k : SlotId) : (removeCondemned i u1).slot k = if k = i then { u1.slot i with users := left } else s.slot k := by
      have set : (removeCondemned i u1).slot k = (u1.setSlot i { u1.slot i with users := left }).slot k := by
        rw [State.slot, store]
        rfl
      rw [set, State.slot_setSlot]
      split
      · rfl
      next other => rw [slot, if_neg other]
    have tslot (k : SlotId) := (choose_slot (removeCondemned i u1) k).trans (vslot k)
    have stored : (choose (removeCondemned i u1)).store.stored = s.store.stored.set i { d with state := .condemned } := by
      rw [(choose_touches _).same .stored, store, inner]
    refine ⟨_, removeCondemned i u1, run, ⟨?_, fun k hk => ?_, stored⟩, ?_, fun l => ?_, ?_, choose_storeChose _, ?_,
      fun a => by rw [touch.same .contents (by decide)], exec_touch _ run⟩
    · rw [tslot, if_pos rfl, here]
    · rw [tslot, if_neg hk]
    · rw [tslot, if_pos rfl]
    · rw [choose_lane, removeCondemned_lane]
      simp [u1, u, picState]
    · rw [slots, stored, store, inner]
      rfl
    · rw [(choose_touches _).same .storeQueue, store, inner]
      rfl

end Sys2Proof.Machine
end

/-! ## Proofs: the ends of store operations (6.3-6.5) -/

section
namespace Sys2Proof.Machine

theorem touches.slots {xs : List Aspect} {s t : State} (h : touches xs s t)
    (away : ∀ a ∈ [Aspect.slotRecords, .slotUsers], a ∉ xs := by decide) : t.store.slots = s.store.slots :=
  slots_eq_of_slot fun i => by
    have record := h.same .slotRecords (away _ (by decide)) i
    have users := h.same .slotUsers (away _ (by decide)) i
    cases hs : s.slot i
    cases ht : t.slot i
    rw [hs, ht] at record users
    exact congrArg₂ Slot.mk record users

/-! ### Jobs by their work record -/

/-- The jobs of a work record. -/
def jobsOf (s : State) (r : RecId) : List Job := s.store.jobs.filter fun j => j.record = r

theorem jobOf_eq (s : State) (r : RecId) : jobOf s r = (jobsOf s r).head? := (List.head?_filter ..).symm

theorem jobOf_record {s : State} {r : RecId} {j : Job} (h : jobOf s r = some j) : j.record = r := by
  simpa using List.find?_some h

theorem jobsOf_updateJob {r q : RecId} {f : Job → Job} (same : ∀ j, j.record = q → (f j).record = q) (s : State) :
    jobsOf (updateJob q f s) r = if r = q then (jobsOf s r).map f else jobsOf s r := by
  simp only [jobsOf, updateJob, State.setStore_store]
  induction s.store.jobs with
  | nil => split <;> rfl
  | cons j js ih =>
    rw [List.map_cons, List.filter_cons, ih, List.filter_cons]
    by_cases here : j.record = q
    · rw [if_pos here, same j here, here]
      by_cases h : r = q
      · subst h; simp
      · simp [h, Ne.symm h]
    · rw [if_neg here]
      by_cases h : r = q
      · subst h; simp [here]
      · simp [h]

theorem jobOf_updateJob {r : RecId} {f : Job → Job} (same : ∀ j, j.record = r → (f j).record = r) (s : State) :
    jobOf (updateJob r f s) r = (jobOf s r).map f := by
  rw [jobOf_eq, jobsOf_updateJob same, if_pos rfl, List.head?_map, jobOf_eq]

theorem complete_jobsOf {q r : RecId} (ne : r ≠ q) (status : Nat) (aux frame : Word) (s : State) :
    jobsOf (complete q status aux frame s) r = jobsOf s r := by
  cases held : s.work q with
  | none => rw [complete_none _ _ _ _ _ held]
  | some w =>
    rw [jobsOf, (complete_spec q status aux frame s w held).1.2, List.filter_filter]
    refine List.filter_congr fun j _ => ?_
    by_cases h : j.record = r
    · simp [h, ne]
    · simp [h]

/-- Jobs none of which may run are left alone by the store's choice, and none of them becomes the one RUNNING. -/
theorem choose_jobsOf {s : State} {r : RecId} (waits : ∀ j ∈ s.store.jobs, j.record = r → eligible s j = false)
    (idle : s.store.running = none) :
    jobsOf (choose s) r = jobsOf s r ∧ ∀ op, (choose s).store.running ≠ some ⟨.job r, op⟩ := by
  have waits' : ∀ j ∈ jobsOf s r, eligible s j = false := fun j hj =>
    waits j (List.mem_of_mem_filter hj) (of_decide_eq_true (List.mem_filter.mp hj).2)
  have other {t : State} {j : Job} (hold : t.store.hold = s.store.hold) (jobs : jobsOf t r = jobsOf s r)
      (found : t.store.jobs.find? (eligible t) = some j) : r ≠ j.record := by
    rintro rfl
    have may := List.find?_some found
    have mem : j ∈ jobsOf t j.record := List.mem_filter.mpr ⟨List.mem_of_find?_eq_some found, decide_eq_true rfl⟩
    rw [eligible_congr hold, waits' j (jobs ▸ mem)] at may
    cases may
  have kept := choose_keeps (fun t => t.store.hold = s.store.hold ∧ jobsOf t r = jobsOf s r ∧
    ∀ op, t.store.running ≠ some ⟨.job r, op⟩) (s := s) ?_ ?_ ?_ ?_ ⟨rfl, rfl, fun op => by rw [idle]; nofun⟩
  · exact kept.2
  · rintro t e _ _ ⟨hold, jobs, running⟩
    unfold startRecovery
    split
    · exact ⟨hold, jobs, fun op => nofun⟩
    · exact ⟨hold, jobs, running⟩
  · rintro t j op _ found _ ⟨hold, jobs, running⟩
    have ne := other hold jobs found
    refine ⟨hold, ?_, fun op' e => ne ?_⟩
    · exact (jobsOf_updateJob (f := fun j => { j with state := .running }) (fun _ h => h) t).trans ((if_neg ne).trans jobs)
    · cases e; rfl
  · rintro t j _ found _ ⟨hold, jobs, running⟩
    have ne := other hold jobs found
    have touch := finishWrite_touches j t
    refine ⟨(touch.same .hold).trans hold, ?_, fun op => by rw [touch.same .running]; exact running op⟩
    unfold finishWrite
    split <;> exact (complete_jobsOf ne _ _ _ t).trans jobs
  · rintro t j _ found _ ⟨hold, jobs, running⟩
    exact ⟨hold, (jobsOf_updateJob (f := fun j => { j with state := .ended }) (fun _ h => h) t).trans
      ((if_neg (other hold jobs found)).trans jobs), running⟩

/-! ### A job that goes on, or pauses -/

/-- The jobs of a work record replaced by one. -/
def withJob (j : Job) (s : State) : State := updateJob j.record (fun _ => j) s

/-- The state in which a job whose bank is held pauses. -/
def paused (j : Job) (s : State) : State :=
  setRunning none (updateJob j.record (fun j => { j with state := .paused }) (withJob j s))

theorem goOn_free {j : Job} {s : State} (free : bankHeld s j.bank = false) (op : Operation) :
    goOn j op (withJob j s) = setRunning (some ⟨.job j.record, op⟩) (withJob j s) :=
  if_neg fun k => Bool.eq_false_iff.mp free k

theorem goOn_held {j : Job} {s : State} (held : bankHeld s j.bank = true) (op : Operation) :
    goOn j op (withJob j s) = choose (paused j s) := if_pos held

theorem withJob_jobOf {j k : Job} {s : State} (job : jobOf s j.record = some k) : jobOf (withJob j s) j.record = some j := by
  rw [withJob, jobOf_updateJob fun _ _ => rfl, job]
  rfl

theorem paused_jobs (j : Job) (s : State) : (paused j s).store.jobs =
    s.store.jobs.map fun k => if k.record = j.record then { j with state := .paused } else k := by
  simp only [paused, withJob, updateJob, setRunning, State.setStore_store, List.map_map]
  refine List.map_congr_left fun k _ => ?_
  by_cases h : k.record = j.record <;> simp [h]

theorem choose_paused {j k : Job} {s : State} (held : bankHeld s j.bank = true) (job : jobOf s j.record = some k) :
    jobOf (choose (paused j s)) j.record = some { j with state := .paused } ∧
      ∀ op, (choose (paused j s)).store.running ≠ some ⟨.job j.record, op⟩ := by
  have waits : ∀ x ∈ (paused j s).store.jobs, x.record = j.record → eligible (paused j s) x = false := by
    intro x hx same
    rw [paused_jobs] at hx
    obtain ⟨y, -, rfl⟩ := List.mem_map.mp hx
    by_cases h : y.record = j.record
    · have bank : bankHeld (paused j s) j.bank = true := held
      rw [if_pos h, eligible, bank]
      simp
    · rw [if_neg h] at same
      exact absurd same h
  obtain ⟨jobs, running⟩ := choose_jobsOf waits rfl
  refine ⟨?_, running⟩
  have here : jobOf (updateJob j.record (fun j => { j with state := .paused }) (withJob j s)) j.record =
      some { j with state := .paused } := by
    rw [jobOf_updateJob (f := fun j => { j with state := .paused }) fun _ h => h, withJob_jobOf job]
    rfl
  rw [jobOf_eq, jobs]
  exact (jobOf_eq _ _).symm.trans here

/-! ### The end of a block erase -/

/-- The state in which an erased block reads 0xFF. -/
def erased (b : Nat) (s : State) : State := s.setStore { s.store with contents := storeErase s.store.contents b }

theorem blockEraseEnd_job {s : State} {b : Nat} {r : RecId} {j : Job} (running : s.store.running = some ⟨.job r, .erase b⟩)
    (job : jobOf s r = some j) : blockEraseEnd s = afterJobErase j (erased b s) := by
  unfold blockEraseEnd
  split
  next worker b' here =>
    cases running.symm.trans here
    dsimp only
    split
    next k found => cases job.symm.trans found; rfl
    next gone => cases job.symm.trans gone
  next other => exact absurd running (other _ _)

theorem blockEraseEnd_recovery {s : State} {b : Nat} {i : SlotId} {e : Recovery}
    (running : s.store.running = some ⟨.recovery i, .erase b⟩) (entry : s.store.recovery.find? (fun x => x.slot = i) = some e) :
    blockEraseEnd s = afterRecoveryErase e (erased b s) := by
  unfold blockEraseEnd
  split
  next worker b' here =>
    cases running.symm.trans here
    dsimp only
    split
    next x found => cases entry.symm.trans found; rfl
    next gone => cases entry.symm.trans gone
  next other => exact absurd running (other _ _)

theorem erased_byte (b : Nat) (s : State) (a : Nat) : storeByte (erased b s).store.contents a =
    if a / 4096 = b then 0xFF else storeByte s.store.contents a := storeByte_storeErase _ _ _

theorem afterJobErase_more {j : Job} {done next : Nat} {rest : List Nat} (work : j.work = .erases (done :: next :: rest))
    (s : State) : afterJobErase j s = goOn { j with work := .erases (next :: rest), made := j.made + 1 } (.erase next)
      (withJob { j with work := .erases (next :: rest), made := j.made + 1 } s) := by
  simp only [afterJobErase, work]
  rfl

theorem afterJobErase_last {j : Job} {done : Nat} (work : j.work = .erases [done]) (s : State) : afterJobErase j s =
    choose (endErases { j with work := .erases [], made := j.made + 1 }
      (setRunning none (withJob { j with work := .erases [], made := j.made + 1 } s))) := by
  simp only [afterJobErase, work]
  rfl

theorem changesOnly_store {xs : List Aspect} {s t : State} (h : touches xs s t)
    (sub : xs.map Aspect.part ⊆ [.store] := by decide) : changesOnly [.store] s t := h.changesOnly sub

theorem erased_touches (b : Nat) (s : State) : touches [.contents] s (erased b s) := setContents_touches _ s

theorem withJob_touches (j : Job) (s : State) : touches [.jobs] s (withJob j s) := updateJob_touches _ _ s

theorem eraseJobWrite_eq (s : State) (j : Job) : eraseJobWrite s j = match j.kind with
    | .drop => ⟨j.slot, .toEmpty, some ⟨j.record, 0, BitVec.ofNat 32 j.made⟩⟩
    | _ => ⟨j.slot, .toFilling, some ⟨j.record, 0, match (s.slot j.slot).record.extent with
        | some e => BitVec.ofNat 32 e.first
        | none => 0⟩⟩ := by
  unfold eraseJobWrite firstBlock
  cases j.kind <;> cases (s.slot j.slot).record.extent <;> exact Eq.refl _

theorem afterRecoveryErase_more {e : Recovery} {done next : Nat} {rest : List Nat} (blocks : e.blocks = done :: next :: rest)
    (s : State) : afterRecoveryErase e s =
      if bankHeld s e.bank then choose (setRunning none (updateRecovery e.slot (next :: rest) s))
      else setRunning (some ⟨.recovery e.slot, .erase next⟩) (updateRecovery e.slot (next :: rest) s) := by
  simp only [afterRecoveryErase, blocks]
  rfl

theorem afterRecoveryErase_last {e : Recovery} {done : Nat} (blocks : e.blocks = [done]) (s : State) :
    afterRecoveryErase e s = choose (beginDirWrite ⟨e.slot, .toEmpty, none⟩ (setRunning none
      (s.setStore { s.store with recovery := s.store.recovery.filter fun x => x.slot ≠ e.slot }))) := by
  simp only [afterRecoveryErase, blocks]

theorem choose_recovery (s : State) : (choose s).store.recovery = s.store.recovery := (choose_touches s).same .recovery

/-- Settles O38. -/
theorem blockEraseEndGoesOnWithTheJob : Obligations.BlockEraseEndGoesOnWithTheJob := by
  intro s b
  constructor
  · intro r j done more running job work
    obtain rfl := jobOf_record job
    have run : exec .blockEraseEnd s = .next (afterJobErase j (erased b s)) :=
      congrArg Host.Outcome.next (blockEraseEnd_job running job)
    have after := afterJobErase_touches j (erased b s)
    have contents : (afterJobErase j (erased b s)).store.contents = (erased b s).store.contents := after.same .contents
    refine ⟨_, run, fun a => by rw [contents, erased_byte], after.slots, after.same .stored, exec_touch _ run,
      fun next rest split => ?_, fun last => ?_⟩
    · subst split
      let j' : Job := { j with work := .erases (next :: rest), made := j.made + 1 }
      have acts : afterJobErase j (erased b s) = goOn j' (.erase next) (withJob j' (erased b s)) := afterJobErase_more work _
      rw [contents, acts]
      refine ⟨fun free => ?_, fun held => ?_⟩
      · rw [goOn_free (j := j') (s := erased b s) free]
        refine ⟨rfl, withJob_jobOf (j := j') (s := erased b s) job, ?_⟩
        exact changesOnly_store (((erased_touches b s).trans (zs := [.contents, .jobs]) (withJob_touches j' _)).trans
          (zs := [.contents, .jobs, .running]) (setRunning_touches _ _))
      · rw [goOn_held (j := j') (s := erased b s) held]
        obtain ⟨jobs, notRunning⟩ := choose_paused (j := j') (s := erased b s) held job
        refine ⟨notRunning _, jobs, paused j' (erased b s), ?_, choose_storeChose _⟩
        exact congrArg (fun x => { s.store with contents := (erased b s).store.contents, running := none, jobs := x })
          (paused_jobs j' (erased b s))
    · subst last
      let j' : Job := { j with work := .erases [], made := j.made + 1 }
      rw [afterJobErase_last work]
      obtain ⟨others, writes⟩ := choose_dirWrites (endErases j' (setRunning none (withJob j' (erased b s))))
      exact ⟨others, writes.trans (congrArg (fun x => s.store.dirWrites ++ [x] ++ others)
        (eraseJobWrite_eq (setRunning none (withJob j' (erased b s))) j'))⟩
  · intro i e done more running entry blocks
    have slot : e.slot = i := by simpa using List.find?_some entry
    subst slot
    have run : exec .blockEraseEnd s = .next (afterRecoveryErase e (erased b s)) :=
      congrArg Host.Outcome.next (blockEraseEnd_recovery running entry)
    have contents : (afterRecoveryErase e (erased b s)).store.contents = (erased b s).store.contents :=
      (afterRecoveryErase_touches e (erased b s)).same .contents
    refine ⟨_, run, fun a => by rw [contents, erased_byte], fun next rest split => ?_, fun last => ?_⟩
    · subst split
      rw [contents, afterRecoveryErase_more blocks]
      let u := updateRecovery e.slot (next :: rest) (erased b s)
      refine ⟨?_, fun free => ?_, fun held => ?_⟩
      · split
        · exact choose_recovery (setRunning none u)
        · rfl
      · have free : ¬ bankHeld (erased b s) e.bank = true := Bool.eq_false_iff.mp free
        rw [if_neg free]
        exact ⟨rfl, changesOnly_store (((erased_touches b s).trans (zs := [.contents, .recovery])
          (updateRecovery_touches _ _ _)).trans (zs := [.contents, .recovery, .running]) (setRunning_touches _ _))⟩
      · have held : bankHeld (erased b s) e.bank = true := held
        rw [if_pos held, choose_recovery (setRunning none u)]
        exact ⟨setRunning none u, rfl, choose_storeChose _⟩
    · subst last
      rw [afterRecoveryErase_last blocks]
      let u := setRunning none ((erased b s).setStore
        { (erased b s).store with recovery := (erased b s).store.recovery.filter fun x => x.slot ≠ e.slot })
      obtain ⟨others, writes⟩ := choose_dirWrites (beginDirWrite ⟨e.slot, .toEmpty, none⟩ u)
      exact ⟨choose_recovery (beginDirWrite ⟨e.slot, .toEmpty, none⟩ u), others, writes⟩

/-! ### The end of a host read -/

theorem writeHostRead_starts {h : HostView} {s : State} {r : RecId} {p : Program} {j : Job} {data : List Byte}
    (running : s.store.running = some ⟨.job r, .hostRead p⟩) (job : jobOf s r = some j)
    (read : hostRead h p.host p.length = some data) (free : bankHeld s j.bank = false) :
    writeHostRead h s = setRunning (some ⟨.job r, .program p.dest data⟩) s := by
  simp only [writeHostRead, running, job, read, free, Bool.false_eq_true, if_false]

theorem writeHostRead_held {h : HostView} {s : State} {r : RecId} {p : Program} {j : Job} {data : List Byte}
    (running : s.store.running = some ⟨.job r, .hostRead p⟩) (job : jobOf s r = some j)
    (read : hostRead h p.host p.length = some data) (held : bankHeld s j.bank = true) : writeHostRead h s = holdWrite j s := by
  simp only [writeHostRead, running, job, read, held, if_true]

theorem writeHostRead_failed {h : HostView} {s : State} {r : RecId} {p : Program} {j : Job}
    (running : s.store.running = some ⟨.job r, .hostRead p⟩) (job : jobOf s r = some j)
    (read : hostRead h p.host p.length = none) :
    writeHostRead h s = choose (finish r statusFetchFault (BitVec.ofNat 32 j.made) (setRunning none s)) := by
  simp only [writeHostRead, running, job, read]

/-- A work record that no job has gets none by the store's choice. -/
theorem choose_without {s : State} {r : RecId} (h : ∀ j ∈ s.store.jobs, j.record ≠ r) :
    ∀ j ∈ (choose s).store.jobs, j.record ≠ r := by
  by_cases idle : s.store.running = none
  · have none : jobsOf s r = [] := List.filter_eq_nil_iff.mpr fun j hj => by simpa using h j hj
    have kept := (choose_jobsOf (fun j hj same => absurd same (h j hj)) idle).1.trans none
    exact fun j hj => by simpa using List.filter_eq_nil_iff.mp kept j hj
  · rw [choose_busy idle]
    exact h

theorem finish_store {r : RecId} {s : State} {w : WorkRecord} (status : Nat) (aux : Word) (work : s.work r = some w) :
    (finish r status aux s).store = (withoutJob r s).store := by
  have completed := finish_slipCompleted (s0 := s) (before := []) status aux work rfl rfl (by simp) rfl rfl
  have only : onlyJobs s (finish r status aux s) := finish_onlyJobs r status aux s
  rw [only, completed.1.2]
  rfl

/-- A slip completes and the store chooses: what becomes of its job, of its record and of what is posted. -/
theorem choose_finish {s : State} {r : RecId} {w : WorkRecord} (status : Nat) (aux : Word) (work : s.work r = some w) :
    (∀ k ∈ (choose (finish r status aux s)).store.jobs, k.record ≠ r) ∧
      storeChose (withoutJob r s) (choose (finish r status aux s)) ∧ (choose (finish r status aux s)).work r = none ∧
      ∃ after, (choose (finish r status aux s)).posted =
        s.posted ++ completionWrites s.regs.anchor w status aux s.frames.counter ++ after := by
  have completed := finish_slipCompleted (s0 := s) (before := []) status aux work rfl rfl (by simp) rfl rfl
  obtain ⟨after, hafter⟩ := completed.posted
  obtain ⟨chosen, hchosen⟩ := (choose_touches (finish r status aux s)).posted
  refine ⟨choose_without fun k hk => ?_, storeChose_congr (finish_store status aux work).symm (choose_storeChose _),
    choose_work_none completed.1.work_none, after ++ chosen, by rw [hchosen, hafter]; simp⟩
  rw [completed.1.2] at hk
  exact of_decide_eq_true (List.mem_filter.mp hk).2

/-- Settles O39. -/
theorem writeHostReadStartsTheProgram : Obligations.WriteHostReadStartsTheProgram := by
  intro h s r p j w running job work distinct
  obtain rfl := jobOf_record job
  refine ⟨fun data read => ⟨fun free => ?_, fun held => ?_⟩, fun failed => ?_⟩
  · exact ⟨_, congrArg Host.Outcome.next (writeHostRead_starts running job read free), rfl,
      changesOnly_store (setRunning_touches _ s)⟩
  · have run : exec (.writeHostRead h) s = .next (holdWrite j s) :=
      congrArg Host.Outcome.next (writeHostRead_held running job read held)
    have touch := touches_of_exec run
    let f : Job → Job := fun k => { k with state := if k.made = 0 then .queued else .paused }
    let v := setRunning none (updateJob j.record f s)
    have mem : j ∈ s.store.jobs := List.mem_of_find?_eq_some job
    have waits : ∀ x ∈ v.store.jobs, x.record = j.record → eligible v x = false := by
      intro x hx same
      obtain ⟨y, hy, rfl⟩ := List.mem_map.mp (show x ∈ s.store.jobs.map fun k => if k.record = j.record then f k else k from hx)
      by_cases h : y.record = j.record
      · obtain rfl := List.inj_on_of_nodup_map distinct hy mem h
        have bank : bankHeld v y.bank = true := held
        have fbank : (f y).bank = y.bank := rfl
        rw [if_pos rfl, eligible, fbank, bank]
        simp
      · rw [if_neg h] at same
        exact absurd same h
    obtain ⟨jobs, notRunning⟩ := choose_jobsOf waits rfl
    refine ⟨_, run, fun dest bytes => notRunning _, fun a => by rw [touch.same .contents (by dsimp only [touched]; decide)], ?_,
      ⟨v, rfl, choose_storeChose v⟩, exec_touch _ run⟩
    have here : jobOf (updateJob j.record f s) j.record = some (f j) := by
      rw [jobOf_updateJob (f := f) fun _ h => h, job]
      rfl
    rw [jobOf_eq]
    exact (congrArg List.head? jobs).trans ((jobOf_eq _ _).symm.trans here)
  · have run : exec (.writeHostRead h) s = .next _ := congrArg Host.Outcome.next (writeHostRead_failed running job failed)
    have touch := touches_of_exec run
    obtain ⟨gone, chose, free, after, posted⟩ := choose_finish (s := setRunning none s) statusFetchFault (BitVec.ofNat 32 j.made) work
    exact ⟨_, after, run, gone, ⟨setRunning none s, rfl, chose⟩, posted, free, touch.slots (by dsimp only [touched]; decide),
      fun a => by rw [touch.same .contents (by dsimp only [touched]; decide)], exec_touch _ run⟩

/-! ### The end of a page program -/

/-- The state in which a page program has cleared its bits. -/
def programmed (dest : Nat) (data : List Byte) (s : State) : State :=
  s.setStore { s.store with contents := storeProgram s.store.contents dest data }

theorem programmed_touches (dest : Nat) (data : List Byte) (s : State) : touches [.contents] s (programmed dest data s) :=
  setContents_touches _ s

theorem pageProgramEnd_at {s : State} {r : RecId} {dest : Nat} {data : List Byte} {j : Job}
    (running : s.store.running = some ⟨.job r, .program dest data⟩) (job : jobOf s r = some j) :
    pageProgramEnd s = afterProgram j (programmed dest data s) := by
  unfold pageProgramEnd
  split
  next r' dest' data' here =>
    cases running.symm.trans here
    dsimp only
    split
    next k found => cases job.symm.trans found; rfl
    next gone => cases job.symm.trans gone
  next other => exact absurd running (other _ _ _)

theorem afterProgram_more {j : Job} {done next : Program} {rest : List Program}
    (work : j.work = .programs (done :: next :: rest)) (s : State) : afterProgram j s =
      goOn { j with work := .programs (next :: rest), made := j.made + 1 } (.hostRead next)
        (withJob { j with work := .programs (next :: rest), made := j.made + 1 } s) := by
  simp only [afterProgram, work]
  rfl

theorem afterProgram_last {j : Job} {done : Program} (work : j.work = .programs [done]) (s : State) :
    afterProgram j s = choose (finish j.record (if j.cut = 0 then statusOk else statusPartial) (BitVec.ofNat 32 j.cut)
      (setRunning none s)) := by
  have ends : afterProgram j s = choose (finishWrite { j with made := j.made + 1 } (setRunning none s)) := by
    simp only [afterProgram, work]
  rw [ends, finishWrite]
  dsimp only
  by_cases whole : j.cut = 0
  · rw [if_pos whole, if_pos whole, whole]; rfl
  · rw [if_neg whole, if_neg whole]

/-- Settles O40. -/
theorem pageProgramEndClearsBits : Obligations.PageProgramEndClearsBits := by
  intro s r dest data j w done more sound running job work held
  obtain rfl := jobOf_record job
  let s1 := programmed dest data s
  have run : exec .pageProgramEnd s = .next (afterProgram j s1) := congrArg Host.Outcome.next (pageProgramEnd_at running job)
  have after := afterProgram_touches j s1
  have contents : (afterProgram j s1).store.contents = s1.store.contents := after.same .contents
  refine ⟨_, run, fun a => ?_, after.slots, after.same .stored, exec_touch _ run, fun next rest split free => ?_,
    fun some bank => ?_, fun last => ?_⟩
  · rw [contents]
    exact storeByte_storeProgram data s.store.contents dest a sound
  · subst split
    let j' : Job := { j with work := .programs (next :: rest), made := j.made + 1 }
    have acts : afterProgram j s1 = _ := (afterProgram_more work s1).trans (goOn_free (j := j') (s := s1) free _)
    rw [acts]
    exact ⟨rfl, withJob_jobOf (j := j') (s := s1) job, changesOnly_store (((programmed_touches dest data s).trans
      (zs := [.contents, .jobs]) (withJob_touches j' _)).trans (zs := [.contents, .jobs, .running]) (setRunning_touches _ _))⟩
  · obtain ⟨next, rest, rfl⟩ := List.exists_cons_of_ne_nil some
    let j' : Job := { j with work := .programs (next :: rest), made := j.made + 1 }
    have acts : afterProgram j s1 = _ := (afterProgram_more work s1).trans (goOn_held (j := j') (s := s1) bank _)
    rw [contents, acts]
    obtain ⟨jobs, -⟩ := choose_paused (j := j') (s := s1) bank job
    refine ⟨jobs, paused j' s1, ?_, choose_storeChose _⟩
    exact congrArg (fun x => { s.store with contents := s1.store.contents, running := none, jobs := x }) (paused_jobs j' s1)
  · subst last
    have status : (if j.cut = 0 then statusOk else statusPartial) = if j.cut = 0 then 0 else 1 := rfl
    rw [contents, afterProgram_last work, status]
    obtain ⟨gone, chose, free, after, posted⟩ :=
      choose_finish (s := setRunning none s1) (if j.cut = 0 then 0 else 1) (BitVec.ofNat 32 j.cut) held
    exact ⟨gone, ⟨setRunning none s1, rfl, chose⟩, free, after, posted⟩

end Sys2Proof.Machine
end

/-! ## Proofs: the ends of directory writes, and the read of the stored directory (6.2, 6.5) -/

section
namespace Sys2Proof.Machine

/-! ### A directory write ends -/

/-- The state in which the oldest directory write has taken effect. -/
def written (x : DirWrite) (rest : List DirWrite) (s : State) : State :=
  recordSlot x.slot (x.change.apply (s.slot x.slot).record) (s.setStore { s.store with dirWrites := rest })

theorem directoryWriteEnd_at {s : State} {x : DirWrite} {rest : List DirWrite} (front : s.store.dirWrites = x :: rest) :
    directoryWriteEnd s = choose (finishWith x.completes (written x rest s)) := by
  simp only [directoryWriteEnd, front]
  rfl

/-- The writes of the completion that a directory write brings about. -/
def endWrites (s : State) : Option Completion → List Posted
  | none => []
  | some c =>
    match s.work c.record with
    | none => []
    | some w => completionWrites s.regs.anchor w c.status c.aux s.frames.counter

theorem endWrites_congr {s u : State} (reader : u.reader = s.reader) (regs : u.regs = s.regs) (frames : u.frames = s.frames)
    (c : Option Completion) : endWrites u c = endWrites s c := by
  cases c with
  | none => rfl
  | some c => simp only [endWrites, State.work, reader, regs, frames]

theorem finishWith_posted (c : Option Completion) (s : State) :
    ∃ after, (finishWith c s).posted = s.posted ++ endWrites s c ++ after := by
  cases c with
  | none => exact ⟨[], by simp [finishWith, endWrites]⟩
  | some c =>
    cases work : s.work c.record with
    | none =>
      refine ⟨[], ?_⟩
      rw [finishWith, finish, complete_none _ _ _ _ _ work]
      simp [endWrites, work]
    | some w =>
      have completed := finish_slipCompleted (s0 := s) (before := []) c.status c.aux work rfl rfl (by simp) rfl rfl
      obtain ⟨after, hafter⟩ := completed.posted
      exact ⟨after, by rw [finishWith, hafter]; simp [endWrites, work]⟩

theorem finish_work_none (r : RecId) (status : Nat) (aux : Word) (s : State) : (finish r status aux s).work r = none := by
  cases work : s.work r with
  | none => rw [finish, complete_none _ _ _ _ _ work]; exact work
  | some w =>
    exact (finish_slipCompleted (s0 := s) (before := []) status aux work rfl rfl (by simp) rfl rfl).1.work_none

theorem finishWith_slot (c : Option Completion) (s : State) (i : SlotId) : (finishWith c s).slot i = s.slot i := by
  have touch := finishWith_touches c s
  rw [State.slot, touch.slots]
  rfl

/-! ### Recovery -/

/-- What recovery lists of a slot as found. -/
def listedOf (i : SlotId) (d : DirRecord) : Option Recovery :=
  match d.state, d.extent with
  | .erasing, some e => some ⟨i, e.bank, e.blocks⟩
  | .dropping, some e => some ⟨i, e.bank, e.blocks⟩
  | .condemned, some e => some ⟨i, e.bank, e.blocks⟩
  | _, _ => none

/-- The directory write that recovery begins for a slot as found. -/
def recoveryWrite (i : SlotId) (d : DirRecord) : Option DirWrite :=
  match d.state with
  | .sealing => some ⟨i, .toFilling, none⟩
  | .condemned => some ⟨i, .toDropping, none⟩
  | _ => none

theorem recoverSlot_store (s : State) (i : SlotId) : (recoverSlot s i).store = { s.store with
    recovery := s.store.recovery ++ (listedOf i (s.slot i).record).toList
    dirWrites := s.store.dirWrites ++ (recoveryWrite i (s.slot i).record).toList } := by
  unfold recoverSlot listedOf recoveryWrite
  dsimp only
  cases (s.slot i).record.state <;> cases (s.slot i).record.extent <;> simp [beginDirWrite]

theorem recoverSlots_store : ∀ (is : List SlotId) (s : State), (is.foldl recoverSlot s).store = { s.store with
    recovery := s.store.recovery ++ is.filterMap fun i => listedOf i (s.slot i).record
    dirWrites := s.store.dirWrites ++ is.filterMap fun i => recoveryWrite i (s.slot i).record }
  | [], s => by simp
  | i :: is, s => by
    have step := recoverSlot_store s i
    have slot (k : SlotId) : (recoverSlot s i).slot k = s.slot k := by rw [State.slot, step]; rfl
    have cons {α : Type} (f : SlotId → Option α) : (i :: is).filterMap f = (f i).toList ++ is.filterMap f := by
      rw [List.filterMap_cons]
      cases f i <;> rfl
    rw [List.foldl_cons, recoverSlots_store is, step]
    simp only [slot, cons, List.append_assoc]

theorem recoverSlots_recovery {is : List SlotId} {s : State} {found : SlotId → DirRecord}
    (slot : ∀ i, (s.slot i).record = found i) : (is.foldl recoverSlot s).store.recovery
      = s.store.recovery ++ is.filterMap fun i => listedOf i (found i) := by
  rw [← funext slot]
  exact congrArg Store.recovery (recoverSlots_store is s)

theorem recoverSlots_dirWrites {is : List SlotId} {s : State} {found : SlotId → DirRecord}
    (slot : ∀ i, (s.slot i).record = found i) : (is.foldl recoverSlot s).store.dirWrites
      = s.store.dirWrites ++ is.filterMap fun i => recoveryWrite i (found i) := by
  rw [← funext slot]
  exact congrArg Store.dirWrites (recoverSlots_store is s)

theorem mirrorLoaded_touches (s : State) : touches [.posted] s (mirrorLoaded s) :=
  touches_foldl (fun _ _ => touches_ite (fun _ => touches_refl _ _) fun _ => writeDirectoryMirror_touches _ _) _ _

theorem mirrorLoaded_slot (s : State) (i : SlotId) : ((mirrorLoaded (loadDirectory s)).slot i) = ⟨s.store.stored[i], 0⟩ := by
  rw [State.slot, (mirrorLoaded_touches _).slots]
  exact Vector.getElem_map ..

/-- The state in which the stored directory is read and the slots `is` are recovered. -/
def directoryRead (is : List SlotId) (s : State) : State := choose (is.foldl recoverSlot (mirrorLoaded (loadDirectory s)))

theorem directoryRead_spec (is : List SlotId) (s : State) : ∃ others, (directoryRead is s).store.loaded = true ∧
    (∀ i, (directoryRead is s).slot i = ⟨s.store.stored[i], 0⟩) ∧
    (directoryRead is s).store.recovery = s.store.recovery ++ is.filterMap (fun i => listedOf i s.store.stored[i]) ∧
    (directoryRead is s).store.dirWrites
      = s.store.dirWrites ++ is.filterMap (fun i => recoveryWrite i s.store.stored[i]) ++ others := by
  have mirrored := mirrorLoaded_touches (loadDirectory s)
  have uslot := mirrorLoaded_slot s
  have found (i : SlotId) : ((mirrorLoaded (loadDirectory s)).slot i).record = s.store.stored[i] :=
    congrArg Slot.record (uslot i)
  unfold directoryRead
  generalize mirrorLoaded (loadDirectory s) = u at mirrored uslot found
  have recovered := recoverSlots_store is u
  obtain ⟨others, writes⟩ := choose_dirWrites (is.foldl recoverSlot u)
  refine ⟨others, ?_, fun i => ?_, ?_, ?_⟩
  · exact ((choose_touches _).same .loaded).trans ((congrArg Store.loaded recovered).trans (mirrored.same .loaded))
  · rw [choose_slot, State.slot, recovered]
    exact uslot i
  · refine (choose_recovery _).trans ((recoverSlots_recovery found).trans ?_)
    exact congrArg (· ++ _) (mirrored.same .recovery)
  · refine writes.trans (congrArg (· ++ others) ((recoverSlots_dirWrites found).trans ?_))
    exact congrArg (· ++ _) (mirrored.same .dirWrites)

/-- Settles O41. -/
theorem directoryWriteEndChangesTheSlot : Obligations.DirectoryWriteEndChangesTheSlot := by
  constructor
  · intro s x rest front d d'
    have run : exec .directoryWriteEnd s = .next _ := congrArg Host.Outcome.next (directoryWriteEnd_at front)
    have touch := touches_of_exec run
    have record : x.change.apply d = d' := rfl
    let u := written x rest s
    let t := choose (finishWith x.completes u)
    have slot (k : SlotId) : t.slot k = if k = x.slot then { s.slot x.slot with record := d' } else s.slot k := by
      rw [← record]
      exact (choose_slot _ k).trans ((finishWith_slot _ u k).trans (recordSlot_slot _ k _ _))
    obtain ⟨more, writes⟩ := choose_dirWrites (finishWith x.completes u)
    obtain ⟨messages, finished⟩ := finishWith_posted x.completes u
    obtain ⟨chosen, hchosen⟩ := (choose_touches (finishWith x.completes u)).posted
    have reader : u.reader = s.reader := recordSlot_reader _ _ _
    have regs : u.regs = s.regs := recordSlot_regs _ _ _
    have frames : u.frames = s.frames := recordSlot_frames _ _ _
    have mirror : slotMirrorWrite t x.slot = slotMirrorWrite u x.slot := by
      have after : touches choiceAspects u t := (finishWith_touches x.completes u).trans (choose_touches _)
      refine slotMirrorWrite_congr (after.same .ran) ?_ (after.same .anchor)
      rw [State.slot, after.slots]
      rfl
    refine ⟨t, more, run, ⟨by rw [slot, if_pos rfl], fun k hk => by rw [slot, if_neg hk], ?_⟩, by rw [slot, if_pos rfl], ?_,
      fun a => by rw [touch.same .contents (by decide)], ⟨messages ++ chosen, ?_⟩, fun c completes => ?_, exec_touch _ run⟩
    · have kept : t.store.stored = u.store.stored :=
        ((finishWith_touches x.completes u).trans (zs := choiceAspects) (choose_touches _)).same .stored
      rw [kept, ← record]
      exact congrArg Store.stored (recordSlot_store _ _ _)
    · rw [writes, (finishWith_touches x.completes u).same .dirWrites]
      exact congrArg (· ++ more) (congrArg Store.dirWrites (recordSlot_store _ _ _))
    · have posted : u.posted = s.posted ++ slotMirrorWrite u x.slot := recordSlot_posted _ _ _
      rw [mirror]
      refine Eq.trans (b := s.posted ++ slotMirrorWrite u x.slot ++ endWrites s x.completes ++ (messages ++ chosen)) ?_ rfl
      rw [hchosen, finished, posted, endWrites_congr reader regs frames, List.append_assoc _ messages]
    · have free : (finishWith x.completes u).work c.record = none := by
        rw [completes]
        exact finish_work_none _ _ _ u
      exact choose_work_none free
  · intro s
    refine ⟨fun loaded => congrArg Host.Outcome.next (if_pos loaded), fun unread => ?_⟩
    have run : exec .storedDirectoryRead s = .next (directoryRead (List.finRange 64) s) :=
      congrArg Host.Outcome.next (if_neg (by rw [unread]; decide))
    have touch := touches_of_exec run
    obtain ⟨others, loaded, slot, recovery, dirWrites⟩ := directoryRead_spec (List.finRange 64) s
    exact ⟨_, others, run, loaded, touch.same .stored (by decide), slot, recovery, dirWrites,
      fun a => by rw [touch.same .contents (by decide)], exec_touch _ run⟩

end Sys2Proof.Machine
end

/-! ## Proofs: fetches of feed pages (2.2-2.6) -/

section
namespace Sys2Proof.Machine

/-! ### What a fetch changes of its lane -/

/-- Between `s` and `u` nothing of the lanes is changed but the feed of lane `l` and its three counts of the feed. -/
def feedOnly (l : LaneId) (s u : State) : Prop :=
  otherLanesKept l s u ∧ ∃ f oversize displaced fetchFault, u.lane l = { s.lane l with
    feed := f
    counts := { (s.lane l).counts with oversize := oversize, displaced := displaced, fetchFault := fetchFault } }

theorem feedOnly_refl (l : LaneId) (s : State) : feedOnly l s s := ⟨fun _ _ => rfl, _, _, _, _, rfl⟩

theorem feedOnly.trans {l : LaneId} {s t u : State} (first : feedOnly l s t) (second : feedOnly l t u) : feedOnly l s u := by
  obtain ⟨others, f, a, b, c, lane⟩ := first
  obtain ⟨others', f', a', b', c', lane'⟩ := second
  exact ⟨fun k hk => (others' k hk).trans (others k hk), f', a', b', c', by rw [lane', lane]⟩

theorem feedOnly_ite {l : LaneId} {s t u : State} {b : Prop} [Decidable b] (yes : feedOnly l s t) (no : feedOnly l s u) :
    feedOnly l s (if b then t else u) := by
  split
  · exact yes
  · exact no

theorem feedOnly_setLane {l : LaneId} {s : State} {x : Lane} (f : Feed) (oversize displaced fetchFault : Half)
    (h : x = { s.lane l with feed := f, counts := { (s.lane l).counts with
      oversize := oversize, displaced := displaced, fetchFault := fetchFault } }) : feedOnly l s (s.setLane l x) :=
  ⟨fun _ hk => State.lane_setLane_other _ _ _ _ hk, _, _, _, _, (State.lane_setLane_same _ _ _).trans h⟩

theorem setFeed_feedOnly (l : LaneId) (f : Feed) (s : State) : feedOnly l s (s.setFeed l f) := feedOnly_setLane f _ _ _ rfl

theorem returnPage_feedOnly (l : LaneId) (c : Return) (s : State) : feedOnly l s (returnPage l c s) := by
  cases held : (s.lane l).feed.held with
  | none => rw [returnPage_none _ _ _ held]; exact feedOnly_refl l s
  | some page =>
    obtain ⟨lane, others, -⟩ := returnPage_held l c s page held
    exact ⟨others, _, _, _, _, lane⟩

theorem countFetchFault_feedOnly (l : LaneId) (s : State) : feedOnly l s (countFetchFault l s) :=
  feedOnly_setLane _ _ _ _ rfl

theorem countOversize_feedOnly (l : LaneId) (s : State) : feedOnly l s (countOversize l s) := feedOnly_setLane _ _ _ _ rfl

theorem countDisplaced_feedOnly (l : LaneId) (s : State) : feedOnly l s (countDisplaced l s) :=
  feedOnly_setLane _ _ _ _ rfl

theorem advance_feedOnly (l : LaneId) (len : Nat) (s : State) : feedOnly l s (advance l len s) :=
  feedOnly_ite ((setFeed_feedOnly l _ s).trans (returnPage_feedOnly _ _ _)) (setFeed_feedOnly _ _ _)

theorem pageFault_feedOnly (l : LaneId) (s : State) : feedOnly l s (pageFault l s).1 :=
  (countFetchFault_feedOnly l s).trans (returnPage_feedOnly _ _ _)

theorem offerUnit_feedOnly (l : LaneId) (limits : List Nat) (data : Addr) (len : Nat) (h : HostView) (s : State) :
    feedOnly l s (offerUnit l limits data len h s).1 := by
  have counted := feedOnly_ite (b := limits.any (fun m => decide (m < unitCells len)) = true)
    (countOversize_feedOnly l s) (feedOnly_refl l s)
  unfold offerUnit
  dsimp only
  split
  · exact (countDisplaced_feedOnly l s).trans (advance_feedOnly _ _ _)
  split
  · split
    · exact counted.trans (pageFault_feedOnly _ _)
    · exact counted.trans (advance_feedOnly _ _ _)
  · exact counted.trans (advance_feedOnly _ _ _)

theorem readUnit_feedOnly (l : LaneId) (held : Letter) (limits : List Nat) (h : HostView) (s : State) :
    feedOnly l s (readUnit l held limits h s).1 := by
  unfold readUnit
  dsimp only
  split
  · exact returnPage_feedOnly _ _ s
  split
  · exact pageFault_feedOnly _ s
  split
  · exact returnPage_feedOnly _ _ s
  split
  · exact advance_feedOnly _ _ s
  · exact offerUnit_feedOnly _ _ _ _ _ s

theorem takePage_feedOnly (l : LaneId) (limits : List Nat) (h : HostView) (s : State) :
    feedOnly l s (takePage l limits h s).1 := by
  unfold takePage
  dsimp only
  split
  · exact countFetchFault_feedOnly _ s
  split
  · split
    · exact (setFeed_feedOnly _ _ s).trans (returnPage_feedOnly _ _ _)
    · exact (setFeed_feedOnly _ _ s).trans (readUnit_feedOnly _ _ _ _ _)
  · exact feedOnly_refl _ s

theorem fetchUnit_feedOnly (l : LaneId) (limits : List Nat) (h : HostView) (s : State) :
    feedOnly l s (fetchUnit l limits h s).1 := by
  unfold fetchUnit
  split
  · exact readUnit_feedOnly _ _ _ _ s
  · exact takePage_feedOnly _ _ _ s

/-! ### Returns and units passed -/

/-- What a fetch from `s` gives: its outcome, its lane, the registers and what has been posted. -/
structure Yields (l : LaneId) (r : State × FetchOutcome) (o : FetchOutcome) (x : Lane) (regs : Registers)
    (posted : List Posted) : Prop where
  outcome : r.2 = o
  lane : r.1.lane l = x
  regs : r.1.regs = regs
  posted : r.1.posted = posted

theorem returnPage_passed {l : LaneId} {s : State} {page : Letter} (c : Return) (passed : c ≠ .retired)
    (held : (s.lane l).feed.held = some page) (o : FetchOutcome) :
    Yields l (returnPage l c s, o) o { s.lane l with feed := passedFeed (s.lane l).feed page }
      (feedRegs (s.lane l).feed.notify s.regs)
      (s.posted ++ returnWrites s.regs.anchor l page (s.lane l).feed.taken c ++ feedMessage (s.lane l).feed.notify s.regs) := by
  obtain ⟨lane, -, regs, -⟩ := returnPage_held l c s page held
  have feed : feedReturned c page (s.lane l).feed = passedFeed (s.lane l).feed page := by
    cases c <;> simp_all [feedReturned, passedFeed, expectedAfter]
  refine ⟨rfl, by rw [lane, feed], regs, ?_⟩
  rw [(returnPage_posts l c s).1]
  simp [returnPosts, held, feedMessage]

theorem advance_passes {l : LaneId} {s : State} {page : Letter} (held : (s.lane l).feed.held = some page) (len : Nat)
    (o : FetchOutcome) :
    let f := (s.lane l).feed
    let used := f.cursor + 2 + len = f.byteCount
    Yields l (advance l len s, o) o
      { s.lane l with feed :=
          if used then passedFeed f page else { f with cursor := f.cursor + 2 + len, taken := f.taken + 1 } }
      (if used then feedRegs f.notify s.regs else s.regs)
      (if used then s.posted ++ returnWrites s.regs.anchor l page (f.taken + 1) .usedUp ++ feedMessage f.notify s.regs
        else s.posted) := by
  intro f used
  by_cases h : used
  · have lane : (s.setFeed l { f with cursor := f.cursor + 2 + len, taken := f.taken + 1 }).lane l =
        { s.lane l with feed := { f with cursor := f.cursor + 2 + len, taken := f.taken + 1 } } :=
      State.lane_setLane_same _ _ _
    have step := returnPage_passed (l := l) (page := page) .usedUp (by decide)
      (s := s.setFeed l { f with cursor := f.cursor + 2 + len, taken := f.taken + 1 }) (by rw [lane]; exact held) o
    rw [lane] at step
    rw [show advance l len s = _ from if_pos h, if_pos h, if_pos h, if_pos h]
    exact step
  · rw [show advance l len s = _ from if_neg h, if_neg h, if_neg h, if_neg h]
    exact ⟨rfl, State.lane_setLane_same _ _ _, rfl, rfl⟩

theorem pageFault_passed {l : LaneId} {s : State} {page : Letter} (held : (s.lane l).feed.held = some page) :
    let x := s.lane l
    Yields l (pageFault l s) (.nothing .fetchFault)
      { x with feed := passedFeed x.feed page, counts := { x.counts with fetchFault := satInc x.counts.fetchFault } }
      (feedRegs x.feed.notify s.regs)
      (s.posted ++ returnWrites s.regs.anchor l page x.feed.taken .fault ++ feedMessage x.feed.notify s.regs) := by
  intro x
  have lane : (countFetchFault l s).lane l = { x with counts := { x.counts with fetchFault := satInc x.counts.fetchFault } } :=
    State.lane_setLane_same _ _ _
  have step := returnPage_passed (l := l) (page := page) .fault (by decide) (s := countFetchFault l s)
    (by rw [lane]; exact held) (.nothing .fetchFault)
  rw [lane] at step
  exact step

/-! ### Units offered -/

theorem unitCells_le_iff (len m : Nat) : unitCells len ≤ m ↔ 2 + len ≤ 16 * m := by
  unfold unitCells ceilDiv
  omega

theorem lt_unitCells_iff (len m : Nat) : m < unitCells len ↔ 16 * m < 2 + len := by
  unfold unitCells ceilDiv
  omega

/-- Some candidate region takes a unit of a length. -/
def someTakes (limits : List Nat) (len : Nat) : Bool := limits.any fun m => decide (2 + len ≤ 16 * m)

/-- Some candidate region refuses a unit of a length. -/
def someRefuses (limits : List Nat) (len : Nat) : Bool := limits.any fun m => decide (16 * m < 2 + len)

/-- The counts of a lane after a unit is offered to its candidate regions. -/
def offeredCounts (limits : List Nat) (len : Nat) (c : Counts) : Counts :=
  { c with
    oversize := if someRefuses limits len = true then satInc c.oversize else c.oversize
    displaced := if limits = [] then satInc c.displaced else c.displaced }

/-- The state in which a unit is counted as it is offered. -/
def offered (l : LaneId) (limits : List Nat) (len : Nat) (s : State) : State :=
  if limits.isEmpty then countDisplaced l s else if someRefuses limits len then countOversize l s else s

theorem offered_lane (l : LaneId) (limits : List Nat) (len : Nat) (s : State) :
    (offered l limits len s).lane l = { s.lane l with counts := offeredCounts limits len (s.lane l).counts } := by
  unfold offered
  cases limits with
  | nil => exact State.lane_setLane_same _ _ _
  | cons m ms =>
    rw [if_neg (by simp)]
    split
    next refused => exact (State.lane_setLane_same _ _ _).trans (by simp [offeredCounts, refused])
    next taken => simp [offeredCounts, taken]

theorem offered_regs_posted (l : LaneId) (limits : List Nat) (len : Nat) (s : State) :
    (offered l limits len s).regs = s.regs ∧ (offered l limits len s).posted = s.posted := by
  unfold offered
  split_ifs <;> exact ⟨rfl, rfl⟩

theorem offerUnit_eq (l : LaneId) (limits : List Nat) (data : Addr) (len : Nat) (h : HostView) (s : State) :
    offerUnit l limits data len h s =
      if someTakes limits len then
        match hostRead h data len with
        | none => pageFault l (offered l limits len s)
        | some bytes => (advance l len (offered l limits len s), .unit len bytes true)
      else (advance l len (offered l limits len s), .unit len [] false) := by
  have takes : (limits.any fun m => decide (unitCells len ≤ m)) = someTakes limits len := by
    simp only [unitCells_le_iff, someTakes]
  have refuses : (limits.any fun m => decide (m < unitCells len)) = someRefuses limits len := by
    simp only [lt_unitCells_iff, someRefuses]
  unfold offerUnit offered
  rw [takes, refuses]
  cases limits with
  | nil => rfl
  | cons m ms => rfl

end Sys2Proof.Machine
end

/-! ## Proofs: fetches of the assembly in flight, and of abandoned ones (2.2-2.6) -/

section
namespace Sys2Proof.Machine

/-! ### What a fetch of the assembly in flight leaves -/

/-- The state after a fetch of the assembly in flight gave `r`. -/
def fetchedTo (p : Plan) (c : Carriage) (l : LaneId) (r : State × FetchOutcome) : State :=
  setAssembler (.assembling p
    { c with toFetch := c.toFetch.filter (fun x => x ≠ l), fetched := c.fetched ++ [⟨l, r.2⟩] }) r.1

theorem laneFetch_underWay {s : State} {p : Plan} {c : Carriage} {l : LaneId} (under : fetchUnderWay s p c l)
    (h : HostView) : exec (.laneFetch l h) s = .next (fetchedTo p c l (fetchUnit l (candidateLimits p l) h s)) := by
  obtain ⟨assembling, stage, mem, ⟨k, hk, ne⟩, none_kept, allowed⟩ := under
  have kept : s.frames.stragglers.find? (fun g => g.lane = l) = none := by simpa using none_kept
  have contains : c.toFetch.contains l = true := by simpa using mem
  have left : (c.toFetch.filter (fun x => x ≠ l)).isEmpty = false := by
    rw [List.isEmpty_eq_false_iff_exists_mem]
    exact ⟨k, by simp [hk, ne]⟩
  refine congrArg Host.Outcome.next ?_
  unfold laneFetch
  rw [kept]
  rw [assembling]
  dsimp only
  rw [if_pos ⟨stage, contains⟩, assemblyFetch]
  dsimp only
  rw [if_pos allowed, goOnFetching, left]
  exact if_neg Bool.false_ne_true

theorem fetchUnit_frames (l : LaneId) (limits : List Nat) (h : HostView) (s : State) :
    (fetchUnit l limits h s).1.frames = s.frames :=
  (fetchUnit_touches l limits h s).changesOnly (ps := [.regs, .lanes, .posted]) (by decide) .frames (by decide)

theorem Yields.fetched {s : State} {p : Plan} {c : Carriage} {l : LaneId} {h : HostView} {o : FetchOutcome} {x : Lane}
    {regs : Registers} {posted : List Posted} (under : fetchUnderWay s p c l)
    (yields : Yields l (fetchUnit l (candidateLimits p l) h s) o x regs posted) :
    ∃ t, exec (.laneFetch l h) s = .next t ∧ t.frames = afterFetch s.frames p c l o ∧ t.lane l = x ∧
      otherLanesKept l s t ∧ t.regs = regs ∧ t.posted = posted ∧ changesOnly [.regs, .lanes, .frames, .posted] s t := by
  obtain ⟨outcome, lane, regs, posted⟩ := yields
  have touch := (fetchUnit_touches l (candidateLimits p l) h s).trans (zs := .assembler :: fetchAspects)
    (setAssembler_touches (.assembling p { c with
      toFetch := c.toFetch.filter (fun x => x ≠ l), fetched := c.fetched ++ [⟨l, o⟩] }) _)
  refine ⟨_, laneFetch_underWay under h, ?_, lane, (fetchUnit_feedOnly _ _ _ _).1, regs, posted, ?_⟩
  · simp only [fetchedTo, outcome]
    exact congrArg (fun f => afterFetch f p c l o) (fetchUnit_frames _ _ _ _)
  · rw [fetchedTo, outcome]
    exact touch.changesOnly (by decide)

theorem fetchUnit_held {l : LaneId} {s : State} {page : Letter} (held : (s.lane l).feed.held = some page)
    (limits : List Nat) (h : HostView) : fetchUnit l limits h s = readUnit l page limits h s := by
  simp only [fetchUnit, held]

theorem fetchUnit_takes {l : LaneId} {s : State} (held : (s.lane l).feed.held = none)
    (limits : List Nat) (h : HostView) : fetchUnit l limits h s = takePage l limits h s := by
  simp only [fetchUnit, held]

/-! ### The next unit of a held page (2.3-2.5) -/

theorem readUnit_whole {l : LaneId} {s : State} {page : Letter} {limits : List Nat} {h : HostView} {lenBytes : List Byte}
    (whole : (s.lane l).feed.cursor + 2 + leNat lenBytes ≤ (s.lane l).feed.byteCount)
    (read : hostRead h (addrAt (pageAddr (s.lane l) page) (s.lane l).feed.cursor) 2 = some lenBytes) :
    readUnit l page limits h s = if leNat lenBytes = 0 then (advance l 0 s, .nothing .silence)
      else offerUnit l limits (addrAt (pageAddr (s.lane l) page) ((s.lane l).feed.cursor + 2)) (leNat lenBytes) h s := by
  unfold readUnit
  dsimp only
  rw [if_neg (by omega), read]
  exact if_neg (by omega)

theorem offerUnit_passes {l : LaneId} {s : State} {limits : List Nat} {at_ : Addr} {len : Nat} {h : HostView} {data : List Byte}
    (read : if someTakes limits len then hostRead h at_ len = some data else data = []) :
    offerUnit l limits at_ len h s = (advance l len (offered l limits len s), .unit len data (someTakes limits len)) := by
  rw [offerUnit_eq]
  cases takes : someTakes limits len with
  | true =>
    rw [takes, if_pos rfl] at read
    rw [read, if_pos rfl]
  | false =>
    rw [takes, if_neg (by decide)] at read
    rw [read, if_neg (by decide)]

/-- Settles O19. -/
theorem laneFetchReadsTheNextUnit : Obligations.LaneFetchReadsTheNextUnit := by
  intro l h s p c page lenBytes data under x f len limits taken refused held whole lenRead read
  have fetch := (fetchUnit_held held limits h).trans (readUnit_whole (limits := limits) whole lenRead)
  by_cases silent : len = 0
  · have yields := advance_passes held 0 (.nothing .silence)
    rw [← show fetchUnit l limits h s = _ from fetch.trans (if_pos silent)] at yields
    obtain ⟨t, run, frames, lane, others, regs, posted, only⟩ := yields.fetched under
    have none_offered : ¬ 0 < len := by omega
    refine ⟨t, run, by rw [frames, if_pos silent], ?_, others, ?_, only⟩
    · rw [lane, silent]
      simp only [lt_irrefl, false_and, if_false]
      rfl
    · rw [silent, regs, posted]
      split_ifs <;> exact ⟨rfl, rfl⟩
  · have pos : 0 < len := Nat.pos_of_ne_zero silent
    have lane := offered_lane l limits len s
    obtain ⟨oregs, oposted⟩ := offered_regs_posted l limits len s
    have read' : if someTakes limits len then hostRead h (addrAt (pageAddr x page) (f.cursor + 2)) len = some data
        else data = [] := by
      simpa [pos, taken, someTakes] using read
    have yields := advance_passes (s := offered l limits len s) (by rw [lane]; exact held) len
      (.unit len data (someTakes limits len))
    rw [← show fetchUnit l limits h s = _ from (fetch.trans (if_neg silent)).trans (offerUnit_passes read'), lane,
      oregs, oposted] at yields
    obtain ⟨t, run, frames, lane, others, regs, posted, only⟩ := yields.fetched under
    refine ⟨t, run, by rw [frames, if_neg silent]; rfl, ?_, others, ?_, only⟩
    · rw [lane]
      simp only [pos, true_and]
      rfl
    · rw [regs, posted]
      split_ifs <;> exact ⟨rfl, rfl⟩

/-! ### Damaged pages (2.3, 2.4) -/

/-- Settles O20. -/
theorem laneFetchReturnsADamagedPage : Obligations.LaneFetchReturnsADamagedPage := by
  intro l h s p c page under x f held returned lenRead
  have fetch := fetchUnit_held held (candidateLimits p l) h
  have truncated (damaged : readUnit l page (candidateLimits p l) h s = (returnPage l .truncated s, .nothing .malformed)) :
      returned .truncated .malformed x.counts := by
    have yields := returnPage_passed .truncated (by decide) held (.nothing .malformed)
    rw [← damaged, ← fetch] at yields
    exact yields.fetched under
  refine ⟨fun short => truncated (if_pos short), fun room failed => ?_, fun lenBytes room read => ⟨fun overrun => ?_,
    fun whole pos takes failed => ?_⟩⟩
  · have yields := pageFault_passed held
    have fault : readUnit l page (candidateLimits p l) h s = pageFault l s := by
      unfold readUnit
      dsimp only
      rw [if_neg (Nat.not_lt.mpr room), show hostRead h _ 2 = none from failed]
    rw [← fault, ← fetch] at yields
    exact yields.fetched under
  · refine truncated ?_
    unfold readUnit
    dsimp only
    rw [if_neg (Nat.not_lt.mpr room), show hostRead h _ 2 = some lenBytes from read]
    exact if_pos overrun
  · have lane := offered_lane l (candidateLimits p l) (leNat lenBytes) s
    obtain ⟨oregs, oposted⟩ := offered_regs_posted l (candidateLimits p l) (leNat lenBytes) s
    have yields := pageFault_passed (s := offered l (candidateLimits p l) (leNat lenBytes) s)
      (l := l) (page := page) (by rw [lane]; exact held)
    have fault : readUnit l page (candidateLimits p l) h s =
        pageFault l (offered l (candidateLimits p l) (leNat lenBytes) s) := by
      rw [readUnit_whole whole read, if_neg (by omega), offerUnit_eq, if_pos (show someTakes _ _ = true from takes),
        show hostRead h _ _ = none from failed]
    have some_region : candidateLimits p l ≠ [] := fun none => by simp [none] at takes
    rw [← fault, ← fetch, lane, oregs, oposted] at yields
    obtain ⟨t, run, frames, lane, rest⟩ := yields.fetched under
    refine ⟨t, run, frames, ?_, rest⟩
    rw [lane]
    simp only [offeredCounts, some_region, if_false]
    rfl

/-! ### The page of the expected letter (2.2) -/

theorem fetchUnderWay_setLane {s : State} {p : Plan} {c : Carriage} {l : LaneId} (under : fetchUnderWay s p c l)
    {x : Lane} (state : x.state = (s.lane l).state) : fetchUnderWay (s.setLane l x) p c l := by
  obtain ⟨assembling, stage, mem, other, none_kept, allowed⟩ := under
  refine ⟨assembling, stage, mem, other, none_kept, ?_⟩
  unfold fetchAllowed at allowed ⊢
  rwa [State.lane_setLane_same, state]

/-- Settles O21. -/
theorem laneFetchTakesTheExpectedPage : Obligations.LaneFetchTakesTheExpectedPage := by
  intro l h s p c under x f held tabRead
  have fetch := fetchUnit_takes held (candidateLimits p l) h
  refine ⟨fun failed => ?_, fun tab read => ⟨fun not_loaded => ?_, fun loaded => ?_⟩⟩
  · have yields : Yields l (takePage l (candidateLimits p l) h s) (.nothing .fetchFault)
        { x with counts := { x.counts with fetchFault := satInc x.counts.fetchFault } } s.regs s.posted := by
      unfold takePage
      dsimp only
      rw [show hostRead h _ 16 = none from failed]
      exact ⟨rfl, State.lane_setLane_same _ _ _, rfl, rfl⟩
    rw [← fetch] at yields
    obtain ⟨t, run, frames, lane, others, regs, posted, only⟩ := yields.fetched under
    refine ⟨t, run, frames, lane, others, changesOnly_narrow only fun part hpart away => ?_⟩
    have kept : part = .regs ∨ part = .posted := by revert part; decide
    obtain rfl | rfl := kept
    · exact regs
    · exact posted
  · have yields : Yields l (takePage l (candidateLimits p l) h s) (.nothing .underrun) x s.regs s.posted := by
      unfold takePage
      dsimp only
      rw [show hostRead h _ 16 = some tab from read]
      dsimp only
      rw [if_neg not_loaded]
      exact ⟨rfl, rfl, rfl, rfl⟩
    rw [← fetch] at yields
    obtain ⟨t, run, frames, lane, others, regs, posted, only⟩ := yields.fetched under
    refine ⟨t, run, frames, changesOnly_narrow only fun part hpart away => ?_⟩
    have kept : part = .regs ∨ part = .posted ∨ part = .lanes := by revert part; decide
    obtain rfl | rfl | rfl := kept
    · exact regs
    · exact posted
    · exact lanes_eq_of_lane fun k => if same : k = l then same ▸ lane else others k same
  · intro count notify sequence
    have take : takePage l (candidateLimits p l) h s =
        if (feedTaken x tab).byteCount = 0 then (returnPage l .usedUp (s.setFeed l (feedTaken x tab)), .nothing .underrun)
        else readUnit l f.expected (candidateLimits p l) h (s.setFeed l (feedTaken x tab)) := by
      unfold takePage
      dsimp only
      rw [show hostRead h _ 16 = some tab from read]
      exact if_pos loaded
    have lane : (s.setFeed l (feedTaken x tab)).lane l = { x with feed := feedTaken x tab } := State.lane_setLane_same _ _ _
    have taken : ((s.setFeed l (feedTaken x tab)).lane l).feed.held = some f.expected := by rw [lane]; rfl
    refine ⟨fun empty => ?_, fun some_bytes => ?_⟩
    · have yields := returnPage_passed .usedUp (by decide) taken (.nothing .underrun)
      rw [← take.trans (if_pos empty), ← fetch, lane] at yields
      exact yields.fetched under
    · have under' := fetchUnderWay_setLane under (x := { x with feed := feedTaken x tab }) rfl
      refine (laneFetch_underWay under h).trans (.trans ?_ (laneFetch_underWay under' h).symm)
      rw [fetch, take.trans (if_neg (Nat.pos_iff_ne_zero.mp some_bytes)), ← fetchUnit_held taken]
      rfl

/-! ### Fetches of abandoned assemblies (2.6)

A fetch reads nothing of the Frame Assembler, so that it acts on the lane alike whatever the assembler holds. -/

theorem raiseNotice_setFrames (c : Cause) (f : FrameControl) (s : State) :
    raiseNotice c (s.setFrames f) = (raiseNotice c s).setFrames f := by
  unfold raiseNotice
  have regs : (s.setFrames f).regs = s.regs := rfl
  rw [regs]
  dsimp only
  split_ifs <;> rfl

theorem returnPage_setFrames (l : LaneId) (c : Return) (f : FrameControl) (s : State) :
    returnPage l c (s.setFrames f) = (returnPage l c s).setFrames f := by
  cases held : (s.lane l).feed.held with
  | none => rw [returnPage_none _ _ _ held, returnPage_none _ _ _ (show ((s.setFrames f).lane l).feed.held = none from held)]
  | some page =>
    unfold returnPage
    have same : ((s.setFrames f).lane l).feed = (s.lane l).feed := rfl
    rw [same]
    dsimp only
    rw [held]
    dsimp only
    split_ifs
    · exact raiseNotice_setFrames _ f ((postReturn l page (s.lane l).feed.taken c s).setFeed l _)
    · rfl

theorem advance_setFrames (l : LaneId) (len : Nat) (f : FrameControl) (s : State) :
    advance l len (s.setFrames f) = (advance l len s).setFrames f := by
  unfold advance
  have lane : (s.setFrames f).lane l = s.lane l := rfl
  rw [lane]
  dsimp only
  split_ifs
  · exact returnPage_setFrames _ _ f (s.setFeed l _)
  · rfl

theorem offered_setFrames (l : LaneId) (limits : List Nat) (len : Nat) (f : FrameControl) (s : State) :
    offered l limits len (s.setFrames f) = (offered l limits len s).setFrames f := by
  unfold offered
  split_ifs <;> rfl

/-- A fetch's result with the Frame Assembler replaced. -/
def withFrames (f : FrameControl) (r : State × FetchOutcome) : State × FetchOutcome := (r.1.setFrames f, r.2)

theorem pageFault_setFrames (l : LaneId) (f : FrameControl) (s : State) :
    pageFault l (s.setFrames f) = withFrames f (pageFault l s) :=
  congrArg (·, FetchOutcome.nothing .fetchFault) (returnPage_setFrames l .fault f (countFetchFault l s))

theorem offerUnit_setFrames (l : LaneId) (limits : List Nat) (data : Addr) (len : Nat) (h : HostView) (f : FrameControl)
    (s : State) : offerUnit l limits data len h (s.setFrames f) = withFrames f (offerUnit l limits data len h s) := by
  rw [offerUnit_eq, offerUnit_eq, offered_setFrames, pageFault_setFrames, advance_setFrames]
  split
  · cases hostRead h data len <;> rfl
  · rfl

theorem readUnit_setFrames (l : LaneId) (held : Letter) (limits : List Nat) (h : HostView) (f : FrameControl) (s : State) :
    readUnit l held limits h (s.setFrames f) = withFrames f (readUnit l held limits h s) := by
  unfold readUnit
  dsimp only
  have lane : (s.setFrames f).lane l = s.lane l := rfl
  rw [lane, returnPage_setFrames, pageFault_setFrames, advance_setFrames]
  cases hostRead h (addrAt (pageAddr (s.lane l) held) (s.lane l).feed.cursor) 2 with
  | none => split_ifs <;> rfl
  | some lenBytes =>
    dsimp only
    rw [offerUnit_setFrames]
    split_ifs <;> rfl

theorem fetchUnit_setFrames (l : LaneId) (limits : List Nat) (h : HostView) (f : FrameControl) (s : State) :
    fetchUnit l limits h (s.setFrames f) = withFrames f (fetchUnit l limits h s) := by
  cases held : (s.lane l).feed.held with
  | some page =>
    rw [fetchUnit_held held, fetchUnit_held (show ((s.setFrames f).lane l).feed.held = some page from held)]
    exact readUnit_setFrames _ _ _ _ _ _
  | none =>
    rw [fetchUnit_takes held, fetchUnit_takes (show ((s.setFrames f).lane l).feed.held = none from held)]
    unfold takePage
    dsimp only
    have lane : (s.setFrames f).lane l = s.lane l := rfl
    have regs : (s.setFrames f).regs = s.regs := rfl
    rw [lane, regs]
    cases hostRead h (tabAddr s.regs.anchor l (s.lane l).feed.expected) 16 with
    | none => rfl
    | some tab =>
      have feed : (s.setFrames f).setFeed l (feedTaken (s.lane l) tab) = (s.setFeed l (feedTaken (s.lane l) tab)).setFrames f :=
        rfl
      dsimp only
      rw [feed, returnPage_setFrames, readUnit_setFrames]
      split_ifs <;> rfl

theorem laneFetch_straggles {s : State} {l : LaneId} {regions : List Nat} {before after : List Straggler}
    (kept : s.frames.stragglers = before ++ ⟨l, regions⟩ :: after) (others : ∀ g ∈ before ++ after, g.lane ≠ l)
    (h : HostView) : exec (.laneFetch l h) s = .next (countStraggler l
      (withFrames { s.frames with stragglers := before ++ after } (fetchUnit l regions h s))) := by
  have before_other : ∀ g ∈ before, g.lane ≠ l := fun g hg => others g (List.mem_append_left _ hg)
  have found : s.frames.stragglers.find? (fun g => g.lane = l) = some ⟨l, regions⟩ := by
    rw [kept, List.find?_append, List.find?_eq_none.mpr (by simpa using before_other)]
    simp
  have rest : s.frames.stragglers.filter (fun g => g.lane ≠ l) = before ++ after := by
    rw [kept, List.filter_append, List.filter_cons_of_neg (by simp), ← List.filter_append,
      List.filter_eq_self.mpr (by simpa using others)]
  refine congrArg Host.Outcome.next ?_
  unfold laneFetch
  rw [found]
  dsimp only
  unfold straggle dropStraggler
  rw [rest, fetchUnit_setFrames]

/-- A lane's late drops after a fetch of an abandoned assembly. -/
def stragglerDrops (o : FetchOutcome) (n : Half) : Half :=
  match o with
  | .unit _ _ true => satInc n
  | _ => n

theorem countStraggler_lane (l : LaneId) (r : State × FetchOutcome) : ((countStraggler l r).lane l = { r.1.lane l with
      counts := { (r.1.lane l).counts with lateDrop := stragglerDrops r.2 (r.1.lane l).counts.lateDrop } }) ∧
    otherLanesKept l r.1 (countStraggler l r) ∧ changesOnly [.lanes] r.1 (countStraggler l r) := by
  obtain ⟨u, o⟩ := r
  cases o with
  | nothing cause => exact ⟨rfl, fun _ _ => rfl, changesOnly_refl _ _⟩
  | unit len data carried =>
    cases carried with
    | false => exact ⟨rfl, fun _ _ => rfl, changesOnly_refl _ _⟩
    | true => exact ⟨State.lane_setLane_same _ _ _, otherLanesKept_setLane _ _ _, changesOnly_setLane _ _ _⟩

/-- Settles O22. -/
theorem abandonedFetchRunsToItsEnd : Obligations.AbandonedFetchRunsToItsEnd := by
  intro l h s regions before after kept others u
  obtain ⟨lanes, feed, oversize, displaced, fetchFault, lane⟩ := fetchUnit_feedOnly l regions h s
  have touch := fetchUnit_touches l regions h s
  have regs : u.regs = { s.regs with notice := u.regs.notice } := touch.regs_notice
  have lane : u.lane l = _ := lane
  obtain ⟨dropped, kept_lanes, lanes_only⟩ := countStraggler_lane l
    (withFrames { s.frames with stragglers := before ++ after } (fetchUnit l regions h s))
  have framed : changesOnly [.frames] u (u.setFrames { s.frames with stragglers := before ++ after }) := fun part hpart => by
    cases part <;> first | rfl | exact absurd hpart (by decide)
  have tregs := lanes_only .regs (by decide)
  refine ⟨_, laneFetch_straggles kept others h, lanes_only .frames (by decide), ?_,
    fun k hk => (kept_lanes k hk).trans (lanes k hk), tregs, ?_, lanes_only .posted (by decide),
    (touch.changesOnly (ps := [.regs, .lanes, .posted])).then
      (framed.then (rs := [.frames, .lanes]) lanes_only)⟩
  · refine dropped.trans ?_
    have framed_lane : (withFrames { s.frames with stragglers := before ++ after } (fetchUnit l regions h s)).1.lane l =
        u.lane l := rfl
    rw [framed_lane, lane]
    rfl
  · exact (Eq.trans tregs regs).trans (congrArg (fun n => { s.regs with notice := n }) (congrArg Registers.notice tregs).symm)

end Sys2Proof.Machine
end

/-! ## Proofs: pool sharing (4.3) -/

section
namespace Sys2Proof.Machine

/-! ### The urgent stage -/

/-- The demand of the urgent lanes of a list. -/
def urgentDemand (xs : List PoolLane) : Nat := ((xs.filter PoolLane.urgent).map PoolLane.demand).sum

theorem urgentDemand_cons (x : PoolLane) (xs : List PoolLane) :
    urgentDemand (x :: xs) = (if x.urgent then x.demand else 0) + urgentDemand xs := by
  unfold urgentDemand
  cases h : x.urgent <;> simp [h]

/-- What the urgent stage gives a lane with `q` cells left. -/
def firstGrant (x : PoolLane) (q : Nat) : Nat := if x.urgent then min x.demand q else 0

theorem urgentStage_lanes : ∀ (ls : List PoolLane) (q i : Nat), (urgentStage ls q).1[i]? =
    ls[i]?.map fun x => { x with grant := firstGrant x (q - urgentDemand (ls.take i)) }
  | [], _, _ => by simp [urgentStage]
  | x :: xs, q, 0 => by simp [urgentStage, firstGrant, urgentDemand]
  | x :: xs, q, i + 1 => by
    have left : q - (if x.urgent then min x.demand q else 0) - urgentDemand (xs.take i) =
        q - urgentDemand ((x :: xs).take (i + 1)) := by
      rw [List.take_succ_cons, urgentDemand_cons]
      split <;> omega
    simp only [urgentStage, List.getElem?_cons_succ, urgentStage_lanes xs, left]

theorem urgentStage_left : ∀ (ls : List PoolLane) (q : Nat), (urgentStage ls q).2 = q - urgentDemand ls
  | [], q => by simp [urgentStage, urgentDemand]
  | x :: xs, q => by
    simp only [urgentStage, urgentStage_left xs, urgentDemand_cons]
    split <;> omega

theorem urgentStage_sum : ∀ (ls : List PoolLane) (q : Nat),
    ((urgentStage ls q).1.map PoolLane.grant).sum + (urgentStage ls q).2 = q
  | [], q => by simp [urgentStage]
  | x :: xs, q => by
    have rest := urgentStage_sum xs (q - if x.urgent then min x.demand q else 0)
    have within : (if x.urgent then min x.demand q else 0) ≤ q := by split <;> omega
    simp only [urgentStage, List.map_cons, List.sum_cons]
    omega

/-! ### The grant stage -/

/-- What a lane's credit affords it of its demand. -/
def affordable (x : PoolLane) : Nat := if x.urgent then 0 else min x.demand (x.credit / 1024)

theorem grantOf_eq (x : PoolLane) (q : Nat) : grantOf x q = min (affordable x) q := by
  unfold grantOf affordable
  split <;> omega

theorem grantStage_lanes : ∀ (ls : List PoolLane) (q i : Nat), (grantStage ls q).1[i]? =
    ls[i]?.map fun x =>
      let paid := min (affordable x) (q - ((ls.take i).map affordable).sum)
      { x with grant := x.grant + paid, credit := x.credit - 1024 * paid }
  | [], _, _ => by simp [grantStage]
  | x :: xs, q, 0 => by simp [grantStage, grantOf_eq]
  | x :: xs, q, i + 1 => by
    have left : q - grantOf x q - ((xs.take i).map affordable).sum =
        q - (((x :: xs).take (i + 1)).map affordable).sum := by
      rw [grantOf_eq, List.take_succ_cons, List.map_cons, List.sum_cons]
      omega
    simp only [grantStage, List.getElem?_cons_succ, grantStage_lanes xs, left]

theorem grantStage_sum : ∀ (ls : List PoolLane) (q : Nat),
    ((grantStage ls q).1.map PoolLane.grant).sum + (grantStage ls q).2 = (ls.map PoolLane.grant).sum + q
  | [], q => by simp [grantStage]
  | x :: xs, q => by
    have rest := grantStage_sum xs (q - grantOf x q)
    have within : grantOf x q ≤ q := by rw [grantOf_eq]; omega
    simp only [grantStage, List.map_cons, List.sum_cons]
    omega

/-! ### The spill stage -/

/-- A lane with up to `n` cells more of its unmet demand. -/
def spilledTo (n : Nat) (x : PoolLane) : PoolLane := { x with grant := x.grant + min (x.demand - x.grant) n }

theorem spilledTo_spilledTo (m n : Nat) (x : PoolLane) : spilledTo n (spilledTo m x) = spilledTo (m + n) x := by
  have sum : x.grant + min (x.demand - x.grant) m + min (x.demand - (x.grant + min (x.demand - x.grant) m)) n =
      x.grant + min (x.demand - x.grant) (m + n) := by omega
  simp only [spilledTo, sum]

theorem spilledTo_zero (x : PoolLane) : spilledTo 0 x = x := by simp [spilledTo]

theorem spillPass_none : ∀ ls : List PoolLane, spillPass ls 0 = (ls, 0)
  | [] => rfl
  | x :: xs => by simp [spillPass, spillPass_none xs]

/-- A pass gives a cell to every lane with unmet demand, or to those up to the place where none is left. -/
theorem spillPass_lanes : ∀ (ls : List PoolLane) (q : Nat), ∃ k, (k = ls.length ∨ (spillPass ls q).2 = 0) ∧
    ∀ i, (spillPass ls q).1[i]? = ls[i]?.map (spilledTo (if i < k then 1 else 0))
  | [], q => ⟨0, .inl rfl, fun i => by simp [spillPass]⟩
  | x :: xs, 0 => ⟨0, .inr (by rw [spillPass_none]), fun i => by
      simp only [spillPass_none, Nat.not_lt_zero, if_false]
      cases (x :: xs)[i]? <;> simp [spilledTo_zero]⟩
  | x :: xs, q + 1 => by
    have head (q' : Nat) (x' : PoolLane) (hx : x' = spilledTo 1 x)
        (step : spillPass (x :: xs) (q + 1) = (x' :: (spillPass xs q').1, (spillPass xs q').2)) :
        ∃ k, (k = (x :: xs).length ∨ (spillPass (x :: xs) (q + 1)).2 = 0) ∧
          ∀ i, (spillPass (x :: xs) (q + 1)).1[i]? = (x :: xs)[i]?.map (spilledTo (if i < k then 1 else 0)) := by
      obtain ⟨k, ends, lanes⟩ := spillPass_lanes xs q'
      refine ⟨k + 1, by simpa [step] using ends, fun i => ?_⟩
      cases i with
      | zero => simp [step, hx]
      | succ i => simp [step, lanes]
    by_cases unmet : x.grant < x.demand
    · refine head q { x with grant := x.grant + 1 } ?_ (by simp [spillPass, unmet])
      have one : min (x.demand - x.grant) 1 = 1 := by omega
      simp only [spilledTo, one]
    · refine head (q + 1) x ?_ (by simp [spillPass, unmet])
      have no_more : min (x.demand - x.grant) 1 = 0 := by omega
      simp [spilledTo, no_more]

theorem spillPass_sum : ∀ (ls : List PoolLane) (q : Nat),
    ((spillPass ls q).1.map PoolLane.grant).sum + (spillPass ls q).2 = (ls.map PoolLane.grant).sum + q
  | [], q => by simp [spillPass]
  | x :: xs, q => by
    have less := spillPass_sum xs (q - 1)
    have same := spillPass_sum xs q
    unfold spillPass
    split
    · simp only [List.map_cons, List.sum_cons]
      omega
    · simp only [List.map_cons, List.sum_cons]
      omega

theorem spillStage_none : ∀ (n : Nat) (ls : List PoolLane), spillStage n ls 0 = (ls, 0)
  | 0, _ => rfl
  | n + 1, ls => by rw [spillStage, spillPass_none, spillStage_none n]

/-- After the passes each lane has gained `n + 1` cells up to some place and `n` after it, as far as its demand goes; with cells
left, as many cells as there were passes. -/
theorem spillStage_lanes : ∀ (passes : Nat) (ls : List PoolLane) (q : Nat), ∃ n k,
    ((spillStage passes ls q).2 = 0 ∨ n = passes ∧ k = 0) ∧
    ∀ i, (spillStage passes ls q).1[i]? = ls[i]?.map (spilledTo (if i < k then n + 1 else n))
  | 0, ls, q => ⟨0, 0, .inr ⟨rfl, rfl⟩, fun i => by
      simp only [spillStage, Nat.not_lt_zero, if_false]
      cases ls[i]? <;> simp [spilledTo_zero]⟩
  | passes + 1, ls, q => by
    obtain ⟨k, ends, lanes⟩ := spillPass_lanes ls q
    rw [spillStage]
    obtain full | none := ends
    · obtain ⟨n, k', ends', lanes'⟩ := spillStage_lanes passes (spillPass ls q).1 (spillPass ls q).2
      refine ⟨n + 1, k', ends'.imp_right fun ⟨hn, hk⟩ => ⟨by rw [hn], hk⟩, fun i => ?_⟩
      rw [lanes', lanes, Option.map_map]
      cases at_i : ls[i]? with
      | none => rfl
      | some x =>
        have below : i < k := full ▸ (List.getElem?_eq_some_iff.mp at_i).1
        have gained : 1 + (if i < k' then n + 1 else n) = if i < k' then n + 1 + 1 else n + 1 := by split <;> omega
        rw [if_pos below, Option.map_some, Option.map_some, Function.comp_apply, spilledTo_spilledTo, gained]
    · refine ⟨0, k, .inl ?_, fun i => ?_⟩
      · rw [none, spillStage_none]
      · rw [none, spillStage_none, lanes]

theorem spillStage_sum : ∀ (n : Nat) (ls : List PoolLane) (q : Nat),
    ((spillStage n ls q).1.map PoolLane.grant).sum + (spillStage n ls q).2 = (ls.map PoolLane.grant).sum + q
  | 0, _, _ => rfl
  | n + 1, ls, q => by rw [spillStage, spillStage_sum n, spillPass_sum]

/-! ### All stages -/

theorem accrue_grant (p g : Nat) (x : PoolLane) : accrue p { x with grant := g } = { accrue p x with grant := g } := by
  unfold accrue
  split_ifs <;> rfl

@[simp] theorem accrue_terms (p : Nat) (x : PoolLane) : (accrue p x).lane = x.lane ∧ (accrue p x).demand = x.demand ∧
    (accrue p x).urgent = x.urgent ∧ (accrue p x).grant = x.grant ∧ (accrue p x).burst = x.burst := by
  unfold accrue
  split_ifs <;> exact ⟨rfl, rfl, rfl, rfl, rfl⟩

/-- What the urgent stage gives the lane at a place. -/
def firstAt (pool : Nat) (ls : List PoolLane) (i : Nat) (x : PoolLane) : Nat :=
  firstGrant x (pool - urgentDemand (ls.take i))

/-- What its credit buys the lane at a place. -/
def paidAt (pool : Nat) (ls : List PoolLane) (i : Nat) (x : PoolLane) : Nat :=
  min (affordable (accrue pool x))
    (pool - urgentDemand ls - ((ls.take i).map fun y => affordable (accrue pool y)).sum)

/-- The lane at a place after the grant stage. -/
def grantedAt (pool : Nat) (ls : List PoolLane) (i : Nat) (x : PoolLane) : PoolLane :=
  { accrue pool x with grant := firstAt pool ls i x + paidAt pool ls i x
                       credit := (accrue pool x).credit - 1024 * paidAt pool ls i x }

/-- The lanes, and what is left of the pool, after the grant stage. -/
def granted (pool : Nat) (ls : List PoolLane) : List PoolLane × Nat :=
  grantStage ((urgentStage ls pool).1.map (accrue pool)) (urgentStage ls pool).2

theorem accrued_lanes (pool : Nat) (ls : List PoolLane) (i : Nat) : ((urgentStage ls pool).1.map (accrue pool))[i]? =
    ls[i]?.map fun x => { accrue pool x with grant := firstAt pool ls i x } := by
  rw [List.getElem?_map, urgentStage_lanes]
  cases ls[i]? with
  | none => rfl
  | some x => exact congrArg some (accrue_grant pool _ x)

theorem granted_lanes (pool : Nat) (ls : List PoolLane) (i : Nat) :
    (granted pool ls).1[i]? = ls[i]?.map (grantedAt pool ls i) := by
  have afforded : ((urgentStage ls pool).1.map (accrue pool)).map affordable =
      ls.map fun y => affordable (accrue pool y) := by
    refine List.ext_getElem? fun j => ?_
    rw [List.getElem?_map, accrued_lanes, List.getElem?_map]
    cases ls[j]? <;> rfl
  rw [granted, grantStage_lanes, accrued_lanes, List.map_take, afforded, ← List.map_take, urgentStage_left]
  cases ls[i]? <;> rfl

theorem granted_sum (pool : Nat) (ls : List PoolLane) :
    ((granted pool ls).1.map PoolLane.grant).sum + (granted pool ls).2 = pool := by
  have kept : ((urgentStage ls pool).1.map (accrue pool)).map PoolLane.grant = (urgentStage ls pool).1.map PoolLane.grant := by
    rw [List.map_map]
    exact List.map_congr_left fun x _ => (accrue_terms pool x).2.2.2.1
  rw [granted, grantStage_sum, kept, urgentStage_sum]

theorem grantedAt_le (pool : Nat) (ls : List PoolLane) (i : Nat) (x : PoolLane) :
    (grantedAt pool ls i x).grant ≤ (grantedAt pool ls i x).demand ∧ (grantedAt pool ls i x).demand = x.demand := by
  obtain ⟨-, demand, urgent, -⟩ := accrue_terms pool x
  refine ⟨?_, demand⟩
  simp only [grantedAt, firstAt, paidAt, firstGrant, affordable, demand, urgent]
  split <;> omega

/-- Pool sharing as a whole: what the lane at each place is given. -/
theorem sharePool_lanes (pool : Nat) (ls : List PoolLane) : ∃ n k,
    ((sharePool pool ls).2 = 0 ∨ n = 49 ∧ k = 0) ∧ ∀ i, (sharePool pool ls).1[i]? =
      ls[i]?.map fun x => spilledTo (if i < k then n + 1 else n) (grantedAt pool ls i x) := by
  obtain ⟨n, k, ends, lanes⟩ := spillStage_lanes 49 (granted pool ls).1 (granted pool ls).2
  refine ⟨n, k, ends, fun i => (lanes i).trans ?_⟩
  rw [granted_lanes, Option.map_map]
  rfl

theorem sharePool_sum (pool : Nat) (ls : List PoolLane) :
    ((sharePool pool ls).1.map PoolLane.grant).sum + (sharePool pool ls).2 = pool :=
  (spillStage_sum 49 (granted pool ls).1 (granted pool ls).2).trans (granted_sum pool ls)

/-- Settles O23. -/
theorem poolSharingAccountsForEveryCell : Obligations.PoolSharingAccountsForEveryCell := by
  intro pool ls bounded out urgents affords
  obtain ⟨n, k, ends, lanes⟩ := sharePool_lanes pool ls
  have given {y : PoolLane} (hy : y ∈ out.1) :
      ∃ i x, x ∈ ls ∧ y = spilledTo (if i < k then n + 1 else n) (grantedAt pool ls i x) := by
    obtain ⟨i, hi⟩ := List.mem_iff_getElem?.mp hy
    rw [lanes] at hi
    obtain ⟨x, hx, rfl⟩ := Option.map_eq_some_iff.mp hi
    exact ⟨i, x, List.mem_of_getElem? hx, rfl⟩
  refine ⟨sharePool_sum pool ls, ?_, fun y hy => ?_, fun padding y hy => ?_, n, k, fun i x hx => ?_⟩
  · refine List.ext_getElem? fun i => ?_
    rw [List.getElem?_map, lanes, List.getElem?_map]
    cases ls[i]? with
    | none => rfl
    | some x =>
      obtain ⟨lane, demand, -⟩ := accrue_terms pool x
      exact congrArg some (Prod.ext lane demand)
  · obtain ⟨i, x, -, rfl⟩ := given hy
    have within := (grantedAt_le pool ls i x).1
    simp only [spilledTo]
    omega
  · obtain ⟨i, x, hx, rfl⟩ := given hy
    obtain ⟨within, demand⟩ := grantedAt_le pool ls i x
    have few := bounded x hx
    obtain ⟨rfl, rfl⟩ := ends.resolve_left (Nat.pos_iff_ne_zero.mp padding)
    simp only [spilledTo]
    split <;> omega
  · refine (lanes i).trans ?_
    rw [hx]
    obtain ⟨-, demand, urgent, -⟩ := accrue_terms pool x
    have afford (y : PoolLane) : affordable (accrue pool y) = affords y := by
      obtain ⟨-, demand, urgent, -⟩ := accrue_terms pool y
      simp only [affordable, demand, urgent, affords]
    have less (a b : Nat) : x.demand - (a + b) = x.demand - a - b := by omega
    simp only [Option.map_some, spilledTo, grantedAt, firstAt, paidAt, afford, demand, less]
    rfl

end Sys2Proof.Machine
end

/-! ## Proofs: the end of the fetch stage (4.2, 5.3, 7.2, 8.4) -/

section
namespace Sys2Proof.Machine

/-! ### A lane is reached -/

theorem changeTextSource_eq (planned : Source) (t : TextState) : changeTextSource planned t = textReached planned t := rfl

theorem syncShowing_eq (planned : Source) (c : Carousel) :
    syncShowing planned c = { c with showing := showingReached planned c.showing } := by
  cases planned with
  | own => rfl
  | alert id =>
    cases showing : c.showing with
    | none => simp [syncShowing, showingReached, showing]
    | some sh =>
      by_cases same : sh.alert = id
      · simp only [syncShowing, showingReached, showing, same, if_true, Option.map_some]
        rw [← showing]
      · simp [syncShowing, showingReached, showing, same]

/-- A lane's text source and alert showing are brought into line with the plan. -/
def sourcesReached (pl : PlanLane) (s : State) : State :=
  let s1 := s.setTextState pl.entry.lane (changeTextSource pl.text (s.lane pl.entry.lane).text)
  s1.setCarousel pl.entry.lane (syncShowing pl.picture (s1.lane pl.entry.lane).carousel)

theorem sourcesReached_lane (pl : PlanLane) (s : State) : (sourcesReached pl s).lane pl.entry.lane =
    { s.lane pl.entry.lane with
      text := textReached pl.text (s.lane pl.entry.lane).text
      carousel := { (s.lane pl.entry.lane).carousel with
        showing := showingReached pl.picture (s.lane pl.entry.lane).carousel.showing } } := by
  have texted : (s.setTextState pl.entry.lane (changeTextSource pl.text (s.lane pl.entry.lane).text)).lane pl.entry.lane =
      { s.lane pl.entry.lane with text := textReached pl.text (s.lane pl.entry.lane).text } := State.lane_setLane_same _ _ _
  refine (State.lane_setLane_same _ _ _).trans ?_
  dsimp only
  rw [texted, syncShowing_eq]

theorem sourcesReached_others (pl : PlanLane) (s : State) : otherLanesKept pl.entry.lane s (sourcesReached pl s) :=
  fun k hk => (otherLanesKept_setLane _ _ _ k hk).trans (otherLanesKept_setLane _ _ s k hk)

theorem nextEntry_eq (c : Carousel) : nextEntry c = c.jump.getD c.position.entry := by
  unfold nextEntry
  cases c.jump <;> rfl

/-- What starts in a lane as it is reached. -/
def reachedWith (pl : PlanLane) (start : Option (Nat × SlotId)) (s : State) : State :=
  match start with
  | none => s
  | some (e, i) => beginAiring pl.entry.lane e i s

theorem reachLane_eq (s : State) (pl : PlanLane) :
    reachLane s pl = reachedWith pl (airingStart pl (s.lane pl.entry.lane)) (sourcesReached pl s) := by
  have lane := sourcesReached_lane pl s
  have unfolded : reachLane s pl = startAiring pl (sourcesReached pl s) := rfl
  rw [unfolded]
  unfold startAiring airingStart
  simp only [lane]
  simp only [nextEntry_eq]
  by_cases start : pl.halted = false ∧ pl.picture = .own ∧ (s.lane pl.entry.lane).pictureFrom = .own ∧
      (s.lane pl.entry.lane).carousel.airing = none
  · rw [if_pos start]
    obtain ⟨running, planned, own, quiet⟩ := start
    rw [if_pos (by simp [running, planned, own, quiet])]
    cases (s.lane pl.entry.lane).carousel.entries[
      (s.lane pl.entry.lane).carousel.jump.getD (s.lane pl.entry.lane).carousel.position.entry]? <;> rfl
  · rw [if_neg start, if_neg fun all => start ?_]
    · rfl
    · simpa [and_assoc] using all

theorem beginAiring_lane (l : LaneId) (e : Nat) (i : SlotId) (s : State) : (beginAiring l e i s).lane l =
    { s.lane l with carousel := { (s.lane l).carousel with
      airing := some ⟨i, (s.slot i).record.version, 0⟩, position := ⟨.on, e⟩, jump := none } } := by
  unfold beginAiring
  rw [retally_lane]
  exact State.lane_setLane_same _ _ _

theorem beginAiring_others (l : LaneId) (e : Nat) (i : SlotId) (s : State) : otherLanesKept l s (beginAiring l e i s) :=
  fun k hk => by
    unfold beginAiring
    rw [retally_lane]
    exact State.lane_setLane_other _ _ _ _ hk

theorem reachLane_lane (s : State) (pl : PlanLane) :
    (reachLane s pl).lane pl.entry.lane = laneReached s pl (s.lane pl.entry.lane) ∧
    otherLanesKept pl.entry.lane s (reachLane s pl) := by
  rw [reachLane_eq]
  unfold laneReached
  have lane := sourcesReached_lane pl s
  have others := sourcesReached_others pl s
  cases airingStart pl (s.lane pl.entry.lane) with
  | none => exact ⟨lane, others⟩
  | some start =>
    refine ⟨(beginAiring_lane _ _ _ _).trans ?_, fun k hk => (beginAiring_others _ _ _ _ k hk).trans (others k hk)⟩
    rw [lane]
    rfl

theorem beginAiring_store (l : LaneId) (e : Nat) (i : SlotId) (s : State) :
    (beginAiring l e i s).store = { s.store with slots := (beginAiring l e i s).store.slots } ∧
    (∀ k, ((beginAiring l e i s).slot k).record = (s.slot k).record) ∧
    ∀ k, ((beginAiring l e i s).slot k).users = (s.slot k).users + if i = k then 1 else 0 := by
  obtain ⟨s1, begun, store⟩ : ∃ s1, beginAiring l e i s = retally [] [i] s1 ∧ s1.store = s.store := ⟨_, rfl, rfl⟩
  rw [begun]
  have slot (k : SlotId) : s1.slot k = s.slot k := by rw [State.slot, store]; rfl
  refine ⟨?_, fun k => ?_, fun k => ?_⟩
  · rw [← store]
    exact retally_rises i s1
  · rw [(retally_onlyUsers [] [i] s1).2 k, slot]
  · rw [retally_users, List.count_nil, List.count_singleton, slot]
    simp only [Nat.sub_zero, beq_iff_eq]

theorem reachLane_store (s : State) (pl : PlanLane) : (reachLane s pl).store = { s.store with
      slots := (reachLane s pl).store.slots } ∧
    (∀ i, ((reachLane s pl).slot i).record = (s.slot i).record) ∧
    ∀ i, ((reachLane s pl).slot i).users = (s.slot i).users +
      if (airingStart pl (s.lane pl.entry.lane)).map Prod.snd = some i then 1 else 0 := by
  rw [reachLane_eq]
  cases airingStart pl (s.lane pl.entry.lane) with
  | none => exact ⟨rfl, fun _ => rfl, fun _ => rfl⟩
  | some start =>
    obtain ⟨store, record, users⟩ := beginAiring_store pl.entry.lane start.1 start.2 (sourcesReached pl s)
    refine ⟨store, record, fun i => (users i).trans ?_⟩
    simp only [Option.map_some, Option.some.injEq]
    rfl

/-! ### All lanes of the plan are reached -/

theorem laneReached_congr {s u : State} (record : ∀ i, (u.slot i).record = (s.slot i).record) (pl : PlanLane) (x : Lane) :
    laneReached u pl x = laneReached s pl x := by
  unfold laneReached
  cases airingStart pl x with
  | none => rfl
  | some start => simp only [record]

theorem lane_ne_of_fresh {pl k : PlanLane} {pls : List PlanLane} (fresh : pl.entry.lane ∉ pls.map fun q => q.entry.lane)
    (hk : k ∈ pls) : k.entry.lane ≠ pl.entry.lane := fun e =>
  fresh (List.mem_map.mpr ⟨k, hk, e⟩)

theorem reachLanes_others {l : LaneId} : ∀ {pls : List PlanLane} (_ : ∀ pl ∈ pls, pl.entry.lane ≠ l) (s : State),
    (pls.foldl reachLane s).lane l = s.lane l
  | [], _, _ => rfl
  | pl :: pls, away, s => by
    rw [List.foldl_cons, reachLanes_others (fun k hk => away k (List.mem_cons_of_mem _ hk))]
    exact (reachLane_lane s pl).2 l fun e => away pl List.mem_cons_self e.symm

theorem reachLanes_store : ∀ (pls : List PlanLane) (s : State),
    (pls.foldl reachLane s).store = { s.store with slots := (pls.foldl reachLane s).store.slots } ∧
    ∀ i, ((pls.foldl reachLane s).slot i).record = (s.slot i).record
  | [], _ => ⟨rfl, fun _ => rfl⟩
  | pl :: pls, s => by
    obtain ⟨store, record⟩ := reachLanes_store pls (reachLane s pl)
    obtain ⟨store', record', -⟩ := reachLane_store s pl
    refine ⟨store.trans ?_, fun i => (record i).trans (record' i)⟩
    rw [store']
    rfl

theorem reachLanes_lane {pl : PlanLane} : ∀ {pls : List PlanLane} (_ : (pls.map fun k => k.entry.lane).Nodup) (_ : pl ∈ pls)
    (s : State), (pls.foldl reachLane s).lane pl.entry.lane = laneReached s pl (s.lane pl.entry.lane)
  | k :: pls, nodup, mem, s => by
    obtain ⟨fresh, nodup⟩ := List.nodup_cons.mp nodup
    rw [List.foldl_cons]
    obtain rfl | later := List.mem_cons.mp mem
    · rw [reachLanes_others fun q hq => lane_ne_of_fresh fresh hq]
      exact (reachLane_lane s pl).1
    · have other : pl.entry.lane ≠ k.entry.lane := lane_ne_of_fresh fresh later
      rw [reachLanes_lane nodup later, (reachLane_lane s k).2 _ other]
      exact laneReached_congr (reachLane_store s k).2.1 pl _

theorem reachLanes_users (i : SlotId) : ∀ {pls : List PlanLane} (_ : (pls.map fun k => k.entry.lane).Nodup) (s : State),
    ((pls.foldl reachLane s).slot i).users = (s.slot i).users +
      pls.countP fun pl => decide ((airingStart pl (s.lane pl.entry.lane)).map Prod.snd = some i)
  | [], _, _ => rfl
  | pl :: pls, nodup, s => by
    obtain ⟨fresh, nodup⟩ := List.nodup_cons.mp nodup
    have kept : pls.countP (fun k => decide ((airingStart k ((reachLane s pl).lane k.entry.lane)).map Prod.snd = some i)) =
        pls.countP fun k => decide ((airingStart k (s.lane k.entry.lane)).map Prod.snd = some i) :=
      List.countP_congr fun k hk => by
        rw [(reachLane_lane s pl).2 _ (lane_ne_of_fresh fresh hk)]
    rw [List.foldl_cons, reachLanes_users i nodup, (reachLane_store s pl).2.2, kept, List.countP_cons]
    simp only [decide_eq_true_eq]
    omega

/-! ### The wants and the grants -/

theorem pictureChoice_eq (p : Plan) (pl : PlanLane) (s : State) : pictureChoice p pl s = pictureShown p pl s := by
  unfold pictureChoice pictureShown
  cases pl.picture with
  | own =>
    dsimp only
    split
    · rfl
    · cases (s.lane pl.entry.lane).carousel.airing <;> rfl
  | alert id =>
    dsimp only
    cases p.alert? id with
    | none => rfl
    | some a =>
      cases (s.lane pl.entry.lane).carousel.showing with
      | none => rfl
      | some sh =>
        dsimp only [Option.bind_some]
        cases a.picture <;> rfl

theorem audioOutcome_congr {p : Plan} {c c' : Carriage} (fetched : c'.fetched = c.fetched) (pl : PlanLane) :
    audioOutcome p c' pl = audioOutcome p c pl := by
  unfold audioOutcome regionOutcome Carriage.fetchOf
  rw [fetched]

theorem poolLane_eq (p : Plan) (c : Carriage) (s : State) (pl : PlanLane) :
    poolLane s (laneWants p c s pl) = sharingInput p c s pl := by
  simp only [poolLane, laneWants, sharingInput, LaneWants.textWant, LaneWants.spare, pictureChoice_eq, PlanLane.urgent]

theorem sharingInput_congr {p : Plan} {c c' : Carriage} (fetched : c'.fetched = c.fetched) (s : State) :
    sharingInput p c' s = sharingInput p c s := by
  funext pl
  simp only [sharingInput, audioOutcome_congr fetched]

/-- The lanes of a plan after pool sharing. -/
def sharedLanes (p : Plan) (c : Carriage) (s : State) : List PoolLane :=
  (sharePool p.poolSize (rotating s.cursor (p.lanes.map (sharingInput p c s)))).1

theorem sharePool_terms (pool : Nat) (ls : List PoolLane) (f : PoolLane → LaneId × Nat)
    (hf : f = fun x => (x.lane, x.demand)) : (sharePool pool ls).1.map f = ls.map f := by
  obtain ⟨n, k, -, lanes⟩ := sharePool_lanes pool ls
  refine List.ext_getElem? fun i => ?_
  rw [List.getElem?_map, lanes, List.getElem?_map, hf]
  cases ls[i]? with
  | none => rfl
  | some x =>
    obtain ⟨lane, demand, -⟩ := accrue_terms pool x
    exact congrArg some (Prod.ext lane demand)

theorem mem_rotating (cursor : LaneId) (ls : List PoolLane) (x : PoolLane) : x ∈ rotating cursor ls ↔ x ∈ ls := by
  simp only [rotating, List.mem_append, List.mem_filter, decide_eq_true_eq]
  rw [← and_or_left]
  exact and_iff_left (le_or_gt _ _)

theorem sharedLanes_lane {p : Plan} {c : Carriage} {s : State} {pl : PlanLane} (h : pl ∈ p.lanes) :
    ∃ z ∈ sharedLanes p c s, z.lane = pl.entry.lane := by
  have mem : (pl.entry.lane, (sharingInput p c s pl).demand) ∈
      (sharedLanes p c s).map fun x => (x.lane, x.demand) := by
    rw [sharedLanes, sharePool_terms _ _ _ rfl]
    exact List.mem_map.mpr ⟨_, (mem_rotating _ _ _).mpr (List.mem_map_of_mem h), rfl⟩
  obtain ⟨z, hz, e⟩ := List.mem_map.mp mem
  exact ⟨z, hz, congrArg Prod.fst e⟩

theorem find?_lane {xs : List PoolLane} {z : PoolLane} {l : LaneId} (mem : z ∈ xs) (lane : z.lane = l) :
    ∃ y, xs.find? (fun x => x.lane = l) = some y ∧ y ∈ xs ∧ y.lane = l := by
  have found : (xs.find? fun x => x.lane = l).isSome = true := by
    rw [List.find?_isSome]
    exact ⟨z, mem, by simpa using lane⟩
  obtain ⟨y, hy⟩ := Option.isSome_iff_exists.mp found
  exact ⟨y, hy, List.mem_of_find?_eq_some hy, by simpa using List.find?_some hy⟩

/-- The pool lane found for a lane of the plan. -/
def poolLaneOf (p : Plan) (c : Carriage) (s : State) (pl : PlanLane) : Option PoolLane :=
  (sharedLanes p c s).find? fun x => x.lane = pl.entry.lane

theorem poolLaneOf_some {p : Plan} {c : Carriage} {s : State} {pl : PlanLane} (h : pl ∈ p.lanes) :
    ∃ z, poolLaneOf p c s pl = some z ∧ z ∈ sharedLanes p c s ∧ z.lane = pl.entry.lane := by
  obtain ⟨z, hz, lane⟩ := sharedLanes_lane (c := c) (s := s) h
  exact find?_lane hz lane

theorem shareItems_lanes (p : Plan) (c : Carriage) (s : State) : (shareItems p c s).lanes =
    p.lanes.filterMap fun pl => (poolLaneOf p c s pl).map (layLane (laneWants p c s pl)) := by
  have inputs : (p.lanes.map (laneWants p c s)).map (poolLane s) = p.lanes.map (sharingInput p c s) := by
    rw [List.map_map]
    exact List.map_congr_left fun pl _ => poolLane_eq p c s pl
  have shared : (shareItems p c s).lanes = layLanes (p.lanes.map (laneWants p c s)) (sharedLanes p c s) := by
    rw [sharedLanes, ← inputs]
    rfl
  rw [shared, layLanes, List.filterMap_map]
  refine List.filterMap_congr fun pl _ => ?_
  simp only [Function.comp_apply, poolLaneOf]
  have planned : (laneWants p c s pl).planned = pl := rfl
  rw [planned]
  cases (sharedLanes p c s).find? _ <;> rfl

theorem shareItems_laneIds (p : Plan) (c : Carriage) (s : State) :
    (shareItems p c s).lanes.map LaneCarriage.lane = p.lanes.map fun pl => pl.entry.lane := by
  rw [shareItems_lanes, List.map_filterMap, ← List.filterMap_eq_map]
  refine List.filterMap_congr fun pl hpl => ?_
  obtain ⟨z, hz, -⟩ := poolLaneOf_some (c := c) (s := s) hpl
  rw [hz]
  rfl

theorem shareItems_laneShared {p : Plan} {c : Carriage} {s : State} {pl : PlanLane} (h : pl ∈ p.lanes) :
    ∃ lc ∈ (shareItems p c s).lanes, laneShared p (shareItems p c s) s.cursor s pl lc := by
  obtain ⟨z, found, mem, lane⟩ := poolLaneOf_some (c := c) (s := s) h
  refine ⟨layLane (laneWants p c s pl) z, ?_, ?_⟩
  · rw [shareItems_lanes]
    exact List.mem_filterMap.mpr ⟨pl, h, by rw [found]; rfl⟩
  · have fetched : (shareItems p c s).fetched = c.fetched := rfl
    refine ⟨rfl, (audioOutcome_congr fetched pl).symm, ⟨z, ?_, lane, rfl, rfl, rfl⟩, rfl, rfl, pictureChoice_eq p pl s, rfl, rfl⟩
    rw [sharingInput_congr fetched]
    exact mem

/-! ### Side items are under way -/

/-- The fetch stage ends in a state. -/
theorem layItems_laid (p : Plan) (c : Carriage) (s : State) : ∃ c', layItems p c s = setAssembler (.assembling p c') (p.lanes.foldl reachLane s) ∧
    c' = shareItems p c (p.lanes.foldl reachLane s) ∧ c'.fetched = c.fetched ∧ sideItemsLaid p c' s (layItems p c s) := by
  refine ⟨_, rfl, rfl, rfl, ?_⟩
  have touch := reachLanes_touches p.lanes s
  have cursor : (p.lanes.foldl reachLane s).cursor = s.cursor := touch.same .poolCursor
  obtain ⟨store, record⟩ := reachLanes_store p.lanes s
  refine ⟨rfl, rfl, shareItems_laneIds _ _ _, ?_, rfl, fun l away => reachLanes_others away s, store, record,
    (touch.trans (setAssembler_touches _ _) (zs := .assembler :: reachAspects)).posted, fun nodup =>
      ⟨fun pl hpl => ⟨reachLanes_lane nodup hpl s, ?_⟩, fun i => reachLanes_users i nodup s⟩⟩
  · exact congrArg (nextCursor · _) cursor
  · have shared := shareItems_laneShared (c := c) (s := p.lanes.foldl reachLane s) hpl
    rw [cursor] at shared
    exact shared

end Sys2Proof.Machine
end

/-! ## Proofs: the beginning of an assembly (3.1, 3.4) -/

section
namespace Sys2Proof.Machine

/-! ### The plan captured -/

theorem capturePlan_captured (s : State) : planCaptured s (capturePlan s) := by
  refine ⟨rfl, rfl, ?_, rfl, rfl, ?_, fun pl hpl => ?_, fun a => ?_, ?_⟩
  · simp only [capturePlan, announceNow]
    cases s.maps.upcoming <;> exact ⟨rfl, rfl⟩
  · rw [capturePlan, List.map_map]
    exact List.map_id _
  · obtain ⟨e, -, rfl⟩ := List.mem_map.mp hpl
    exact ⟨decide_eq_true_iff, rfl, rfl, rfl⟩
  · have kept : a ∈ (alertsById s).filter (fun a => a.state ≠ .ending) ↔ a ∈ alertsById s ∧ a.state ≠ .ending := by
      rw [List.mem_filter, decide_eq_true_eq]
    exact kept.trans (and_congr_left' (mem_alertsById s a))
  · exact (alertsById_pairwise s).filter _

theorem isSource_iff (p : Plan) (l : LaneId) :
    p.isSource l = true ↔ ∃ a ∈ p.alerts, a.take.audio = true ∧ a.source = some l := by
  simp only [Plan.isSource, List.any_eq_true, Bool.and_eq_true, decide_eq_true_eq]

theorem mem_fetchSet (p : Plan) (l : LaneId) : l ∈ fetchSet p ↔ toBeFetched p l := by
  have decided : l ∈ fetchSet p ↔ inFetchSet p l = true := by simp [fetchSet]
  rw [decided]
  unfold inFetchSet toBeFetched
  simp only [← isSource_iff]
  cases p.lane? l with
  | none => rfl
  | some pl => simp only [Bool.and_eq_true, Bool.or_eq_true, Bool.not_eq_true', decide_eq_true_eq]

/-! ### An assembly begins -/

theorem layItems_frames (p : Plan) (c : Carriage) (s : State) :
    ∃ c', c'.fetched = c.fetched ∧ (layItems p c s).frames = { s.frames with assembler := .assembling p c' } ∧
      sideItemsLaid p c' s (layItems p c s) := by
  obtain ⟨c', eq, -, fetched, laid⟩ := layItems_laid p c s
  refine ⟨c', fetched, ?_, laid⟩
  have frames : (p.lanes.foldl reachLane s).frames = s.frames :=
    (reachLanes_touches p.lanes s).changesOnly (ps := [.lanes, .store, .posted]) (by decide) .frames (by decide)
  rw [eq]
  exact congrArg (fun f : FrameControl => { f with assembler := .assembling p c' }) frames

theorem goOnFetching_empty {p : Plan} {c : Carriage} (none : c.toFetch = []) (s : State) :
    goOnFetching p c s = layItems p c s := by
  rw [goOnFetching, none]
  exact if_pos rfl

theorem goOnFetching_more {p : Plan} {c : Carriage} (more : c.toFetch ≠ []) (s : State) :
    goOnFetching p c s = setAssembler (.assembling p c) s := by
  rw [goOnFetching, List.isEmpty_eq_false_iff.mpr more]
  exact if_neg Bool.false_ne_true

/-- What the beginning of an assembly leaves, once any due switch-over is made. -/
theorem beginAssembly_begun (s : State) :
    ∃ c, assemblyBegun (switchOver s) (beginAssembly s) (capturePlan (switchOver s)) c := by
  let u := switchOver s
  let p := capturePlan u
  have begun : beginAssembly s = goOnFetching p (startCarriage p u) u := rfl
  have maps : (beginAssembly s).maps = u.maps := by
    rw [begun]
    exact (goOnFetching_touches p _ u).changesOnly (ps := [.frames, .lanes, .store, .posted]) (by decide) .maps (by decide)
  have sorted : (fetchSet p).Pairwise (· < ·) := (finRange_pairwise_lt 24).filter _
  by_cases none : fetchSet p = []
  · obtain ⟨c, fetched, frames, laid⟩ := layItems_frames p (startCarriage p u) u
    rw [← goOnFetching_empty none, ← begun] at frames laid
    exact ⟨c, frames, maps, capturePlan_captured u, _, sorted, mem_fetchSet p, fun some => absurd none some,
      fun _ => ⟨fetched, laid⟩⟩
  · rw [goOnFetching_more none] at begun
    refine ⟨startCarriage p u, by rw [begun]; rfl, maps, capturePlan_captured u, _, sorted, mem_fetchSet p, fun _ => ?_,
      fun none' => absurd none' none⟩
    rw [begun]
    exact ⟨rfl, rfl, rfl, rfl⟩

end Sys2Proof.Machine
end

/-! ## Proofs: RUN becoming 1 (3.1) -/

section
namespace Sys2Proof.Machine

/-! ### The first mirrors -/

/-- The state with more posted. -/
def State.posting (s : State) (more : List Posted) : State := { s with posted := s.posted ++ more }

theorem posting_posting (s : State) (a b : List Posted) : (s.posting a).posting b = s.posting (a ++ b) :=
  congrArg (fun x => { s with posted := x }) (List.append_assoc _ _ _)

theorem posting_nil (s : State) : s.posting [] = s :=
  congrArg (fun x => { s with posted := x }) (List.append_nil _)

/-- Writes posted one after the other that read nothing of what is posted. -/
theorem foldl_posting {α : Type} {f : State → α → State} {g : State → α → Posted}
    (step : ∀ s a, f s a = s.posting [g s a]) (same : ∀ s more a, g (State.posting s more) a = g s a) :
    ∀ (as : List α) (s : State), as.foldl f s = s.posting (as.map (g s))
  | [], s => (posting_nil s).symm
  | a :: as, s => by
    have later : g (s.posting [g s a]) = g s := funext fun b => same s _ b
    rw [List.foldl_cons, step, foldl_posting step same as, later, posting_posting]
    rfl

theorem postDirectoryEntries_eq (is : List SlotId) (s : State) : is.foldl (fun s i => postDirectoryEntry i s) s =
    s.posting (is.map fun i => .write [⟨addrAt s.regs.anchor (Config.directoryMirrorOffset + 16 * i.val),
      directoryMirror (s.slot i)⟩]) :=
  foldl_posting (f := fun s i => postDirectoryEntry i s) (g := fun s i =>
    .write [⟨addrAt s.regs.anchor (Config.directoryMirrorOffset + 16 * i.val), directoryMirror (s.slot i)⟩])
    (fun _ _ => rfl) (fun _ _ _ => rfl) is s

/-- The write of a record behind the anchor. -/
def recordWrite (offset : Nat) (bytes : List Byte) (s : State) : Posted := .write [⟨addrAt s.regs.anchor offset, bytes⟩]

theorem postAlertRecords_eq (free : List Byte) (ps : List PlaceId) (s : State) : ps.foldl (fun s p =>
      s.postRecord (addrAt s.regs.anchor (Config.alertMirrorOffset + 32 * p.val)) free) s =
    s.posting (ps.map fun p => recordWrite (Config.alertMirrorOffset + 32 * p.val) free s) :=
  have posts := foldl_posting (g := fun s (p : PlaceId) => recordWrite (Config.alertMirrorOffset + 32 * p.val) free s)
    (f := fun s p => s.postRecord (addrAt s.regs.anchor (Config.alertMirrorOffset + 32 * p.val)) free)
    (fun _ _ => by rfl) (fun _ _ _ => by rfl)
  posts ps s

theorem writeFirstMirrors_eq (s : State) : writeFirstMirrors s = s.posting (firstMirrors s) := by
  unfold writeFirstMirrors firstMirrors
  dsimp only
  rw [postDirectoryEntries_eq, postAlertRecords_eq, posting_posting]
  exact rfl

theorem firstRun_eq (s : State) :
    firstRun s = { s with ran := true, posted := s.posted ++ if s.ran then [] else firstMirrors s } := by
  unfold firstRun
  cases ran : s.ran with
  | true =>
    rw [if_pos rfl, if_pos rfl, List.append_nil, ← ran]
  | false =>
    rw [if_neg Bool.false_ne_true, if_neg Bool.false_ne_true, writeFirstMirrors_eq]
    rfl

/-! ### RUN becomes 1 -/

/-- The reader as RUN becomes 1. -/
def readerSet (ms : Byte) (x : Reader) : Reader :=
  { x with
    timer := if ms = 0 then none else some ms
    sweep := if x.owed = true ∧ x.sweep = .idle then .readingHands else x.sweep
    owed := x.owed && decide (x.sweep ≠ .idle) }

/-- The state in which RUN has become 1 and the assembly begins. -/
def runStarted (ms : Byte) (s : State) : State :=
  { s with
    regs := { s.regs with run := true, sweepMs := ms }
    reader := readerSet ms s.reader
    ran := true
    posted := s.posted ++ if s.ran then [] else firstMirrors s }

theorem owedSweep_eq (s : State) : owedSweep s = s.setReader { s.reader with
    sweep := if s.reader.owed = true ∧ s.reader.sweep = .idle then .readingHands else s.reader.sweep
    owed := s.reader.owed && decide (s.reader.sweep ≠ .idle) } := by
  unfold owedSweep
  by_cases begins : s.reader.owed = true ∧ s.reader.sweep = .idle
  · rw [if_pos begins, if_pos (by simpa using begins)]
    have cleared : (s.reader.owed && decide (s.reader.sweep ≠ .idle)) = false := by simp [begins.2]
    rw [cleared]
    rfl
  · rw [if_neg begins, if_neg (by simpa using begins)]
    have kept : (s.reader.owed && decide (s.reader.sweep ≠ .idle)) = s.reader.owed := by
      cases owed : s.reader.owed with
      | false => rfl
      | true => simpa [owed] using begins
    rw [kept]
    rfl

theorem writeRunctl_starts {s : State} (stopped : s.regs.run = false) (ms : Byte) (begun : List LaneId) :
    writeRunctl true ms begun s = beginAssembly (runStarted ms s) := by
  unfold writeRunctl
  dsimp only
  rw [stopped, if_neg Bool.false_ne_true, if_pos rfl]
  unfold runBecomesSet
  rw [firstRun_eq, owedSweep_eq]
  rfl

theorem sideItemsLaid.onlyUsers {p : Plan} {c : Carriage} {u t : State} (laid : sideItemsLaid p c u t) : onlyUsers u t := by
  obtain ⟨-, -, -, -, -, -, store, record, -⟩ := laid
  refine ⟨?_, record⟩
  rw [store]

theorem assemblyBegun.onlyUsers {u t : State} {p : Plan} {c : Carriage} (begun : assemblyBegun u t p c) : onlyUsers u t := by
  obtain ⟨-, -, -, lanes, -, -, some_lane, no_lane⟩ := begun
  by_cases none : lanes = []
  · exact (no_lane none).2.onlyUsers
  · obtain ⟨-, -, store, -⟩ := some_lane none
    exact ⟨by rw [store], fun i => by rw [State.slot, store]; rfl⟩

/-- Settles O5. -/
theorem runSetBeginsAnAssembly : Obligations.RunSetBeginsAnAssembly := by
  intro ms s
  refine ⟨fun stopped => ?_, fun running => ?_⟩
  · have run : exec (.runSet ms) s = .next (beginAssembly (runStarted ms s)) :=
      congrArg Host.Outcome.next (writeRunctl_starts stopped ms [])
    obtain ⟨c, begun⟩ := beginAssembly_begun (runStarted ms s)
    have began := beginAssembly_touches (runStarted ms s)
    have only := began.changesOnly (ps := [.lanes, .maps, .frames, .store, .posted])
    have regs : (beginAssembly (runStarted ms s)).regs = _ := only .regs (by decide)
    have reader : (beginAssembly (runStarted ms s)).reader = readerSet ms s.reader := only .reader (by decide)
    have switched := (switchOver_touches (runStarted ms s)).changesOnly (ps := [.lanes, .maps])
    have store : (switchOver (runStarted ms s)).store = s.store := switched .store (by decide)
    have frames : (switchOver (runStarted ms s)).frames = s.frames := switched .frames (by decide)
    obtain ⟨users, records⟩ := begun.onlyUsers
    obtain ⟨-, maps, captured, -⟩ := id begun
    obtain ⟨counter, -, -, -, -, entries, -⟩ := captured
    refine ⟨_, _, c, run, regs, by rw [reader]; rfl, by rw [reader]; rfl, by rw [reader]; rfl, by rw [reader]; rfl,
      by rw [reader]; rfl, only .ran (by decide), ?_, by rw [counter, frames], by rw [entries, maps], ⟨?_, fun i => ?_⟩,
      exec_touch _ run⟩
    · rw [regs, reader]
      exact begun
    · rw [users, store]
    · rw [records, State.slot, store]
      rfl
  · have same : writeRunctl true ms [] s = retime s.regs.sweepMs (s.setRegs { s.regs with sweepMs := ms }) := by
      rw [← writeRunctl_same, running]
    refine ⟨_, congrArg Host.Outcome.next same, retime_regs _ _, ?_, ?_⟩
    · rw [retime_reader]
      refine congrArg (fun x => { s.reader with timer := x }) ?_
      have now : (s.setRegs { s.regs with sweepMs := ms }).regs.run = true := running
      rw [now]
      show (if true = true ∧ ms ≠ s.regs.sweepMs then (if ms = 0 then none else some ms) else s.reader.timer) = _
      by_cases kept : s.regs.sweepMs = ms
      · rw [if_pos kept, if_neg fun h => h.2 kept.symm]
      · rw [if_neg kept, if_pos ⟨rfl, fun h => kept h.symm⟩]
    · exact (changesOnly_setRegs _ s).then (retime_changesOnly _ _)

end Sys2Proof.Machine
end

/-! ## Proofs: an assembly is thrown away (2.6, 3.1) -/

section
namespace Sys2Proof.Machine

/-! ### Late drops -/

theorem toNat_satInc (n : Half) : (satInc n).toNat = min 65535 (n.toNat + 1) := by
  have below := n.isLt
  unfold satInc
  split
  next full => rw [full]; rfl
  next room =>
    have short : n.toNat ≠ 65535 := fun e => room (BitVec.eq_of_toNat_eq e)
    rw [BitVec.toNat_add]
    change (n.toNat + 1) % 65536 = _
    omega

/-- A 16-bit saturating count raised some times. -/
def satAdd : Nat → Half → Half
  | 0, n => n
  | k + 1, n => satAdd k (satInc n)

theorem toNat_satAdd : ∀ (k : Nat) (n : Half), (satAdd k n).toNat = min 65535 (n.toNat + k)
  | 0, n => by
    have below := n.isLt
    simp only [satAdd]
    omega
  | k + 1, n => by
    rw [satAdd, toNat_satAdd k, toNat_satInc]
    omega

/-- A unit that lane `l`'s feed supplied and some region took. -/
def suppliedBy (l : LaneId) (f : Fetched) : Bool :=
  decide (f.lane = l) && (match f.outcome with | .unit _ _ carried => carried | .nothing _ => false)

/-- A lane with late drops added. -/
def withDrops (k : Nat) (x : Lane) : Lane :=
  { x with counts := { x.counts with lateDrop := satAdd k x.counts.lateDrop } }

theorem dropFetched_lane (l : LaneId) (s : State) (f : Fetched) :
    (dropFetched s f).lane l = withDrops (if suppliedBy l f then 1 else 0) (s.lane l) := by
  obtain ⟨k, o⟩ := f
  cases o with
  | nothing cause =>
    rw [if_neg (by simp [suppliedBy])]
    rfl
  | unit len data carried =>
    cases carried with
    | false =>
      rw [if_neg (by simp [suppliedBy])]
      rfl
    | true =>
      by_cases own : k = l
      · subst own
        rw [if_pos (by simp [suppliedBy])]
        exact State.lane_setLane_same _ _ _
      · rw [if_neg (by simp [suppliedBy, own])]
        exact State.lane_setLane_other _ _ _ _ fun e => own e.symm

theorem satAdd_add : ∀ (j k : Nat) (n : Half), satAdd k (satAdd j n) = satAdd (j + k) n
  | 0, k, n => by rw [Nat.zero_add]; rfl
  | j + 1, k, n => by
    rw [Nat.add_right_comm]
    exact satAdd_add j k (satInc n)

theorem dropFetched_lanes (l : LaneId) : ∀ (fs : List Fetched) (s : State),
    (fs.foldl dropFetched s).lane l = withDrops (fs.countP (suppliedBy l)) (s.lane l)
  | [], _ => rfl
  | f :: fs, s => by
    rw [List.foldl_cons, dropFetched_lanes l fs, dropFetched_lane, List.countP_cons, Nat.add_comm]
    simp only [withDrops, satAdd_add]

theorem dropFetched_changesOnly (fs : List Fetched) (s : State) : changesOnly [.lanes] s (fs.foldl dropFetched s) :=
  (touches_foldl dropFetched_touches fs s).changesOnly

/-! ### The assembly is thrown away -/

theorem stragglersOf_eq (p : Plan) (c : Carriage) (begun : List LaneId) {s : State}
    (assembling : s.frames.assembler = .assembling p c) :
    stragglersOf p c begun s.frames.stragglers = fetchesBegun s begun := by
  unfold stragglersOf fetchesBegun
  rw [assembling]
  dsimp only
  refine congrArg (List.map _) (List.filter_congr fun l _ => ?_)
  rw [List.contains_eq_mem]
  refine congrArg (decide (l ∈ begun) && ·) ?_
  rw [Bool.eq_iff_iff]
  simp

/-- What is left when the assembly in flight or the finished frame is thrown away. -/
theorem dropAssembly_leaves (begun : List LaneId) (s : State) :
    (dropAssembly begun s).frames =
      { s.frames with assembler := .stopped, stragglers := s.frames.stragglers ++ fetchesBegun s begun } ∧
    (∀ l, (dropAssembly begun s).lane l = withDrops (s.frames.assembler.carriedUnits l) (s.lane l)) ∧
    changesOnly [.lanes, .frames] s (dropAssembly begun s) := by
  have setFrames (f : FrameControl) (t : State) : changesOnly [.frames] t (t.setFrames f) := fun part hpart => by
    cases part <;> first | rfl | exact absurd hpart (by decide)
  unfold dropAssembly
  cases assembler : s.frames.assembler with
  | stopped =>
    have none : fetchesBegun s begun = [] := by unfold fetchesBegun; rw [assembler]
    refine ⟨?_, fun _ => rfl, changesOnly_refl _ _⟩
    have same : ({ s.frames with assembler := .stopped } : FrameControl) = s.frames := by rw [← assembler]
    rw [none, List.append_nil]
    exact same.symm
  | assembling p c =>
    have kept := dropFetched_changesOnly c.fetched s
    refine ⟨?_, fun l => dropFetched_lanes l c.fetched s, kept.then (setFrames _ _)⟩
    have frames : (c.fetched.foldl dropFetched s).frames = s.frames := kept .frames (by decide)
    rw [← stragglersOf_eq p c begun assembler, ← frames]
    rfl
  | ready p c frame =>
    have kept := dropFetched_changesOnly c.fetched s
    have none : fetchesBegun s begun = [] := by unfold fetchesBegun; rw [assembler]
    refine ⟨?_, fun l => dropFetched_lanes l c.fetched s, kept.then (setFrames _ _)⟩
    have frames : (c.fetched.foldl dropFetched s).frames = s.frames := kept .frames (by decide)
    rw [none, List.append_nil, ← frames]
    rfl

/-! ### RUN becomes 0 -/

/-- A sweep as RUN becomes 0. -/
def sweepHalted : Sweep → Sweep
  | .visiting r i rest _ => .visiting r i rest true
  | _ => .idle

theorem haltSweep_eq (s : State) : haltSweep s = s.setReader { s.reader with sweep := sweepHalted s.reader.sweep } := by
  unfold haltSweep
  cases sweep : s.reader.sweep with
  | idle =>
    have same : ({ s.reader with sweep := .idle } : Reader) = s.reader := by rw [← sweep]
    exact congrArg s.setReader same.symm
  | readingHands => rfl
  | visiting r i rest last => rfl

/-- Settles O6. -/
theorem runClearThrowsTheFrameAway : Obligations.RunClearThrowsTheFrameAway := by
  intro ms begun s
  refine ⟨fun stopped => ?_, fun running => ?_⟩
  · have same : writeRunctl false ms begun s = s.setRegs { s.regs with sweepMs := ms } := by
      rw [← stopped, writeRunctl_same]
      unfold retime
      have off : (s.setRegs { s.regs with sweepMs := ms }).regs.run = false := stopped
      rw [off]
      exact if_neg Bool.false_ne_true
    exact ⟨_, congrArg Host.Outcome.next same, rfl, changesOnly_setRegs _ _⟩
  · let v := (s.setRegs { s.regs with run := false, sweepMs := ms }).setReader
      { s.reader with timer := none, sweep := sweepHalted s.reader.sweep }
    have run : exec (.runClear ms begun) s = .next (dropAssembly begun v) := by
      refine congrArg Host.Outcome.next ?_
      unfold writeRunctl
      dsimp only
      rw [running, if_neg (by decide), if_neg Bool.false_ne_true, runBecomesClear, haltSweep_eq]
      rfl
    obtain ⟨frames, lanes, only⟩ := dropAssembly_leaves begun v
    have reader : (dropAssembly begun v).reader = { s.reader with timer := none, sweep := sweepHalted s.reader.sweep } :=
      only .reader (by decide)
    refine ⟨_, run, only .regs (by decide), frames, by rw [reader], ?_, fun l => ?_, ?_⟩
    · rw [reader]
      rfl
    · rw [lanes l]
      exact ⟨rfl, toNat_satAdd _ _⟩
    · exact ((changesOnly_setRegs _ s).then (rs := [.regs, .reader]) (changesOnly_setReader _ _)).then only

end Sys2Proof.Machine
end

/-! ## Proofs: the air link and void frames (3.2, 3.6, 3.7) -/

section
namespace Sys2Proof.Machine

/-! ### The state in which a void frame is sent -/

/-- The pending map with its announcement counted down. -/
def announcedLess (m : Option PendingMap) : Option PendingMap := m.map fun p => { p with announce := p.announce - 1 }

/-- A void frame is in transmission, both counters and the pacing counts have risen, and the announcement is counted down. -/
def voidCounted (s : State) : State :=
  { s with
    link := { s.link with airData := .sending (voidFrame s) }
    frames := { s.frames with counter := s.frames.counter + 1, voidCount := s.frames.voidCount + 1 }
    lanes := s.lanes.map fun x => { x with text := paceOn x.text }
    maps := { s.maps with upcoming := announcedLess s.maps.upcoming, switched := none } }

/-- The write of the frame mirror for a frame counter. -/
def frameMirrorWrite (s : State) (counter : Word) : Posted := .write [⟨addrAt s.regs.anchor 0x2400, frameMirror s counter⟩]

theorem frameMirrorWrite_congr {s t : State} (frames : t.frames = s.frames) (generation : t.maps.generation = s.maps.generation)
    (upcoming : t.maps.upcoming = s.maps.upcoming) (counter : Word) : frameMirror t counter = frameMirror s counter := by
  simp only [frameMirror, frames, generation, upcoming]

/-- All that the send of a void frame does before the completion of a MAP_LOAD that waited. -/
def voidAired (s : State) : State := (voidCounted s).posting [frameMirrorWrite (voidCounted s) s.frames.counter]

theorem announceSent_eq (s u : State) (upcoming : u.maps.upcoming = s.maps.upcoming) :
    announceSent (announceNow s).2 u = u.setMaps { u.maps with upcoming := announcedLess s.maps.upcoming } := by
  unfold announceSent announceNow
  rw [upcoming]
  cases pending : s.maps.upcoming with
  | none =>
    have same : ({ u.maps with upcoming := announcedLess none } : MapControl) = u.maps := by
      show ({ u.maps with upcoming := none } : MapControl) = u.maps
      rw [← pending, ← upcoming]
    exact congrArg u.setMaps same.symm
  | some p =>
    dsimp only
    by_cases counted : 0 < p.announce
    · exact if_pos counted
    · have zero : p.announce - 1 = p.announce := by omega
      have same : ({ u.maps with upcoming := announcedLess (some p) } : MapControl) = u.maps := by
        have kept : announcedLess (some p) = some p := by simp only [announcedLess, Option.map_some, zero]
        rw [kept, ← pending, ← upcoming]
      rw [if_neg counted]
      exact congrArg u.setMaps same.symm

theorem sendVoid_completes (s : State) :
    sendVoid s = completeAt s.frames.counter (switchedSlip s) (voidAired s) := by
  rw [sendVoid_eq, announceSent_eq s (voidStart s) rfl]
  rfl

/-! ### What a void frame's send leaves -/

/-- What the completions of a list of slips keep. -/
theorem completeAt_changesOnly (counter : Word) (rs : List RecId) (s : State) :
    changesOnly [.regs, .reader, .store, .posted] s (completeAt counter rs s) :=
  (completeAt_touches counter rs s).changesOnly

theorem onlyJobs_of_touches {xs : List Aspect} {s t : State} (h : touches xs s t) (away : ∀ a ∈ [Aspect.contents, .stored,
      .slotRecords, .slotUsers, .loaded, .storeQueue, .running, .recovery, .hold, .dirWrites], a ∉ xs := by decide) :
    onlyJobs s t := by
  have slots : t.store.slots = s.store.slots :=
    h.slots fun a ha => away a (by revert a; decide)
  show Store.mk t.store.contents t.store.stored t.store.slots t.store.loaded t.store.queue t.store.jobs t.store.running
    t.store.recovery t.store.hold t.store.dirWrites = _
  rw [h.same .contents (away _ (by decide)), h.same .stored (away _ (by decide)), slots, h.same .loaded (away _ (by decide)),
    h.same .storeQueue (away _ (by decide)), h.same .running (away _ (by decide)), h.same .recovery (away _ (by decide)),
    h.same .hold (away _ (by decide)), h.same .dirWrites (away _ (by decide))]

theorem voidAired_changesOnly (s : State) : changesOnly [.lanes, .maps, .frames, .link, .posted] s (voidAired s) :=
  fun part hpart => by cases part <;> first | rfl | exact absurd hpart (by decide)

theorem sendVoid_voidSent (s : State) : voidSent s (sendVoid s) := by
  have completed := completeAt_changesOnly s.frames.counter (switchedSlip s) (voidAired s)
  rw [← sendVoid_completes] at completed
  have frames : (sendVoid s).frames = (voidCounted s).frames := completed .frames (by decide)
  have maps : (sendVoid s).maps = (voidCounted s).maps := completed .maps (by decide)
  have lanes : (sendVoid s).lanes = (voidCounted s).lanes := completed .lanes (by decide)
  have mirror : frameMirror (sendVoid s) s.frames.counter = frameMirror (voidCounted s) s.frames.counter :=
    frameMirrorWrite_congr frames (congrArg MapControl.generation maps) (congrArg MapControl.upcoming maps) _
  have before : (voidAired s).posted =
      s.posted ++ [.write [⟨addrAt s.regs.anchor 0x2400, frameMirror (sendVoid s) s.frames.counter⟩]] := by
    rw [mirror]
    rfl
  refine ⟨completed .link (by decide), frames, fun l => ?_, maps, fun none => ?_, fun r w switched work => ?_⟩
  · rw [State.lane, lanes]
    exact Vector.getElem_map ..
  · have aired : sendVoid s = voidAired s := by
      rw [sendVoid_completes, switchedSlip, none]
      rfl
    refine ⟨?_, ?_⟩
    · rw [← before, aired]
    · rw [aired]
      exact voidAired_changesOnly s
  · have completes : sendVoid s = complete r statusOk s.frames.counter s.frames.counter (voidAired s) := by
      rw [sendVoid_completes, switchedSlip, switched]
      rfl
    have reported := complete_slipReported (s0 := s) (s := voidAired s) statusOk s.frames.counter s.frames.counter work
      rfl rfl before rfl
    rw [← completes] at reported
    refine ⟨reported, ?_, (voidAired_changesOnly s).then completed⟩
    have jobs : onlyJobs (voidAired s) (sendVoid s) := by
      rw [completes]
      exact onlyJobs_of_touches (complete_touches _ _ _ _ _)
    exact jobs

/-! ### Pulls -/

theorem transmitting_iff (s : State) : transmitting s = true ↔ ∃ f, s.link.airData = .sending f := by
  unfold transmitting
  cases s.link.airData <;> simp

theorem airPull_taken {s : State} (up : s.link.airRstN = true) (quiet : ∀ f, s.link.airData ≠ .sending f) (begun : List LaneId) :
    exec (.airPull begun) s = .next (answerPull begun s) := by
  have idle : transmitting s = false := by
    rw [← Bool.not_eq_true, transmitting_iff]
    exact fun ⟨f, h⟩ => quiet f h
  refine congrArg Host.Outcome.next ?_
  unfold airPull
  rw [up, idle]
  exact if_pos rfl

theorem changesOnly_setLink (x : Link) (s : State) : changesOnly [.link] s (s.setLink x) := fun part hpart => by
  cases part <;> first | rfl | exact absurd hpart (by decide)

/-- Settles O46. -/
theorem linkEventsAndPullInStopped : Obligations.LinkEventsAndPullInStopped := by
  refine ⟨fun s => ⟨fun up => ?_, ⟨_, rfl, changesOnly_setLink _ s, rfl⟩, fun f sending => ?_, fun begun ignored => ?_⟩,
    fun begun s up quiet stopped => ⟨_, airPull_taken up quiet begun, ?_⟩⟩
  · refine ⟨_, congrArg Host.Outcome.next (if_pos up), changesOnly_setLink _ s, rfl, ?_⟩
    unfold transmitting
    cases airData : s.link.airData <;> simp
  · have on : transmitting s = true := (transmitting_iff s).mpr ⟨f, sending⟩
    exact ⟨_, congrArg Host.Outcome.next (if_pos on), changesOnly_setLink _ s, rfl⟩
  · refine congrArg Host.Outcome.next (if_neg ?_)
    rw [Bool.and_eq_true, Bool.not_eq_true', ← Bool.not_eq_true, transmitting_iff]
    rintro ⟨up, quiet⟩
    obtain down | sending := ignored
    · rw [down] at up
      exact Bool.false_ne_true up
    · exact quiet sending
  · have answered : answerPull begun s = sendVoid s := by
      unfold answerPull
      rw [stopped]
    rw [answered]
    exact sendVoid_voidSent s

/-! ### A late pull -/

theorem hasCause_withCause (c : Cause) (r : Registers) : hasCause (withCause c r).notice c = true := by
  have set : ∀ v : BitVec 4, hasCause (v ||| (1#4 <<< causeBit c)) c = true := by cases c <;> decide
  exact set _

theorem fetchesBegun_congr {s t : State} (assembler : t.frames.assembler = s.frames.assembler)
    (stragglers : t.frames.stragglers = s.frames.stragglers) (begun : List LaneId) :
    fetchesBegun t begun = fetchesBegun s begun := by
  unfold fetchesBegun
  rw [assembler, stragglers]

/-- Settles O47. -/
theorem latePullAbandonsTheAssembly : Obligations.LatePullAbandonsTheAssembly := by
  intro begun s p c up quiet assembling
  let v := sendVoid s
  let u := raiseNotice .void (dropAssembly begun v)
  have sent := sendVoid_voidSent s
  obtain ⟨link, frames, lane, maps, -⟩ := id sent
  have run : exec (.airPull begun) s = .next (beginAssembly u) := by
    rw [airPull_taken up quiet, answerPull, assembling]
    rfl
  obtain ⟨dropFrames, dropLane, dropOnly⟩ := dropAssembly_leaves begun v
  obtain ⟨raiseRegs, raisePosted⟩ := raiseNotice_spec .void (dropAssembly begun v)
  have raiseOnly := raiseNotice_changesOnly .void (dropAssembly begun v)
  have uFrames : u.frames = { v.frames with
      assembler := .stopped, stragglers := s.frames.stragglers ++ fetchesBegun s begun } := by
    have kept : v.frames.stragglers = s.frames.stragglers := by rw [frames]
    have begun_same : fetchesBegun v begun = fetchesBegun s begun := fetchesBegun_congr (by rw [frames]) kept begun
    rw [← begun_same, ← kept]
    exact (raiseOnly .frames (by decide)).trans dropFrames
  have dropRegs : (dropAssembly begun v).regs = v.regs := dropOnly .regs (by decide)
  have dropPosted : (dropAssembly begun v).posted = v.posted := dropOnly .posted (by decide)
  have uRegs : u.regs = withCause .void v.regs := by rw [← dropRegs]; exact raiseRegs
  have carried (l : LaneId) : v.frames.assembler.carriedUnits l = s.frames.assembler.carriedUnits l := by rw [frames]
  have uLane (l : LaneId) : u.lane l = withDrops (s.frames.assembler.carriedUnits l) (v.lane l) := by
    rw [← carried]
    exact (raiseNotice_lane _ _ l).trans (dropLane l)
  obtain ⟨c', assembly⟩ := beginAssembly_begun u
  have began := beginAssembly_touches u
  have beganOnly := began.changesOnly (ps := [.lanes, .maps, .frames, .store, .posted])
  have counts (l : LaneId) : ((beginAssembly u).lane l).counts = (u.lane l).counts := began.same .counts (by decide) l
  have drops (l : LaneId) : ((beginAssembly u).lane l).counts =
      { (s.lane l).counts with lateDrop := satAdd (s.frames.assembler.carriedUnits l) (s.lane l).counts.lateDrop } := by
    rw [counts, uLane, withDrops, lane]
  obtain ⟨newFrames, newMaps, captured, -⟩ := id assembly
  obtain ⟨counter, -, -, -, -, entries, -⟩ := captured
  have switched : (switchOver u).frames = u.frames :=
    (switchOver_touches u).changesOnly (ps := [.lanes, .maps]) (by decide) .frames (by decide)
  have touch : touches lateAspects s (beginAssembly u) := latePull_touches begun s
  refine ⟨_, v, u, _, c', run, sent, uFrames, uRegs, ?_, fun l => ?_,
    dropOnly.then raiseOnly, assembly, beganOnly, ?_, ?_, ?_, ?_, ?_, ?_, fun l => ⟨?_, ?_, ?_, ?_, ?_⟩,
    fun a => by rw [touch.same .contents (by decide)], touch.changesOnly⟩
  · rw [← dropRegs, ← dropPosted]
    exact raisePosted
  · rw [uLane, drops, withDrops]
    refine congrArg (fun x => { v.lane l with counts := x }) ?_
    rw [lane]
  · rw [← link]
    exact (beganOnly .link (by decide)).trans ((raiseOnly .link (by decide)).trans (dropOnly .link (by decide)))
  · rw [newFrames, switched, uFrames, frames]
  · rw [newFrames, switched, uFrames, frames]
  · rw [counter, switched, uFrames, frames]
  · rw [entries, newMaps]
  · rw [beganOnly .regs (by decide), uRegs]
    exact hasCause_withCause _ _
  · rw [drops]
    exact toNat_satAdd _ _
  · rw [drops]
  · exact touch.same .laneState (by decide) l
  · exact touch.same .feed (by decide) l
  · have reached : touches (.assembler :: reachAspects) (switchOver u) (beginAssembly u) := goOnFetching_touches _ _ _
    exact reached.same .credit (by decide) l

end Sys2Proof.Machine
end

/-! ## Proofs: the last fetch, picture reads and the completion of an assembly (2.3, 3.5, 4.3, 7.2) -/

section
namespace Sys2Proof.Machine

/-! ### What the grants come to -/

theorem cellsToFinish_le (c : Option PictureChoice) : pictureWant c ≤ 48 := by
  unfold pictureWant
  cases c with
  | none => exact Nat.zero_le _
  | some ch => exact min_le_left _ _

theorem sharingInput_demand (p : Plan) (c : Carriage) (s : State) (pl : PlanLane) : (sharingInput p c s pl).demand ≤ 49 := by
  have pictures := cellsToFinish_le (pictureShown p pl s)
  have text : (textWant p pl (s.lane pl.entry.lane)).isSome.toNat ≤ 1 := Bool.toNat_le _
  simp only [sharingInput]
  omega

theorem rotating_bounded {cursor : LaneId} {p : Plan} {c : Carriage} {s : State} :
    ∀ x ∈ rotating cursor (p.lanes.map (sharingInput p c s)), x.demand ≤ 49 := by
  intro x hx
  obtain ⟨pl, -, rfl⟩ := List.mem_map.mp ((mem_rotating _ _ _).mp hx)
  exact sharingInput_demand p c s pl

theorem sharedLanes_grant {p : Plan} {c : Carriage} {s : State} {z : PoolLane} (h : z ∈ sharedLanes p c s) :
    z.grant ≤ z.demand ∧ z.demand ≤ 49 := by
  obtain ⟨-, terms, within, -⟩ := poolSharingAccountsForEveryCell p.poolSize _ (rotating_bounded (cursor := s.cursor)
    (p := p) (c := c) (s := s))
  refine ⟨within z h, ?_⟩
  have mem : (z.lane, z.demand) ∈ (sharedLanes p c s).map fun x => (x.lane, x.demand) := List.mem_map.mpr ⟨z, h, rfl⟩
  obtain ⟨x, hx, e⟩ := List.mem_map.mp (terms ▸ mem)
  rw [← show x.demand = z.demand from congrArg Prod.snd e]
  exact rotating_bounded x hx

theorem mem_shareItems {p : Plan} {c : Carriage} {s : State} {lc : LaneCarriage} (h : lc ∈ (shareItems p c s).lanes) :
    ∃ pl ∈ p.lanes, ∃ z ∈ sharedLanes p c s, z.lane = pl.entry.lane ∧ lc = layLane (laneWants p c s pl) z := by
  rw [shareItems_lanes] at h
  obtain ⟨pl, hpl, found⟩ := List.mem_filterMap.mp h
  obtain ⟨z, hz, mem, lane⟩ := poolLaneOf_some (c := c) (s := s) hpl
  rw [hz] at found
  exact ⟨pl, hpl, z, mem, lane, (Option.some.inj found).symm⟩

theorem shareItems_grant {p : Plan} {c : Carriage} {s : State} {lc : LaneCarriage} (h : lc ∈ (shareItems p c s).lanes) :
    lc.grant ≤ 49 := by
  obtain ⟨pl, -, z, hz, -, rfl⟩ := mem_shareItems h
  obtain ⟨within, few⟩ := sharedLanes_grant hz
  exact within.trans few

theorem shareItems_grants (p : Plan) (c : Carriage) (s : State) : (shareItems p c s).lanes.map LaneCarriage.grant =
    (p.lanes.filterMap (poolLaneOf p c s)).map PoolLane.grant := by
  rw [shareItems_lanes, List.map_filterMap, List.map_filterMap]
  refine List.filterMap_congr fun pl _ => ?_
  cases poolLaneOf p c s pl <;> rfl

theorem shareItems_fit {p : Plan} (distinct : (p.lanes.map fun pl => pl.entry.lane).Nodup) (c : Carriage) (s : State) :
    ((shareItems p c s).lanes.map LaneCarriage.grant).sum ≤ p.poolSize := by
  have lanes : (p.lanes.filterMap (poolLaneOf p c s)).map PoolLane.lane = p.lanes.map fun pl => pl.entry.lane := by
    rw [List.map_filterMap, ← List.filterMap_eq_map]
    refine List.filterMap_congr fun pl hpl => ?_
    obtain ⟨z, hz, -, lane⟩ := poolLaneOf_some (c := c) (s := s) hpl
    rw [hz, Option.map_some, lane]
    rfl
  have nodup : (p.lanes.filterMap (poolLaneOf p c s)).Nodup := .of_map PoolLane.lane (lanes ▸ distinct)
  have among : p.lanes.filterMap (poolLaneOf p c s) ⊆ sharedLanes p c s := fun z hz => by
    obtain ⟨pl, hpl, found⟩ := List.mem_filterMap.mp hz
    obtain ⟨y, hy, mem, -⟩ := poolLaneOf_some (c := c) (s := s) hpl
    rw [hy] at found
    exact Option.some.inj found ▸ mem
  obtain ⟨zs, perm, sub⟩ := List.subperm_of_subset nodup among
  have all := sharePool_sum p.poolSize (rotating s.cursor (p.lanes.map (sharingInput p c s)))
  rw [shareItems_grants, ← (perm.map PoolLane.grant).sum_eq]
  have less := (sub.map PoolLane.grant).sum_le_sum fun _ _ => Nat.zero_le _
  exact less.trans (by rw [← all]; exact Nat.le_add_right _ _)

/-! ### The last fetch -/

theorem laneFetch_assembling {s : State} {p : Plan} {c : Carriage} {l : LaneId}
    (assembling : s.frames.assembler = .assembling p c) (stage : c.stage = .fetching)
    (none_kept : ∀ g ∈ s.frames.stragglers, g.lane ≠ l) (mem : l ∈ c.toFetch) (h : HostView) :
    exec (.laneFetch l h) s = .next (assemblyFetch p c l h s) := by
  have kept : s.frames.stragglers.find? (fun g => g.lane = l) = none := by simpa using none_kept
  have contains : c.toFetch.contains l = true := by simpa using mem
  refine congrArg Host.Outcome.next ?_
  unfold laneFetch
  rw [kept, assembling]
  exact if_pos ⟨stage, contains⟩

theorem assemblyFetch_refused {s : State} {p : Plan} {l : LaneId} (refused : fetchAllowed p l s = false) (c : Carriage)
    (h : HostView) :
    assemblyFetch p c l h s = goOnFetching p { c with toFetch := c.toFetch.filter fun k => k ≠ l } s := by
  unfold assemblyFetch
  dsimp only
  rw [refused]
  exact if_neg Bool.false_ne_true

theorem assemblyFetch_allowed {s : State} {p : Plan} {l : LaneId} (allowed : fetchAllowed p l s = true) (c : Carriage)
    (h : HostView) : assemblyFetch p c l h s =
      goOnFetching p { c with
        toFetch := c.toFetch.filter fun k => k ≠ l
        fetched := c.fetched ++ [⟨l, (fetchUnit l (candidateLimits p l) h s).2⟩] } (fetchUnit l (candidateLimits p l) h s).1 := by
  unfold assemblyFetch
  dsimp only
  exact if_pos allowed

theorem fetchAllowed_unaired {p : Plan} {l : LaneId} {s : State} (unaired : ∀ pl ∈ p.lanes, pl.entry.lane ≠ l)
    (state : (s.lane l).state ≠ .ready) : fetchAllowed p l s = false := by
  have none : p.lane? l = none := by simpa [Plan.lane?] using unaired
  unfold fetchAllowed
  rw [none]
  exact decide_eq_false state

/-- The fetch of a lane with another still to fetch, from the state in which it is the last. -/
theorem laneFetch_beforeAnother {s : State} {p : Plan} {c : Carriage} {l k : LaneId} (other : k ≠ l)
    (stage : c.stage = .fetching) (none_kept : ∀ g ∈ s.frames.stragglers, g.lane ≠ l)
    (allowed : fetchAllowed p l s = true) (h : HostView) :
    exec (.laneFetch l h) (setAssembler (.assembling p { c with toFetch := [l, k] }) s) =
      .next (setAssembler (.assembling p { c with
        toFetch := [k], fetched := c.fetched ++ [⟨l, (fetchUnit l (candidateLimits p l) h s).2⟩] })
        (fetchUnit l (candidateLimits p l) h s).1) := by
  have under : fetchUnderWay (setAssembler (.assembling p { c with toFetch := [l, k] }) s) p { c with toFetch := [l, k] } l :=
    ⟨rfl, stage, List.mem_cons_self, ⟨k, by simp, other⟩, none_kept, allowed⟩
  have left : [l, k].filter (fun x => decide (x ≠ l)) = [k] := by simp [other]
  have fetched := fetchUnit_setFrames l (candidateLimits p l) h
    { s.frames with assembler := .assembling p { c with toFetch := [l, k] } } s
  have frames := fetchUnit_frames l (candidateLimits p l) h s
  rw [laneFetch_underWay under, fetchedTo, left]
  unfold setAssembler at *
  rw [fetched, withFrames, frames]
  rfl

/-- The end of the fetch stage, as far as it depends on the state alone. -/
theorem layItems_ends (p : Plan) (c : Carriage) (s : State) : ∃ c', c'.fetched = c.fetched ∧
    (layItems p c s).frames = { s.frames with assembler := .assembling p c' } ∧ c'.stage = .items ∧ c'.toFetch = [] ∧
    c'.lanes.map LaneCarriage.lane = p.lanes.map (fun pl => pl.entry.lane) ∧
    ((p.lanes.map fun pl => pl.entry.lane).Nodup → (c'.lanes.map LaneCarriage.grant).sum ≤ p.poolSize) ∧
    (∀ lc ∈ c'.lanes, lc.grant ≤ 49) ∧ (layItems p c s).regs = s.regs ∧ sideItemsLaid p c' s (layItems p c s) := by
  obtain ⟨c', eq, rfl, fetched, laid⟩ := layItems_laid p c s
  have only := (reachLanes_touches p.lanes s).changesOnly (ps := [.lanes, .store, .posted])
  refine ⟨_, fetched, ?_, rfl, rfl, shareItems_laneIds _ _ _, fun nodup => shareItems_fit nodup _ _,
    fun lc hlc => shareItems_grant hlc, ?_, laid⟩
  · rw [eq, ← only .frames (by decide)]
    rfl
  · rw [eq]
    exact only .regs (by decide)

/-- Settles O50. -/
theorem lastFetchSharesThePool : Obligations.LastFetchSharesThePool := by
  intro l h s p c assembling stage none_kept
  refine ⟨fun unaired state mem another => ?_, fun last => ?_⟩
  · obtain ⟨k, hk, other⟩ := another
    have more : c.toFetch.filter (fun x => decide (x ≠ l)) ≠ [] :=
      List.ne_nil_of_mem (List.mem_filter.mpr ⟨hk, decide_eq_true other⟩)
    refine ⟨_, laneFetch_assembling assembling stage none_kept mem h, ?_, ?_⟩
    · rw [assemblyFetch_refused (fetchAllowed_unaired unaired state), goOnFetching_more more]
      exact (setAssembler_touches _ s).changesOnly
    · rw [assemblyFetch_refused (fetchAllowed_unaired unaired state), goOnFetching_more more]
      rfl
  · have mem : l ∈ c.toFetch := last ▸ List.mem_cons_self
    have run := laneFetch_assembling assembling stage none_kept mem h
    have touch := assemblyFetch_touches p c l h s
    have only : changesOnly [.regs, .lanes, .frames, .store, .posted] s (assemblyFetch p c l h s) := touch.changesOnly
    have bytes : bytesKept s (assemblyFetch p c l h s) := fun a => by rw [touch.same .contents]
    have none_left : c.toFetch.filter (fun x => decide (x ≠ l)) = [] := by rw [last]; simp
    cases allowed : fetchAllowed p l s with
    | false =>
      have fetch := assemblyFetch_refused allowed c h
      rw [goOnFetching_empty none_left] at fetch
      obtain ⟨c', fetched, frames, items, none, lanes, fit, few, regs, laid⟩ := layItems_ends p
        { c with toFetch := c.toFetch.filter fun k => k ≠ l } s
      rw [← fetch] at frames regs laid
      exact ⟨_, c', run, frames, items, none, lanes, fit, few, fun yes => absurd yes Bool.false_ne_true,
        fun _ => ⟨fetched, regs, laid⟩, bytes, only⟩
    | true =>
      have fetch := assemblyFetch_allowed allowed c h
      rw [goOnFetching_empty none_left] at fetch
      obtain ⟨c', fetched, frames, items, none, lanes, fit, few, regs, laid⟩ := layItems_ends p { c with
          toFetch := c.toFetch.filter fun k => k ≠ l
          fetched := c.fetched ++ [⟨l, (fetchUnit l (candidateLimits p l) h s).2⟩] } (fetchUnit l (candidateLimits p l) h s).1
      rw [← fetch] at frames regs laid
      rw [fetchUnit_frames] at frames
      exact ⟨_, c', run, frames, items, none, lanes, fit, few, fun _ => ⟨_, _,
          fun k other => laneFetch_beforeAnother other stage none_kept allowed h, fetched, regs, laid⟩,
        fun no => absurd no.symm Bool.false_ne_true, bytes, only⟩

/-! ### Picture reads, and the completion -/

/-- Settles O51. -/
theorem pictureReadsAndCompletionEndAnAssembly : Obligations.PictureReadsAndCompletionEndAnAssembly := by
  intro s p c assembling stage
  refine ⟨fun l mem => ?_, fun none => ?_⟩
  · have run : pictureDataRead l s = setAssembler (.assembling p (answerLane s l c)) s := by
      unfold pictureDataRead
      rw [assembling]
      exact if_pos ⟨stage, by simpa using mem⟩
    refine ⟨_, answerLane s l c, congrArg Host.Outcome.next run, (setAssembler_touches _ s).changesOnly, rfl, rfl, ?_⟩
    refine List.map_congr_left fun lc _ => ?_
    unfold answerRead
    by_cases own : lc.lane = l
    · rw [if_pos own, decide_eq_true own]
      cases lc.picture <;> rfl
    · rw [if_neg own, decide_eq_false own]
  · have run : assemblyComplete s = setAssembler (.ready p c (assembledFrame p c)) s := by
      unfold assemblyComplete
      rw [assembling]
      exact if_pos ⟨stage, by rw [none]; rfl⟩
    exact ⟨_, congrArg Host.Outcome.next run, (setAssembler_touches _ s).changesOnly, rfl⟩

end Sys2Proof.Machine
end

/-! ## Proofs: what a send commits to the lanes (3.7, 4.4, 5.4, 7.2) -/

section
namespace Sys2Proof.Machine

/-! ### Commits lane by lane -/

/-- An operation on the lane of a carriage that acts on that lane alone, by a function of the lane. -/
def actsOnLane (f : State → LaneCarriage → State) (g : LaneCarriage → Lane → Lane) : Prop :=
  ∀ s lc, (f s lc).lane lc.lane = g lc (s.lane lc.lane) ∧ otherLanesKept lc.lane s (f s lc)

theorem actsOnLane.others {f : State → LaneCarriage → State} {g : LaneCarriage → Lane → Lane} (acts : actsOnLane f g)
    {l : LaneId} : ∀ {cs : List LaneCarriage} (_ : ∀ lc ∈ cs, lc.lane ≠ l) (s : State), (cs.foldl f s).lane l = s.lane l
  | [], _, _ => rfl
  | lc :: cs, away, s => by
    rw [List.foldl_cons, acts.others fun k hk => away k (List.mem_cons_of_mem _ hk)]
    exact (acts s lc).2 l fun e => away lc List.mem_cons_self e.symm

theorem actsOnLane.own {f : State → LaneCarriage → State} {g : LaneCarriage → Lane → Lane} (acts : actsOnLane f g)
    {lc : LaneCarriage} : ∀ {cs : List LaneCarriage} (_ : (cs.map LaneCarriage.lane).Nodup) (_ : lc ∈ cs) (s : State),
    (cs.foldl f s).lane lc.lane = g lc (s.lane lc.lane)
  | k :: cs, nodup, mem, s => by
    obtain ⟨fresh, nodup⟩ := List.nodup_cons.mp nodup
    have other {q : LaneCarriage} (hq : q ∈ cs) : q.lane ≠ k.lane := fun e => fresh (List.mem_map.mpr ⟨q, hq, e⟩)
    rw [List.foldl_cons]
    obtain rfl | later := List.mem_cons.mp mem
    · rw [acts.others fun q hq => other hq]
      exact (acts s lc).1
    · rw [acts.own nodup later, (acts s k).2 _ (other later)]

theorem actsOnLane.keeps {α : Type} {f : State → LaneCarriage → State} {g : LaneCarriage → Lane → Lane} (acts : actsOnLane f g)
    {part : Lane → α} (kept : ∀ lc x, part (g lc x) = part x) (l : LaneId) : ∀ (cs : List LaneCarriage) (s : State),
    part ((cs.foldl f s).lane l) = part (s.lane l)
  | [], _ => rfl
  | lc :: cs, s => by
    rw [List.foldl_cons, acts.keeps kept l cs]
    by_cases own : l = lc.lane
    · rw [own, (acts s lc).1, kept]
    · rw [(acts s lc).2 l own]

/-- A lane with units aired added. -/
def withAired (k : Nat) (x : Lane) : Lane :=
  { x with counts := { x.counts with unitsAired := x.counts.unitsAired + BitVec.ofNat 32 k } }

theorem countAired_lane (l : LaneId) (s : State) (f : Fetched) :
    (countAired s f).lane l = withAired (if suppliedBy l f then 1 else 0) (s.lane l) := by
  have kept : withAired 0 (s.lane l) = s.lane l := by simp [withAired]
  obtain ⟨k, o⟩ := f
  cases o with
  | nothing cause =>
    rw [if_neg (by simp [suppliedBy]), kept]
    rfl
  | unit len data carried =>
    cases carried with
    | false =>
      rw [if_neg (by simp [suppliedBy]), kept]
      rfl
    | true =>
      by_cases own : k = l
      · subst own
        rw [if_pos (by simp [suppliedBy])]
        exact State.lane_setLane_same _ _ _
      · rw [if_neg (by simp [suppliedBy, own]), kept]
        exact State.lane_setLane_other _ _ _ _ fun e => own e.symm

theorem countAired_lanes (l : LaneId) : ∀ (fs : List Fetched) (s : State),
    (fs.foldl countAired s).lane l = withAired (fs.countP (suppliedBy l)) (s.lane l)
  | [], s => by simp [withAired]
  | f :: fs, s => by
    rw [List.foldl_cons, countAired_lanes l fs, countAired_lane, List.countP_cons, Nat.add_comm]
    simp only [withAired, BitVec.ofNat_add, BitVec.add_assoc]

/-- A lane after the count of filler. -/
def fillerLane (lc : LaneCarriage) (x : Lane) : Lane :=
  { x with counts := { x.counts with
      filler := match lc.audio with | .filler _ => satInc x.counts.filler | _ => x.counts.filler } }

theorem countFiller_acts : actsOnLane countFiller fillerLane := by
  intro s lc
  unfold countFiller fillerLane
  cases lc.audio with
  | filler cause => exact ⟨State.lane_setLane_same _ _ _, otherLanesKept_setLane _ _ _⟩
  | unit l data => exact ⟨rfl, fun _ _ => rfl⟩
  | noAudio => exact ⟨rfl, fun _ _ => rfl⟩

/-- A lane after the commit of its credit and its saturation mark. -/
def creditLane (lc : LaneCarriage) (x : Lane) : Lane :=
  { x with
    credit := if x.state = .halted then 0 else lc.credit
    saturation := if lc.saturated then satInc x.saturation else x.saturation }

theorem commitCredit_acts : actsOnLane commitCredit creditLane :=
  fun _ _ => ⟨State.lane_setLane_same _ _ _, otherLanesKept_setLane _ _ _⟩

theorem commitTexts_lane (c : Carriage) (s : State) (l : LaneId) :
    (commitTexts c s).lane l = { s.lane l with text := commitText (c.fragmentOf l) (s.lane l).text } :=
  Vector.getElem_ofFn ..

/-! ### Pictures -/

theorem retally_nil (s : State) : retally [] [] s = s :=
  foldl_keeps (fun t => t = s) _ (fun t i h => by rw [h]; exact if_pos rfl) _ s rfl

/-- What the pieces of a carriage do: the lane's carousel goes on, and an airing that ends is a user less. -/
theorem commitPieces_eq (lc : LaneCarriage) (s : State) : ∃ s1,
    commitPieces lc s = retally (airingEnds lc (s.lane lc.lane).carousel).toList [] s1 ∧ s1.store = s.store ∧
    s1.lane lc.lane = { s.lane lc.lane with carousel := carouselSent lc (s.lane lc.lane).carousel } ∧
    otherLanesKept lc.lane s s1 := by
  have kept (ends : airingEnds lc (s.lane lc.lane).carousel = none)
      (sent : carouselSent lc (s.lane lc.lane).carousel = (s.lane lc.lane).carousel) (same : commitPieces lc s = s) : ∃ s1,
      commitPieces lc s = retally (airingEnds lc (s.lane lc.lane).carousel).toList [] s1 ∧ s1.store = s.store ∧
      s1.lane lc.lane = { s.lane lc.lane with carousel := carouselSent lc (s.lane lc.lane).carousel } ∧
      otherLanesKept lc.lane s s1 :=
    ⟨s, by rw [ends, same]; exact (retally_nil s).symm, rfl, by rw [sent], fun _ _ => rfl⟩
  have moved (c : Carousel) (sent : carouselSent lc (s.lane lc.lane).carousel = c)
      (same : commitPieces lc s = retally (airingEnds lc (s.lane lc.lane).carousel).toList [] (s.setCarousel lc.lane c)) : ∃ s1,
      commitPieces lc s = retally (airingEnds lc (s.lane lc.lane).carousel).toList [] s1 ∧ s1.store = s.store ∧
      s1.lane lc.lane = { s.lane lc.lane with carousel := carouselSent lc (s.lane lc.lane).carousel } ∧
      otherLanesKept lc.lane s s1 :=
    ⟨_, same, rfl, by rw [sent]; exact State.lane_setLane_same _ _ _, otherLanesKept_setLane _ _ _⟩
  cases picture : lc.picture with
  | none =>
    refine kept (by simp [airingEnds, picture]) ?_ ?_
    · unfold carouselSent
      dsimp only
      rw [picture]
      cases lc.pieces <;> rfl
    · unfold commitPieces
      rw [picture]
      exact ite_self s
  | some ch =>
    cases pieces : lc.pieces with
    | nil =>
      refine kept ?_ ?_ ?_
      · unfold airingEnds
        rw [picture, pieces]
        cases (s.lane lc.lane).carousel.airing with
        | none => rfl
        | some a => exact if_neg fun h => absurd h.2.2.2 (by simp [anyLast])
      · simp only [carouselSent, pieces]
      · unfold commitPieces
        rw [pieces]
        exact if_pos rfl
    | cons q qs =>
      have some_piece : lc.pieces.isEmpty = false := by rw [pieces]; rfl
      cases alert : ch.alert with
      | none =>
        cases airing : (s.lane lc.lane).carousel.airing with
        | none =>
          exact kept (by simp [airingEnds, picture, airing]) (by simp [carouselSent, pieces, picture, alert, airing])
            (by simp [commitPieces, some_piece, picture, alert, commitOwnPieces, airing])
        | some a =>
          by_cases same : a.slot = ch.slot ∧ a.version = ch.version
          · cases last : anyLast lc.pieces with
            | true =>
              have last' := last
              rw [pieces] at last'
              refine moved (endAiring (s.lane lc.lane).carousel) ?_ ?_
              · simp only [carouselSent, pieces, picture, alert, airing, same, and_self, if_true, last', endAiring,
                  positionAfter]
                cases (s.lane lc.lane).carousel.jump <;> cases (s.lane lc.lane).carousel.position.mark <;> rfl
              · simp [commitPieces, some_piece, picture, alert, commitOwnPieces, airing, same, last, airingEnds]
            | false =>
              have last' := last
              rw [pieces] at last'
              refine moved { (s.lane lc.lane).carousel with airing := some { a with offset := a.offset + pieceData lc.pieces } }
                ?_ ?_
              · simp [carouselSent, pieces, picture, alert, airing, same, last', pieceData]
              · simp [commitPieces, some_piece, picture, alert, commitOwnPieces, airing, same, last, airingEnds, retally_nil]
          · refine kept (by simp [airingEnds, picture, airing, alert]; tauto)
              (by simp [carouselSent, pieces, picture, alert, airing, same])
              (by simp [commitPieces, some_piece, picture, alert, commitOwnPieces, airing, same])
      | some id =>
        have airs_on : airingEnds lc (s.lane lc.lane).carousel = none := by
          cases airing : (s.lane lc.lane).carousel.airing <;> simp [airingEnds, picture, airing, alert]
        cases showing : (s.lane lc.lane).carousel.showing with
        | none =>
          exact kept airs_on (by simp [carouselSent, pieces, picture, alert, showing])
            (by simp [commitPieces, some_piece, picture, alert, commitAlertPieces, showing])
        | some sh =>
          by_cases same : sh.alert = id
          · refine moved { (s.lane lc.lane).carousel with
              showing := some ⟨id, if anyLast lc.pieces then 0 else sh.offset + pieceData lc.pieces⟩ } ?_ ?_
            · simp [carouselSent, pieces, picture, alert, showing, same, pieceData]
            · simp [commitPieces, some_piece, picture, alert, commitAlertPieces, showing, same, airs_on, retally_nil]
          · exact kept airs_on (by simp [carouselSent, pieces, picture, alert, showing, same])
              (by simp [commitPieces, some_piece, picture, alert, commitAlertPieces, showing, same])

/-- A lane after the picture commit of its carriage. -/
def pictureLane (lc : LaneCarriage) (x : Lane) : Lane :=
  { x with
    carousel := carouselSent lc x.carousel
    counts := { x.counts with
      pictureStall := if lc.stalled then satInc x.counts.pictureStall else x.counts.pictureStall } }

theorem commitPicture_eq (s : State) (lc : LaneCarriage) : ∃ s1,
    commitPicture s lc =
      (if lc.stalled then countStall lc.lane (retally (airingEnds lc (s.lane lc.lane).carousel).toList [] s1)
        else retally (airingEnds lc (s.lane lc.lane).carousel).toList [] s1) ∧ s1.store = s.store ∧
    s1.lane lc.lane = { s.lane lc.lane with carousel := carouselSent lc (s.lane lc.lane).carousel } ∧
    otherLanesKept lc.lane s s1 := by
  obtain ⟨s1, pieces, rest⟩ := commitPieces_eq lc s
  exact ⟨s1, by rw [← pieces]; rfl, rest⟩

theorem commitPicture_acts : actsOnLane commitPicture pictureLane := by
  intro s lc
  obtain ⟨s1, eq, -, lane, others⟩ := commitPicture_eq s lc
  rw [eq]
  unfold pictureLane
  have own : (retally (airingEnds lc (s.lane lc.lane).carousel).toList [] s1).lane lc.lane = _ :=
    (retally_lane _ _ _ _).trans lane
  have kept : otherLanesKept lc.lane s (retally (airingEnds lc (s.lane lc.lane).carousel).toList [] s1) :=
    fun k hk => (retally_lane _ _ _ _).trans (others k hk)
  cases lc.stalled with
  | true =>
    refine ⟨(State.lane_setLane_same _ _ _).trans ?_, fun k hk => (otherLanesKept_setLane _ _ _ k hk).trans (kept k hk)⟩
    rw [own]
    rfl
  | false => exact ⟨own, kept⟩

theorem commitPicture_store (s : State) (lc : LaneCarriage) : droppingBegun s (commitPicture s lc) ∧
    ∀ i, ((commitPicture s lc).slot i).users =
      (s.slot i).users - if airingEnds lc (s.lane lc.lane).carousel = some i then 1 else 0 := by
  obtain ⟨s1, eq, store, -⟩ := commitPicture_eq s lc
  have same : (commitPicture s lc).store = (retally (airingEnds lc (s.lane lc.lane).carousel).toList [] s1).store := by
    rw [eq]
    split <;> rfl
  refine ⟨droppingBegun_congr (s := s1) (v := retally (airingEnds lc (s.lane lc.lane).carousel).toList [] s1) store.symm same
    (retally_droppingBegun _ _), fun i => ?_⟩
  have users := retally_users (airingEnds lc (s.lane lc.lane).carousel).toList [] s1 i
  rw [State.slot, same]
  refine users.trans ?_
  have slot : s1.slot i = s.slot i := by rw [State.slot, store]; rfl
  rw [slot, List.count_nil, Nat.add_zero]
  congr 1
  cases airingEnds lc (s.lane lc.lane).carousel with
  | none => rfl
  | some k =>
    rw [Option.toList_some, List.count_singleton]
    simp only [beq_iff_eq, Option.some.injEq]

theorem commitPictures_users (i : SlotId) : ∀ {cs : List LaneCarriage} (_ : (cs.map LaneCarriage.lane).Nodup) (s : State),
    ((cs.foldl commitPicture s).slot i).users =
      (s.slot i).users - cs.countP fun lc => decide (airingEnds lc (s.lane lc.lane).carousel = some i)
  | [], _, _ => rfl
  | lc :: cs, nodup, s => by
    obtain ⟨fresh, nodup⟩ := List.nodup_cons.mp nodup
    have kept : cs.countP (fun k => decide (airingEnds k ((commitPicture s lc).lane k.lane).carousel = some i)) =
        cs.countP fun k => decide (airingEnds k (s.lane k.lane).carousel = some i) :=
      List.countP_congr fun k hk => by
        rw [(commitPicture_acts s lc).2 _ fun e => fresh (List.mem_map.mpr ⟨k, hk, e⟩)]
    rw [List.foldl_cons, commitPictures_users i nodup, (commitPicture_store s lc).2, kept, List.countP_cons]
    simp only [decide_eq_true_eq]
    omega

theorem commitPictures_droppingBegun : ∀ (cs : List LaneCarriage) (s : State),
    droppingBegun s (cs.foldl commitPicture s) ∧ ∀ i, ((cs.foldl commitPicture s).slot i).users ≤ (s.slot i).users
  | [], s => ⟨droppingBegun_refl s, fun _ => Nat.le_refl _⟩
  | lc :: cs, s => by
    obtain ⟨drops, falls⟩ := commitPictures_droppingBegun cs (commitPicture s lc)
    obtain ⟨first, users⟩ := commitPicture_store s lc
    refine ⟨droppingBegun_trans first drops falls, fun i => (falls i).trans ?_⟩
    rw [users]
    exact Nat.sub_le _ _

/-! ### The lanes of a send -/

theorem suppliedBy_count (p : Plan) (c : Carriage) (frame : List Byte) (l : LaneId) :
    (Assembler.ready p c frame).carriedUnits l = c.fetched.countP (suppliedBy l) := rfl

theorem fragmentOf_own {c : Carriage} (nodup : (c.lanes.map LaneCarriage.lane).Nodup) {lc : LaneCarriage} (mem : lc ∈ c.lanes) :
    c.lane? lc.lane = some lc := by
  have found : (c.lane? lc.lane).isSome = true := by
    rw [Carriage.lane?, List.find?_isSome]
    exact ⟨lc, mem, by simp⟩
  obtain ⟨k, hk⟩ := Option.isSome_iff_exists.mp found
  have same : k.lane = lc.lane := by simpa using List.find?_some hk
  rw [hk, List.inj_on_of_nodup_map nodup (List.mem_of_find?_eq_some hk) mem same]

theorem fragmentOf_others {c : Carriage} {l : LaneId} (away : ∀ lc ∈ c.lanes, lc.lane ≠ l) : c.fragmentOf l = none := by
  have none : c.lane? l = none := by simpa [Carriage.lane?] using away
  rw [Carriage.fragmentOf, none]

/-- A lane of the carriage record after the send, before the alerts' part of it. -/
def sentLane (c : Carriage) (lc : LaneCarriage) (x : Lane) : Lane :=
  let y := creditLane lc (fillerLane lc (withAired (c.fetched.countP (suppliedBy lc.lane)) x))
  pictureLane lc { y with text := commitText lc.fragment y.text }

theorem commitCarriage_lane {c : Carriage} (nodup : (c.lanes.map LaneCarriage.lane).Nodup) {lc : LaneCarriage}
    (mem : lc ∈ c.lanes) (s : State) : (commitCarriage c s).lane lc.lane = sentLane c lc (s.lane lc.lane) := by
  have fragment : c.fragmentOf lc.lane = lc.fragment := by rw [Carriage.fragmentOf, fragmentOf_own nodup mem]
  have moved (t : State) : (t.setCursor c.cursorNext).lane lc.lane = t.lane lc.lane := rfl
  rw [commitCarriage, commitPicture_acts.own nodup mem, commitTexts_lane, fragment, moved, commitCredit_acts.own nodup mem,
    countFiller_acts.own nodup mem, countAired_lanes]
  rfl

theorem commitCarriage_unitsAired (c : Carriage) (s : State) (l : LaneId) : ((commitCarriage c s).lane l).counts.unitsAired =
    (s.lane l).counts.unitsAired + BitVec.ofNat 32 (c.fetched.countP (suppliedBy l)) := by
  have moved (t : State) : (t.setCursor c.cursorNext).lane l = t.lane l := rfl
  let aired (x : Lane) : Word := x.counts.unitsAired
  have pictures := commitPicture_acts.keeps (part := aired) (fun _ _ => rfl) l c.lanes
  have credits := commitCredit_acts.keeps (part := aired) (fun _ _ => rfl) l c.lanes
  have fillers := countFiller_acts.keeps (part := aired) (fun _ _ => rfl) l c.lanes
  refine (pictures _).trans ?_
  rw [commitTexts_lane, moved]
  refine (credits _).trans ((fillers _).trans ?_)
  rw [countAired_lanes]
  rfl

theorem commitCarriage_others {c : Carriage} {l : LaneId} (away : ∀ lc ∈ c.lanes, lc.lane ≠ l) (s : State) :
    (commitCarriage c s).lane l =
      { withAired (c.fetched.countP (suppliedBy l)) (s.lane l) with text := commitText none (s.lane l).text } := by
  have moved (t : State) : (t.setCursor c.cursorNext).lane l = t.lane l := rfl
  rw [commitCarriage, commitPicture_acts.others away, commitTexts_lane, fragmentOf_others away, moved,
    commitCredit_acts.others away, countFiller_acts.others away, countAired_lanes]
  rfl

end Sys2Proof.Machine
end

/-! ## Proofs: what a send commits to the alerts and the store (3.7, 8.4) -/

section
namespace Sys2Proof.Machine

/-! ### The hold count apart -/

/-- A state with another hold count. -/
def withHold (h : Nat) (s : State) : State := s.setStore { s.store with hold := h }

theorem droppingBegun_withHold {s v : State} (h : Nat) (drops : droppingBegun s v) : droppingBegun (withHold h s) (withHold h v) := by
  obtain ⟨record, begun, store, condemned, all⟩ := drops
  refine ⟨record, begun, ?_, condemned, all⟩
  show ({ v.store with hold := h } : Store) = _
  rw [store]
  rfl

theorem withHold_same (s : State) : withHold s.store.hold s = s := rfl

/-- From `s` to `t` the hold count may have changed, and for the rest of the store references have gone. -/
def releases (s t : State) : Prop :=
  droppingBegun (withHold t.store.hold s) t ∧ ∀ i, (t.slot i).users ≤ (s.slot i).users

theorem releases_refl (s : State) : releases s s := ⟨droppingBegun_refl s, fun _ => Nat.le_refl _⟩

theorem releases.trans {s t u : State} (first : releases s t) (second : releases t u) : releases s u := by
  obtain ⟨drops, falls⟩ := first
  obtain ⟨drops', falls'⟩ := second
  have drops : droppingBegun (withHold u.store.hold s) (withHold u.store.hold t) :=
    droppingBegun_withHold (s := withHold t.store.hold s) u.store.hold drops
  exact ⟨droppingBegun_trans drops drops' falls', fun i => (falls' i).trans (falls i)⟩

theorem releases_congr {s t u : State} (store : u.store = t.store) (h : releases s t) : releases s u := by
  obtain ⟨drops, falls⟩ := h
  refine ⟨?_, fun i => by rw [State.slot, store]; exact falls i⟩
  rw [store]
  exact droppingBegun_congr (s := withHold t.store.hold s) (v := t) rfl store drops

/-! ### A place at a send -/

/-- The alert of a place, if the send frees it. -/
def freedAt (p : Plan) (x : Option Alert) : Option Alert := x.filter (freedBy p)

/-- The slot that a place gives up at the send. -/
def freedSlot (p : Plan) (x : Option Alert) : Option SlotId := (freedAt p x).bind fun a => a.picture.map Prod.fst

theorem releasePicture_store (a : Alert) (s : State) : releases s (releasePicture a s) ∧
    (releasePicture a s).store.hold = s.store.hold - (if a.picture.isSome then 1 else 0) ∧
    ∀ i, ((releasePicture a s).slot i).users = (s.slot i).users - if a.picture.map Prod.fst = some i then 1 else 0 := by
  unfold releasePicture
  cases a.picture with
  | none => exact ⟨releases_refl s, rfl, fun _ => rfl⟩
  | some pic =>
    have users (i : SlotId) : ((retally [pic.1] [] s).slot i).users =
        (s.slot i).users - if some pic.1 = some i then 1 else 0 := by
      rw [retally_users, List.count_nil, List.count_singleton]
      simp only [Nat.add_zero, Option.some.injEq, beq_iff_eq]
    have drops := retally_droppingBegun [pic.1] s
    have kept : (retally [pic.1] [] s).store.hold = s.store.hold := (retally_touches [pic.1] [] s).same .hold
    refine ⟨⟨droppingBegun_withHold _ drops, fun i => ?_⟩, congrArg (· - 1) kept, users⟩
    exact (users i).trans_le (Nat.sub_le _ _)

theorem commitPlace_store (p : Plan) (counter : Word) (s : State) (k : PlaceId) : releases s (commitPlace p counter s k) ∧
    (commitPlace p counter s k).store.hold =
      s.store.hold - (if (freedSlot p s.alerts.places[k]).isSome then 1 else 0) ∧
    ∀ i, ((commitPlace p counter s k).slot i).users =
      (s.slot i).users - if freedSlot p s.alerts.places[k] = some i then 1 else 0 := by
  have kept (x : Option Alert) (none : freedAt p x = none) (t : State) (store : t.store = s.store) : releases s t ∧
      t.store.hold = s.store.hold - (if (freedSlot p x).isSome then 1 else 0) ∧
      ∀ i, (t.slot i).users = (s.slot i).users - if freedSlot p x = some i then 1 else 0 := by
    have no_slot : freedSlot p x = Option.none := by rw [freedSlot, none]; rfl
    rw [no_slot]
    refine ⟨releases_congr store (releases_refl s), by rw [store]; rfl, fun i => ?_⟩
    rw [State.slot, store]
    rfl
  unfold commitPlace
  cases s.alerts.places[k] with
  | none => exact kept none rfl s rfl
  | some a =>
    have not_freed (alive : freedBy p a = false) : freedAt p (some a) = none := by
      simp [freedAt, Option.filter_some, alive]
    have freed_iff : freedBy p a = (decide (a.state = .ending) && !p.holds a) := by rw [freedBy, holds_iff]
    dsimp only
    cases state : a.state with
    | raised =>
      have alive := not_freed (by rw [freed_iff, state]; rfl)
      cases p.holds a with
      | false => exact kept (some a) alive s rfl
      | true => exact kept (some a) alive _ rfl
    | onAir => exact kept (some a) (not_freed (by rw [freed_iff, state]; rfl)) s rfl
    | ending =>
      cases holds : p.holds a with
      | true => exact kept (some a) (not_freed (by rw [freed_iff, holds, Bool.not_true, Bool.and_false])) s rfl
      | false =>
        have freed : freedAt p (some a) = some a := by
          simp [freedAt, Option.filter_some, freed_iff, state, holds]
        have slot : freedSlot p (some a) = a.picture.map Prod.fst := by rw [freedSlot, freed]; rfl
        obtain ⟨drops, hold, users⟩ := releasePicture_store a s
        rw [slot, Option.isSome_map]
        exact ⟨releases_congr rfl drops, hold, users⟩

theorem commitPlaces_store (p : Plan) (counter : Word) : ∀ {ks : List PlaceId} (_ : ks.Nodup) (s : State),
    releases s (ks.foldl (commitPlace p counter) s) ∧
    (ks.foldl (commitPlace p counter) s).store.hold =
      s.store.hold - ks.countP (fun k => (freedSlot p s.alerts.places[k]).isSome) ∧
    ∀ i, ((ks.foldl (commitPlace p counter) s).slot i).users =
      (s.slot i).users - ks.countP fun k => decide (freedSlot p s.alerts.places[k] = some i)
  | [], _, s => ⟨releases_refl s, rfl, fun _ => rfl⟩
  | k :: ks, nodup, s => by
    obtain ⟨fresh, nodup⟩ := List.nodup_cons.mp nodup
    have kept {j : PlaceId} (hj : j ∈ ks) : (commitPlace p counter s k).alerts.places[j] = s.alerts.places[j] := by
      rw [commitPlace_places, if_neg]
      rintro rfl
      exact fresh hj
    obtain ⟨drops, hold, users⟩ := commitPlaces_store p counter nodup (commitPlace p counter s k)
    obtain ⟨first, hold', users'⟩ := commitPlace_store p counter s k
    refine ⟨first.trans drops, ?_, fun i => ?_⟩
    · have count : ks.countP (fun j => (freedSlot p (commitPlace p counter s k).alerts.places[j]).isSome) =
          ks.countP fun j => (freedSlot p s.alerts.places[j]).isSome := List.countP_congr fun j hj => by rw [kept hj]
      rw [List.foldl_cons, hold, hold', count, List.countP_cons, Nat.sub_sub, Nat.add_comm]
    · have count : ks.countP (fun j => decide (freedSlot p (commitPlace p counter s k).alerts.places[j] = some i)) =
          ks.countP fun j => decide (freedSlot p s.alerts.places[j] = some i) := List.countP_congr fun j hj => by rw [kept hj]
      rw [List.foldl_cons, users, users', count, List.countP_cons, Nat.sub_sub, Nat.add_comm]
      simp only [decide_eq_true_eq]

/-! ### All places -/

theorem activeAlerts_eq (s : State) : activeAlerts s = (List.finRange 4).filterMap fun k => s.alerts.places[k] := by
  have listed : s.alerts.places.toList = (List.finRange 4).map fun k => s.alerts.places[k] :=
    List.ext_getElem (by simp) fun i _ _ => by simp
  rw [activeAlerts, listed, List.filterMap_map]
  rfl

theorem countP_places (s : State) (f : Option Alert → Bool) (none : f none = false) :
    (List.finRange 4).countP (fun k => f s.alerts.places[k]) = (activeAlerts s).countP fun a => f (some a) := by
  rw [activeAlerts_eq, List.countP_filterMap]
  refine List.countP_congr fun k _ => ?_
  cases s.alerts.places[k] with
  | none => simp [none]
  | some a => rfl

theorem commitAlerts_store (p : Plan) (counter : Word) (s : State) : releases s (commitAlerts p counter s) ∧
    (commitAlerts p counter s).store.hold =
      s.store.hold - (activeAlerts s).countP (fun a => freedBy p a && a.picture.isSome) ∧
    ∀ i, ((commitAlerts p counter s).slot i).users =
      (s.slot i).users - (activeAlerts s).countP fun a => freedBy p a && decide (a.picture.map Prod.fst = some i) := by
  obtain ⟨drops, hold, users⟩ := commitPlaces_store p counter (List.nodup_finRange 4) s
  have slot (a : Alert) : freedSlot p (some a) = if freedBy p a then a.picture.map Prod.fst else none := by
    rw [freedSlot, freedAt, Option.filter_some]
    split <;> rfl
  refine ⟨drops, hold.trans ?_, fun i => (users i).trans ?_⟩
  · rw [countP_places s (fun x => (freedSlot p x).isSome) rfl]
    congr 1
    refine List.countP_congr fun a _ => ?_
    rw [slot]
    cases freedBy p a <;> simp
  · rw [countP_places s (fun x => decide (freedSlot p x = some i)) rfl]
    congr 1
    refine List.countP_congr fun a _ => ?_
    rw [slot]
    cases freedBy p a <;> simp

end Sys2Proof.Machine
end

/-! ## Proofs: the send of an assembled frame (3.7) -/

section
namespace Sys2Proof.Machine

/-! ### The commit of texts -/

theorem commitText_pacing (f : Fragment) (t : TextState) : (commitText (some f) t).pacing = 1 := rfl

theorem commitText_ownGoesOn {f : Fragment} {t : TextState} (own : f.alert = none) (more : f.last = false) {m : Message}
    {rest : List Message} (queue : t.queue = m :: rest) (id : m.id = f.textId) (version : m.version = f.version) :
    commitText (some f) t = { t with position := f.index + 1, pacing := 1 } := by
  have head : headMatches f t = true := by simp [headMatches, queue, id, version]
  simp [commitText, commitFragment, own, head, more]

theorem commitText_ownChanged {f : Fragment} {t : TextState} (own : f.alert = none)
    (changed : ∀ m, t.queue.head? = some m → m.id ≠ f.textId ∨ m.version ≠ f.version) :
    commitText (some f) t = { t with pacing := 1 } := by
  have head : headMatches f t = false := by
    cases queue : t.queue with
    | nil => simp [headMatches, queue]
    | cons m rest =>
      have differs := changed m (by rw [queue]; rfl)
      simp only [headMatches, queue, Bool.and_eq_false_iff, decide_eq_false_iff_not]
      exact differs
  simp [commitText, commitFragment, own, head]

theorem commitText_alert {f : Fragment} {t : TextState} {id : Byte} (alert : f.alert = some id) : commitText (some f) t =
    { t with
      alertPosition := if t.source = .alert id then (if f.last then 0 else f.index + 1) else t.alertPosition
      pacing := 1 } := by
  by_cases source : t.source = .alert id
  · simp [commitText, commitFragment, alert, source]
  · simp [commitText, commitFragment, alert, source]

/-! ### The commits as a whole -/

/-- The commits of a carriage record before those of its pictures. -/
def committedBefore (c : Carriage) (s : State) : State :=
  commitTexts c ((c.lanes.foldl commitCredit (c.lanes.foldl countFiller (c.fetched.foldl countAired s))).setCursor c.cursorNext)

theorem committedBefore_touches (c : Carriage) (s : State) :
    touches [.credit, .saturation, .poolCursor, .laneText, .counts] s (committedBefore c s) := by
  have moved (t : State) : touches [.poolCursor] t (t.setCursor c.cursorNext) :=
    touches_of_same (fun a ha => by cases a <;> first | rfl | exact fun _ => rfl | simp at ha) rfl
  let ys : List Aspect := [.credit, .saturation, .poolCursor, .laneText, .counts]
  exact ((((touches_foldl countAired_touches c.fetched s).trans (zs := ys) (touches_foldl countFiller_touches c.lanes _)).trans
    (zs := ys) (touches_foldl commitCredit_touches c.lanes _)).trans (zs := ys) (moved _)).trans (commitTexts_touches c _)

theorem commitCarriage_store {c : Carriage} (nodup : (c.lanes.map LaneCarriage.lane).Nodup) (s : State) :
    droppingBegun s (commitCarriage c s) ∧ ∀ i, ((commitCarriage c s).slot i).users = (s.slot i).users -
      c.lanes.countP fun lc => decide (airingEnds lc (s.lane lc.lane).carousel = some i) := by
  have touch := committedBefore_touches c s
  have store : (committedBefore c s).store = s.store := touch.changesOnly (ps := [.lanes, .cursor]) (by decide) .store (by decide)
  have slot (i : SlotId) : (committedBefore c s).slot i = s.slot i := by rw [State.slot, store]; rfl
  have carousel (l : LaneId) : ((committedBefore c s).lane l).carousel = (s.lane l).carousel := touch.same .carousel (by decide) l
  refine ⟨droppingBegun_congr (s := committedBefore c s) (v := commitCarriage c s) store.symm rfl
    (commitPictures_droppingBegun c.lanes _).1, fun i => ?_⟩
  have users := commitPictures_users i nodup (committedBefore c s)
  simp only [carousel, slot] at users
  exact users

theorem commitFrame_lane (p : Plan) (c : Carriage) (s : State) (l : LaneId) :
    (commitFrame p c s).lane l = (commitCarriage c s).lane l := by
  have lanes := (commitAlerts_touches p p.counter (commitCarriage c s)).changesOnly (ps := [.store, .alerts, .posted])
    (by decide) .lanes (by decide)
  exact congrArg (fun xs : Vector Lane 24 => xs[l]) lanes

theorem commitFrame_cursor (p : Plan) (c : Carriage) (s : State) : (commitFrame p c s).cursor = c.cursorNext := by
  have pictures := touches_foldl commitPicture_touches c.lanes (committedBefore c s)
  have alerts := commitAlerts_touches p p.counter (commitCarriage c s)
  exact (alerts.same .poolCursor).trans (pictures.same .poolCursor)

/-- References only go at the commits of a send. -/
theorem commitFrame_releases (p : Plan) (c : Carriage) (s : State) : releases s (commitFrame p c s) := by
  have store : (committedBefore c s).store = s.store :=
    (committedBefore_touches c s).changesOnly (ps := [.lanes, .cursor]) (by decide) .store (by decide)
  obtain ⟨drops, falls⟩ := commitPictures_droppingBegun c.lanes (committedBefore c s)
  have slot (i : SlotId) : (committedBefore c s).slot i = s.slot i := by rw [State.slot, store]; rfl
  have before : releases s (commitCarriage c s) := by
    refine ⟨?_, fun i => (falls i).trans (by rw [slot])⟩
    rw [(commitCarriage_touches c s).same .hold]
    exact droppingBegun_congr (s := committedBefore c s) (v := commitCarriage c s) store.symm rfl drops
  exact before.trans (commitAlerts_store p p.counter (commitCarriage c s)).1

/-- Settles O49. -/
theorem sendCommitsTheCarriageRecord : Obligations.SendCommitsTheCarriageRecord := by
  refine ⟨fun s p c nodup => ?_, fun t f => ⟨commitText_pacing f t, fun own more m rest => commitText_ownGoesOn own more,
    commitText_ownChanged, fun id => commitText_alert, rfl⟩⟩
  intro v
  have touch := commitFrame_touches p c s
  have before := commitCarriage_touches c s
  have lane (l : LaneId) : v.lane l = _ := commitFrame_lane p c s l
  obtain ⟨-, users⟩ := commitCarriage_store nodup s
  obtain ⟨-, hold', users'⟩ := commitAlerts_store p p.counter (commitCarriage c s)
  have alerts : activeAlerts (commitCarriage c s) = activeAlerts s := activeAlerts_congr (before.same .places)
  rw [alerts] at hold'
  rw [alerts] at users'
  refine ⟨commitFrame_cursor p c s, touch.same .log, commitFrame_places p c s, fun l => ?_, fun i => ?_, ?_, ?_, touch.2, touch.changesOnly,
    fun l away => ?_, fun lc mem => ?_⟩
  · by_cases carried : ∃ lc ∈ c.lanes, lc.lane = l
    · obtain ⟨lc, mem, rfl⟩ := carried
      rw [lane, commitCarriage_lane nodup mem]
      rfl
    · rw [lane, commitCarriage_others fun lc mem e => carried ⟨lc, mem, e⟩]
      rfl
  · exact (users' i).trans (by rw [users])
  · exact hold'.trans (by rw [before.same .hold])
  · exact (commitFrame_releases p c s).1
  · rw [lane, commitCarriage_others away]
    exact ⟨rfl, rfl, rfl, rfl, rfl, rfl⟩
  · rw [lane, commitCarriage_lane nodup mem]
    exact ⟨rfl, rfl, rfl, rfl, rfl, rfl⟩

end Sys2Proof.Machine
end

/-! ## Proofs: the slips that wait on a send (3.7, 9.4), and the send as a whole -/

section
namespace Sys2Proof.Machine

/-! ### Causes once set stay set -/

theorem hasCause_or (a b : BitVec 4) (c : Cause) (h : hasCause a c = true) : hasCause (a ||| b) c = true := by
  unfold hasCause at *
  rw [BitVec.getLsbD_or, h, Bool.true_or]

/-- Every cause set in `s` is set in `t`. -/
def keepsCauses (s t : State) : Prop := ∀ c, hasCause s.regs.notice c = true → hasCause t.regs.notice c = true

theorem complete_keepsCauses (r : RecId) (status : Nat) (aux frame : Word) (s : State) :
    keepsCauses s (complete r status aux frame s) := by
  intro c set
  cases work : s.work r with
  | none => rwa [complete_none _ _ _ _ _ work]
  | some w =>
    have regs := (complete_spec r status aux frame s w work).1.1.2.1
    rw [regs]
    split
    · exact hasCause_or _ _ _ set
    · exact set

theorem choose_keepsCauses (s : State) : keepsCauses s (choose s) := by
  refine choose_keeps (fun t => keepsCauses s t) (fun t e _ _ k => ?_) (fun t j op _ _ _ k => k) (fun t j _ _ _ k => ?_)
    (fun t j _ _ _ k => k) fun _ h => h
  · intro c set
    rw [startRecovery_regs]
    exact k c set
  · intro c set
    unfold finishWrite
    split
    · exact complete_keepsCauses _ _ _ _ _ c (k c set)
    · exact complete_keepsCauses _ _ _ _ _ c (k c set)

/-! ### Slips completed one after the other -/

/-- From `s` to `t` the slips of a list complete OK, aux and done frame `n`. -/
structure Completes (n : Word) (rs : List RecId) (s t : State) : Prop where
  work : ∀ r, t.work r = if r ∈ rs then none else s.work r
  jobs : t.store.jobs = s.store.jobs.filter fun j => !(decide (j.record ∈ rs) && (s.work j.record).isSome)
  anchor : t.regs.anchor = s.regs.anchor
  causes : keepsCauses s t
  written : ∃ more, t.posted = s.posted ++ more ∧ ∀ r ∈ rs, ∀ w, s.work r = some w →
    (w.wantsNotice = true → hasCause t.regs.notice .slip = true) ∧
    ∃ before after, more = before ++ completionWrites s.regs.anchor w 0 n n ++ after

theorem Completes.refl (n : Word) {s t : State} (reader : t.reader = s.reader) (store : t.store = s.store)
    (regs : t.regs = s.regs) (posted : t.posted = s.posted) : Completes n [] s t where
  work r := by rw [if_neg List.not_mem_nil, State.work, reader]; rfl
  jobs := by simp [store]
  anchor := by rw [regs]
  causes _ h := by rwa [regs]
  written := ⟨[], by rw [posted, List.append_nil], fun _ h => absurd h List.not_mem_nil⟩

theorem Completes.trans {n : Word} {rs qs : List RecId} {s t u : State} (h : Completes n rs s t) (k : Completes n qs t u) :
    Completes n (rs ++ qs) s u where
  work r := by
    rw [k.work, h.work]
    simp only [List.mem_append]
    split_ifs <;> tauto
  jobs := by
    rw [k.jobs, h.jobs, List.filter_filter]
    refine List.filter_congr fun j _ => ?_
    rw [h.work, Bool.eq_iff_iff]
    by_cases first : j.record ∈ rs <;> by_cases second : j.record ∈ qs <;> simp [first, second]
  anchor := k.anchor.trans h.anchor
  causes c set := k.causes c (h.causes c set)
  written := by
    obtain ⟨more, posted, all⟩ := h.written
    obtain ⟨more', posted', all'⟩ := k.written
    refine ⟨more ++ more', by rw [posted', posted, List.append_assoc], fun r hr w work => ?_⟩
    by_cases first : r ∈ rs
    · obtain ⟨notice, before, after, eq⟩ := all r first w work
      exact ⟨fun wants => k.causes _ (notice wants), before, after ++ more', by rw [eq]; simp⟩
    · have second : r ∈ qs := (List.mem_append.mp hr).resolve_left first
      obtain ⟨notice, before, after, eq⟩ := all' r second w (by rw [h.work, if_neg first]; exact work)
      exact ⟨notice, more ++ before, after, by rw [eq, h.anchor]; simp⟩

theorem complete_completes (n : Word) (r : RecId) (s : State) : Completes n [r] s (complete r statusOk n n s) := by
  cases held : s.work r with
  | none =>
    rw [complete_none _ _ _ _ _ held]
    refine ⟨fun q => ?_, ?_, rfl, fun _ h => h, [], (List.append_nil _).symm, fun q hq w work => ?_⟩
    · by_cases same : q = r
      · rw [if_pos (by simp [same]), same, held]
      · rw [if_neg (by simp [same])]
    · symm
      refine List.filter_eq_self.mpr fun j _ => ?_
      by_cases same : j.record = r
      · simp [same, held]
      · simp [same]
    · rw [List.mem_singleton.mp hq, held] at work
      cases work
  | some w =>
    obtain ⟨⟨⟨records, regs, posted⟩, jobs⟩, -⟩ := complete_spec r statusOk n n s w held
    have anchor : (complete r statusOk n n s).regs.anchor = s.regs.anchor := by
      rw [regs]
      split <;> rfl
    refine ⟨fun q => ?_, ?_, anchor, complete_keepsCauses _ _ _ _ _,
      completionWrites s.regs.anchor w statusOk n n ++ (if w.wantsNotice then messageFor .slip s.regs else []),
      by rw [posted, List.append_nil, List.append_assoc], ?_⟩
    · by_cases same : q = r
      · subst same
        rw [if_pos (List.mem_singleton_self q), State.work, records]
        exact Vector.getElem_set_self _
      · rw [if_neg (by simp [same]), complete_work_other same]
    · rw [jobs]
      refine List.filter_congr fun j _ => ?_
      by_cases same : j.record = r
      · simp [same, held]
      · simp [same]
    · intro q hq w' work
      obtain rfl := List.mem_singleton.mp hq
      rw [held] at work
      obtain rfl := Option.some.inj work
      refine ⟨fun wants => ?_, [], _, rfl⟩
      rw [regs, if_pos wants]
      exact hasCause_withCause _ _

theorem completeAt_completes (n : Word) : ∀ (rs : List RecId) (s : State), Completes n rs s (completeAt n rs s)
  | [], _ => .refl n rfl rfl rfl rfl
  | r :: rs, s => (complete_completes n r s).trans (completeAt_completes n rs (complete r statusOk n n s))

/-! ### The slips that wait on a send -/

/-- A slip waits on the send of a frame: a raise that comes on air, an end whose alert is freed, or a MAP_LOAD whose
switch-over is made. -/
def waitsOn (p : Plan) (s : State) (r : RecId) : Prop :=
  (∃ a ∈ activeAlerts s, a.state = .raised ∧ (∃ b ∈ p.alerts, b.id = a.id) ∧ a.raiseRecord = r) ∨
  (∃ a ∈ activeAlerts s, freedBy p a = true ∧ a.endRecord = some r) ∨ s.maps.switched = some r

theorem mem_switchedSlip (s : State) (r : RecId) : r ∈ switchedSlip s ↔ s.maps.switched = some r := by
  unfold switchedSlip
  cases s.maps.switched with
  | none => simp
  | some q => simp [eq_comm]

theorem holds_iff_mem (p : Plan) (a : Alert) : p.holds a = true ↔ ∃ b ∈ p.alerts, b.id = a.id := by
  rw [← holds_iff, List.any_eq_true]
  simp only [decide_eq_true_eq]

theorem mem_alertCompletions (p : Plan) (s : State) (r : RecId) : r ∈ alertCompletions p s ↔
    (∃ a ∈ activeAlerts s, a.state = .raised ∧ (∃ b ∈ p.alerts, b.id = a.id) ∧ a.raiseRecord = r) ∨
    ∃ a ∈ activeAlerts s, freedBy p a = true ∧ a.endRecord = some r := by
  have ends (a : Alert) : freedBy p a = true ↔ a.state = .ending ∧ p.holds a = false := by
    rw [freedBy, holds_iff, Bool.and_eq_true, decide_eq_true_eq, Bool.not_eq_true']
  have one (a : Alert) : (match a.state with
        | .raised => if p.holds a then some a.raiseRecord else none
        | .onAir => none
        | .ending => if p.holds a then none else a.endRecord) = some r ↔
      (a.state = .raised ∧ p.holds a = true ∧ a.raiseRecord = r) ∨ (freedBy p a = true ∧ a.endRecord = some r) := by
    rw [ends]
    cases a.state <;> cases p.holds a <;> simp
  have each : r ∈ alertCompletions p s ↔ ∃ a ∈ activeAlerts s,
      (a.state = .raised ∧ p.holds a = true ∧ a.raiseRecord = r) ∨ (freedBy p a = true ∧ a.endRecord = some r) := by
    rw [alertCompletions, List.mem_filterMap]
    exact exists_congr fun a => and_congr_right fun _ => one a
  rw [each, ← exists_or]
  simp only [holds_iff_mem, ← and_or_left]

theorem waitsOn_iff (p : Plan) (s : State) (r : RecId) : r ∈ alertCompletions p s ++ switchedSlip s ↔ waitsOn p s r := by
  rw [List.mem_append, mem_alertCompletions, mem_switchedSlip, or_assoc]
  rfl

end Sys2Proof.Machine
end

/-! ## Proofs: a pull in READY (3.6, 3.7) -/

section
namespace Sys2Proof.Machine

/-! ### The send, its mirrors and its completions -/

/-- The state in which a finished frame is in transmission and nothing of its carriage is committed. -/
def airing (p : Plan) (frame : List Byte) (s : State) : State :=
  { s with
    link := { s.link with airData := .sending frame }
    frames := { s.frames with counter := s.frames.counter + 1 }
    maps := { s.maps with upcoming :=
      if 0 < p.announce then s.maps.upcoming.map fun m => { m with announce := p.announce - 1 } else s.maps.upcoming } }

theorem sendStart_airing (p : Plan) (frame : List Byte) (s : State) : sendStart p frame s = airing p frame s := by
  unfold sendStart airing announceSent
  dsimp only
  have maps : ((setAirData (.sending frame) s).setFrames
      { (setAirData (.sending frame) s).frames with counter := (setAirData (.sending frame) s).frames.counter + 1 }).maps =
    s.maps := rfl
  rw [maps]
  cases pending : s.maps.upcoming with
  | none =>
    have kept : ({ s.maps with upcoming := none } : MapControl) = s.maps := by rw [← pending]
    simp only [Option.map_none, ite_self, kept]
    rfl
  | some m =>
    by_cases counted : 0 < p.announce
    · rw [if_pos counted]
      exact if_pos counted
    · have kept : ({ s.maps with upcoming := some m } : MapControl) = s.maps := by rw [← pending]
      rw [if_neg counted, kept]
      exact if_neg counted

/-- The mirrors of a send. -/
def sendMirrors (p : Plan) (c : Carriage) (v : State) : List Posted :=
  .write [⟨addrAt v.regs.anchor 0x2400, frameMirror v p.counter⟩] ::
    (mirroredLanes p c).map fun l => laneMirrorWrite v l p.counter

theorem writeLaneMirrors_eq (counter : Word) (ls : List LaneId) (s : State) :
    ls.foldl (fun s l => writeLaneMirror l counter s) s = s.posting (ls.map fun l => laneMirrorWrite s l counter) := by
  have posts := foldl_posting (f := fun s l => writeLaneMirror l counter s) (g := fun s l => laneMirrorWrite s l counter)
    (fun _ _ => by rfl) (fun _ _ _ => by rfl)
  exact posts ls s

theorem writeSendMirrors_eq (p : Plan) (c : Carriage) (v : State) : writeSendMirrors p c v = v.posting (sendMirrors p c v) := by
  have first : writeFrameMirror p.counter v =
      v.posting [.write [⟨addrAt v.regs.anchor 0x2400, frameMirror v p.counter⟩]] := rfl
  have kept (more : List Posted) (l : LaneId) : laneMirrorWrite (v.posting more) l p.counter = laneMirrorWrite v l p.counter := rfl
  unfold writeSendMirrors
  rw [first, writeLaneMirrors_eq, posting_posting]
  simp only [kept]
  rfl

theorem mirroredLanes_eq (p : Plan) (c : Carriage) : mirroredLanes p c = (p.lanes.map fun pl => pl.entry.lane) ++
    (c.fetched.map Fetched.lane).filter fun l => ∀ pl ∈ p.lanes, pl.entry.lane ≠ l := by
  unfold mirroredLanes
  refine congrArg ((p.lanes.map fun pl => pl.entry.lane) ++ ·) (List.filter_congr fun l _ => ?_)
  rw [Bool.eq_iff_iff, Option.isNone_iff_eq_none, Plan.lane?, List.find?_eq_none]
  simp only [decide_eq_true_eq, ne_eq]

/-- The state of a send in which the slips that waited are completed and the store has not yet chosen. -/
def sendCompleted (p : Plan) (c : Carriage) (ends : List RecId) (v : State) : State :=
  completeSwitched p.counter (completeAt p.counter ends (writeSendMirrors p c v))

theorem sendCompleted_completes (p : Plan) (c : Carriage) (ends : List RecId) (v : State) :
    Completes p.counter (ends ++ switchedSlip v) (v.posting (sendMirrors p c v)) (sendCompleted p c ends v) := by
  have first := completeAt_completes p.counter ends (v.posting (sendMirrors p c v))
  let m := completeAt p.counter ends (v.posting (sendMirrors p c v))
  have maps : m.maps = v.maps :=
    completeAt_changesOnly p.counter ends (v.posting (sendMirrors p c v)) .maps (by decide)
  have waits : switchedSlip m = switchedSlip v := by unfold switchedSlip; rw [maps]
  have between : Completes p.counter [] m (m.setMaps { m.maps with switched := none }) := .refl _ rfl rfl rfl rfl
  have last := completeAt_completes p.counter (switchedSlip m) (m.setMaps { m.maps with switched := none })
  rw [waits] at last
  have all := first.trans (between.trans last)
  unfold sendCompleted completeSwitched
  rw [writeSendMirrors_eq, waits]
  exact all

theorem sendCompleted_touches (p : Plan) (c : Carriage) (ends : List RecId) (v : State) :
    touches (.switched :: completionAspects) v (sendCompleted p c ends v) :=
  ((writeSendMirrors_touches p c v).trans (zs := completionAspects) (completeAt_touches p.counter ends _)).trans
    (zs := .switched :: completionAspects) (completeSwitched_touches p.counter _)

theorem sendCompleted_maps (p : Plan) (c : Carriage) (ends : List RecId) (v : State) :
    (sendCompleted p c ends v).maps = { v.maps with switched := none } := by
  let m := completeAt p.counter ends (writeSendMirrors p c v)
  have maps : m.maps = v.maps := by
    refine (completeAt_changesOnly p.counter ends _ .maps (by decide)).trans ?_
    rw [writeSendMirrors_eq]
    rfl
  have last := completeAt_changesOnly p.counter (switchedSlip m) (m.setMaps { m.maps with switched := none }) .maps (by decide)
  rw [← maps]
  exact last

theorem sendFrame_stages (p : Plan) (c : Carriage) (frame : List Byte) (s : State) : sendFrame p c frame s =
    beginAssembly (choose (sendCompleted p c (alertCompletions p s) (commitFrame p c (airing p frame s)))) := by
  rw [sendFrame_eq, sendStart_airing]
  rfl

/-- No new work record comes to the jobs as references go. -/
theorem releases.jobs {s t : State} (h : releases s t) : ∀ j ∈ t.store.jobs, ∃ k ∈ s.store.jobs, k.record = j.record := by
  obtain ⟨⟨-, begun, store, -⟩, -⟩ := h
  intro j hj
  rw [store] at hj
  obtain ⟨k, hk, rfl⟩ := List.mem_map.mp hj
  refine ⟨k, hk, ?_⟩
  split <;> rfl

theorem posting_work (s : State) (more : List Posted) (r : RecId) : (s.posting more).work r = s.work r := rfl

theorem posting_anchor (s : State) (more : List Posted) : (s.posting more).regs.anchor = s.regs.anchor := rfl

theorem posting_posted (s : State) (more : List Posted) : (s.posting more).posted = s.posted ++ more := rfl

/-- What the completions of a send and the store's choice leave of the slips, from the state `v` of the commits; `s` is the state
of the pull. -/
structure SlipsSent (p : Plan) (c : Carriage) (waits : RecId → Prop) (s v x u : State) : Prop where
  posted : ∃ completions, u.posted = v.posted ++ sendMirrors p c v ++ completions ∧
    ∀ r w, waits r → s.work r = some w → u.work r = none ∧ (∀ j ∈ u.store.jobs, j.record ≠ r) ∧
      (w.wantsNotice = true → hasCause u.regs.notice .slip = true) ∧ ∃ before after, completions =
        before ++ completionWrites s.regs.anchor w 0 p.counter p.counter ++ after
  others : ∀ r, ¬ waits r → (∀ j ∈ s.store.jobs, j.record ≠ r) → u.work r = s.work r
  store : x.store = { v.store with jobs := x.store.jobs }
  jobs : ∀ j, j ∈ x.store.jobs ↔ j ∈ v.store.jobs ∧ ¬ (waits j.record ∧ s.work j.record ≠ none)
  sublist : x.store.jobs.Sublist v.store.jobs

theorem choose_slipsSent {p : Plan} {c : Carriage} {ends : List RecId} {waits : RecId → Prop} {s v : State}
    (work : ∀ r, v.work r = s.work r) (anchor : v.regs.anchor = s.regs.anchor)
    (waiting : ∀ r, r ∈ ends ++ switchedSlip v ↔ waits r)
    (vjobs : ∀ j ∈ v.store.jobs, ∃ k ∈ s.store.jobs, k.record = j.record) :
    SlipsSent p c waits s v (sendCompleted p c ends v) (choose (sendCompleted p c ends v)) := by
  have completes := sendCompleted_completes p c ends v
  have completed := sendCompleted_touches p c ends v
  generalize sendCompleted p c ends v = x at completes completed
  obtain ⟨more, posted, written⟩ := completes.written
  obtain ⟨more', chosenPosts⟩ := (choose_touches x).posted
  simp only [posting_work, posting_anchor, work, anchor, waiting] at written
  rw [posting_posted] at posted
  have xwork (r : RecId) : x.work r = if r ∈ ends ++ switchedSlip v then none else s.work r := by
    rw [← work, ← posting_work v (sendMirrors p c v)]
    exact completes.work r
  have xjobs : x.store.jobs = v.store.jobs.filter fun j =>
      !(decide (j.record ∈ ends ++ switchedSlip v) && (v.work j.record).isSome) := completes.jobs
  refine ⟨⟨more ++ more', by rw [chosenPosts, posted, List.append_assoc], fun r w hr held => ⟨?_, ?_, fun wants => ?_, ?_⟩⟩,
    fun r not_waiting no_job => ?_, onlyJobs_of_touches completed, fun j => ?_, by rw [xjobs]; exact List.filter_sublist⟩
  · exact choose_work_none ((xwork r).trans (if_pos ((waiting r).mpr hr)))
  · refine choose_without fun j hj same => ?_
    rw [xjobs, List.mem_filter] at hj
    have kept := hj.2
    rw [same, work, held, decide_eq_true ((waiting r).mpr hr)] at kept
    exact absurd kept (by simp)
  · exact choose_keepsCauses x .slip ((written r hr w held).1 wants)
  · obtain ⟨-, before, rest, eq⟩ := written r hr w held
    exact ⟨before, rest ++ more', by rw [eq, List.append_assoc]⟩
  · have no_job' : ∀ j ∈ x.store.jobs, j.record ≠ r := fun j hj => by
      rw [xjobs] at hj
      obtain ⟨k, hk, same⟩ := vjobs j (List.mem_of_mem_filter hj)
      exact same ▸ no_job k hk
    rw [choose_work_kept no_job']
    exact (xwork r).trans (if_neg fun h => not_waiting ((waiting r).mp h))
  · rw [xjobs, List.mem_filter, work, ← waiting]
    refine and_congr_right fun _ => ?_
    cases s.work j.record <;> simp

/-- What the commits of a send leave for its completions. -/
theorem commitFrame_waits (p : Plan) (c : Carriage) (frame : List Byte) (s : State) :
    let v := commitFrame p c (airing p frame s)
    v.reader = s.reader ∧ v.regs = s.regs ∧ (∀ r, r ∈ alertCompletions p s ++ switchedSlip v ↔ waitsOn p s r) := by
  have committed := commitFrame_touches p c (airing p frame s)
  have only := committed.changesOnly (ps := [.lanes, .cursor, .store, .alerts, .posted])
  refine ⟨only .reader (by decide), only .regs (by decide), fun r => ?_⟩
  have switched : (commitFrame p c (airing p frame s)).maps.switched = s.maps.switched := committed.same .switched
  have same : switchedSlip (commitFrame p c (airing p frame s)) = switchedSlip s := by unfold switchedSlip; rw [switched]
  rw [same]
  exact waitsOn_iff p s r

/-- Settles O48. -/
theorem pullInReadySendsTheFrame : Obligations.PullInReadySendsTheFrame := by
  intro begun s p c frame up quiet ready v mirrors waits
  have run : exec (.airPull begun) s =
      .next (beginAssembly (choose (sendCompleted p c (alertCompletions p s) v))) := by
    rw [airPull_taken up quiet, answerPull, ready]
    exact congrArg Host.Outcome.next (sendFrame_stages p c frame s)
  have committed : touches commitAspects (airing p frame s) v := commitFrame_touches p c _
  obtain ⟨reader, regs, waiting⟩ : v.reader = s.reader ∧ v.regs = s.regs ∧ _ := commitFrame_waits p c frame s
  have work (r : RecId) : v.work r = s.work r := by rw [State.work, reader]; rfl
  have slips : SlipsSent p c waits s v (sendCompleted p c (alertCompletions p s) v) _ :=
    choose_slipsSent work (by rw [regs]) waiting (commitFrame_releases p c (airing p frame s)).jobs
  have same_mirrors : sendMirrors p c v = mirrors := by rw [sendMirrors, mirroredLanes_eq, regs]
  have completed := sendCompleted_touches p c (alertCompletions p s) v
  have maps := sendCompleted_maps p c (alertCompletions p s) v
  have all : touches sendAspects s (beginAssembly (choose (sendCompleted p c (alertCompletions p s) v))) := by
    have stages := sendFrame_touches p c frame s
    rwa [sendFrame_stages] at stages
  have places (q : PlaceId) : (beginAssembly (choose (sendCompleted p c (alertCompletions p s) v))).alerts.places[q] =
      placeAfterSend p p.counter s.alerts.places[q] := by
    have stages := sendFrame_places p c frame s q
    rwa [sendFrame_stages] at stages
  have aired (l : LaneId) : (v.lane l).counts.unitsAired =
      (s.lane l).counts.unitsAired + BitVec.ofNat 32 (c.fetched.countP (suppliedBy l)) :=
    (congrArg (fun y : Lane => y.counts.unitsAired) (commitFrame_lane p c (airing p frame s) l)).trans
      (commitCarriage_unitsAired c (airing p frame s) l)
  have cursor : v.cursor = c.cursorNext := commitFrame_cursor p c (airing p frame s)
  have vCounter : v.frames.counter = s.frames.counter + 1 := committed.same .counter
  have vVoid : v.frames.voidCount = s.frames.voidCount := committed.same .voidCount
  have vLink : v.link = { s.link with airData := .sending frame } :=
    committed.changesOnly (ps := [.lanes, .cursor, .store, .alerts, .posted]) (by decide) .link (by decide)
  clear_value v
  generalize sendCompleted p c (alertCompletions p s) v = x at *
  obtain ⟨⟨completions, posted, written⟩, others, store, jobs, sublist⟩ := slips
  have chosen := choose_touches x
  have began := beginAssembly_touches (choose x)
  obtain ⟨c', assembly⟩ := beginAssembly_begun (choose x)
  let zs : List Aspect := (.switched :: completionAspects) ++ choiceAspects ++ assemblyAspects
  have after : touches zs v (beginAssembly (choose x)) := (completed.trans (zs := zs) chosen).trans began
  have beganOnly := began.changesOnly (ps := [.lanes, .maps, .frames, .store, .posted])
  have uptoChoice : touches (.switched :: choiceAspects) v (choose x) := completed.trans chosen
  obtain ⟨-, -, captured, -⟩ := id assembly
  have switchedFrames : (switchOver (choose x)).frames = (choose x).frames :=
    (switchOver_touches (choose x)).changesOnly (ps := [.lanes, .maps]) (by decide) .frames (by decide)
  have treader : (beginAssembly (choose x)).reader = (choose x).reader := beganOnly .reader (by decide)
  have twork (r : RecId) : (beginAssembly (choose x)).work r = (choose x).work r := by rw [State.work, treader]; rfl
  have tregs : (beginAssembly (choose x)).regs = (choose x).regs := beganOnly .regs (by decide)
  refine ⟨_, choose x, _, c', completions, run, ?_, (after.same .counter).trans vCounter, (after.same .voidCount).trans vVoid,
    ?_, (after.same .poolCursor).trans cursor, places, all.same .log, fun l => ⟨?_, all.same .laneState (by decide) l,
      all.same .feed (by decide) l⟩, (choose_maps x).trans maps, by rw [← same_mirrors]; exact posted,
    fun r wr hr held => ?_, fun r not_waiting no_job => (twork r).trans (others r not_waiting no_job), uptoChoice.slots,
    ⟨x, store, jobs, sublist, choose_storeChose x⟩, ?_, uptoChoice.changesOnly, assembly, beganOnly,
    fun a => by rw [all.same .contents], all.changesOnly⟩
  · rw [← vLink]
    exact after.changesOnly (ps := [.regs, .reader, .lanes, .maps, .frames, .store, .posted]) (by decide) .link (by decide)
  · rw [captured.1, switchedFrames, uptoChoice.same .counter, vCounter]
  · have kept : ((beginAssembly (choose x)).lane l).counts = (v.lane l).counts := after.same .counts (by decide) l
    rw [kept, aired, ready]
    rfl
  · rw [twork, tregs]
    exact written r wr hr held
  · rw [← regs]
    exact uptoChoice.regs_notice

end Sys2Proof.Machine
end

/-! ## Proofs: every frame formed is whole (3.5, 3.6, 10.3-10.5) -/

section
namespace Sys2Proof.Machine

/-! ### Parts of lists -/

/-- The part of a list between two others. -/
theorem part_between {α : Type} {xs a b c : List α} (eq : xs = a ++ (b ++ c)) {n m : Nat} (hn : n = a.length) (hm : m = b.length) :
    (xs.drop n).take m = b := by
  rw [eq, hn, hm, List.drop_left, List.take_left]

theorem getD_between {xs a b c : List Byte} (eq : xs = a ++ (b ++ c)) {n i : Nat} (hn : n = a.length) (hi : i < b.length) :
    xs.getD (n + i) 0 = b.getD i 0 := by
  rw [eq, hn, List.getD_eq_getElem?_getD, List.getElem?_append_right (Nat.le_add_right _ _), Nat.add_sub_cancel_left,
    List.getElem?_append_left hi, List.getD_eq_getElem?_getD]

theorem flatMap_around {α β : Type} {xs before after : List α} {x : α} (eq : xs = before ++ x :: after) (f : α → List β) :
    xs.flatMap f = before.flatMap f ++ (f x ++ after.flatMap f) := by
  rw [eq, List.flatMap_append, List.flatMap_cons]

theorem length_flatMap_const {α β : Type} {f : α → List β} {k : Nat} : ∀ {xs : List α}, (∀ x ∈ xs, (f x).length = k) →
    (xs.flatMap f).length = k * xs.length
  | [], _ => rfl
  | x :: xs, h => by
    rw [List.flatMap_cons, List.length_append, h x List.mem_cons_self,
      length_flatMap_const fun y hy => h y (List.mem_cons_of_mem _ hy), List.length_cons]
    ring

theorem length_flatMap_sum {α β : Type} {f : α → List β} {g : α → Nat} : ∀ {xs : List α}, (∀ x ∈ xs, (f x).length = 16 * g x) →
    (xs.flatMap f).length = 16 * (xs.map g).sum
  | [], _ => rfl
  | x :: xs, h => by
    rw [List.flatMap_cons, List.length_append, h x List.mem_cons_self,
      length_flatMap_sum fun y hy => h y (List.mem_cons_of_mem _ hy), List.map_cons, List.sum_cons]
    ring

theorem length_padTo {n : Nat} {bs : List Byte} (fits : bs.length ≤ n) : (padTo n bs).length = n := by
  rw [padTo, List.length_append, List.length_replicate]
  omega

theorem length_leBytes : ∀ n v, (leBytes n v).length = n
  | 0, _ => rfl
  | n + 1, v => by rw [leBytes, List.length_cons, length_leBytes n]

theorem length_beBytes (n v : Nat) : (beBytes n v).length = n := by rw [beBytes, List.length_reverse, length_leBytes]

theorem beBytes_one (v : Nat) : beBytes 1 v = [BitVec.ofNat 8 v] := rfl

/-! ### The highest level -/

theorem foldl_max_le : ∀ (xs : List Nat) (m n : Nat), xs.foldl max m ≤ n ↔ m ≤ n ∧ ∀ x ∈ xs, x ≤ n
  | [], m, n => by simp
  | x :: xs, m, n => by
    rw [List.foldl_cons, foldl_max_le xs, max_le_iff, List.forall_mem_cons, and_assoc]

theorem topLevel_eq {as : List Alert} {n : Nat} (h : highestLevel as n) : topLevel as = n := by
  obtain ⟨above, attained⟩ := h
  have all := (foldl_max_le (as.map Alert.level) 0 (topLevel as)).mp (Nat.le_refl _)
  refine Nat.le_antisymm ((foldl_max_le _ _ _).mpr ⟨Nat.zero_le _, fun x hx => ?_⟩) ?_
  · obtain ⟨a, ha, rfl⟩ := List.mem_map.mp hx
    exact above a ha
  · obtain rfl | ⟨a, ha, rfl⟩ := attained
    · exact Nat.zero_le _
    · exact all.2 _ (List.mem_map_of_mem ha)

/-! ### The header -/

theorem headerStart_eq (counter : Word) (generation next : Byte) (announce level : Nat) (isVoid : Bool) (poolStart : Nat) :
    headerStart counter generation next announce level isVoid poolStart =
      ([0x4B, 0x58, 0xA6] : List Byte) ++ beBytes 4 counter.toNat ++
        [generation, next, BitVec.ofNat 8 announce, BitVec.ofNat 8 level, BitVec.ofNat 8 (flagBits [isVoid])] ++
        beBytes 2 poolStart := by
  simp [headerStart, beBytes_one]

theorem length_headerStart (counter : Word) (generation next : Byte) (announce level : Nat) (isVoid : Bool) (poolStart : Nat) :
    (headerStart counter generation next announce level isVoid poolStart).length = 14 := by
  simp [headerStart, length_beBytes]

/-- A frame begins with its header: the first 14 bytes, and the check code over them and the directories. -/
theorem header_parts {frame start directories rest : List Byte} (eq : frame = headerRegion start directories ++ rest)
    (hstart : start.length = 14) (hdir : directories.length = 128) : frame.take 14 = start ∧
    (frame.drop 16).take 128 = directories ∧
    (frame.drop 14).take 2 = beBytes 2 (crc16 (frame.take 14 ++ (frame.drop 16).take 128)).toNat := by
  let check := beBytes 2 (crc16 (start ++ directories)).toNat
  have hcheck : check.length = 2 := length_beBytes _ _
  have first : frame.take 14 = start :=
    part_between (xs := frame) (a := []) (c := check ++ (directories ++ rest)) (n := 0)
      (by rw [eq]; simp [headerRegion, check]) rfl hstart.symm
  have second : (frame.drop 16).take 128 = directories :=
    part_between (a := start ++ check) (c := rest) (by rw [eq]; simp [headerRegion, check]) (by simp [hstart, hcheck]) hdir.symm
  refine ⟨first, second, ?_⟩
  rw [first, second]
  exact part_between (a := start) (b := check) (c := directories ++ rest) (by rw [eq]; simp [headerRegion, check])
    hstart.symm hcheck.symm

theorem length_headerRegion {start directories : List Byte} (hstart : start.length = 14) (hdir : directories.length = 128) :
    (headerRegion start directories).length = 144 := by
  simp [headerRegion, hstart, hdir, length_beBytes]

/-! ### Void frames -/

theorem voidFrame_whole (s : State) {level : Nat} (highest : highestLevel ((activeAlerts s).filter fun a => a.state = .onAir) level) :
    (voidFrame s).length = 19200 ∧
    (voidFrame s).take 14 = ([0x4B, 0x58, 0xA6] : List Byte) ++ beBytes 4 s.frames.counter.toNat ++
      [s.maps.generation, (announceNow s).1, BitVec.ofNat 8 (announceNow s).2, BitVec.ofNat 8 level, 1, 0, 0] ∧
    ((voidFrame s).drop 14).take 2 =
      beBytes 2 (crc16 ((voidFrame s).take 14 ++ ((voidFrame s).drop 16).take 128)).toNat ∧
    (voidFrame s).drop 16 = List.replicate 19184 0 := by
  let start := headerStart s.frames.counter s.maps.generation (announceNow s).1 (announceNow s).2 level true 0
  have hstart : start.length = 14 := length_headerStart _ _ _ _ _ _ _
  have hdir : (List.replicate 128 (0 : Byte)).length = 128 := List.length_replicate
  have hheader := length_headerRegion hstart hdir
  have eq : voidFrame s = headerRegion start (List.replicate 128 0) ++ List.replicate 19056 0 := by
    rw [voidFrame, topLevel_eq highest, padTo, hheader]
    rfl
  obtain ⟨first, -, check⟩ := header_parts eq hstart hdir
  refine ⟨?_, ?_, check, ?_⟩
  · rw [eq, List.length_append, hheader, List.length_replicate]
  · refine first.trans ((headerStart_eq _ _ _ _ _ _ _).trans ?_)
    simp only [List.append_assoc]
    rfl
  · let code := beBytes 2 (crc16 (start ++ List.replicate 128 0)).toNat
    have hcode : (start ++ code).length = 16 := by rw [List.length_append, hstart, length_beBytes]
    have split : voidFrame s = (start ++ code) ++ List.replicate 19184 0 := by
      rw [eq, headerRegion, List.append_assoc, List.replicate_append_replicate]
    rw [split, ← hcode, List.drop_left]

/-! ### The bytes of a lane -/

theorem length_audioBytes (a : AudioOutcome) : a.bytes.length = 16 * a.cells := by
  cases a with
  | unit l data =>
    refine length_padTo ?_
    rw [List.length_append, length_beBytes, unitCells, ceilDiv]
    omega
  | filler cause => rfl
  | noAudio => rfl

/-- The items of a lane fit its cells. -/
structure FitsCells (e : MapEntry) (lc : LaneCarriage) : Prop where
  audio : lc.audio.cells ≤ e.reserved
  items : (itemBytes lc).length ≤ 16 * (e.reserved - lc.audio.cells + lc.grant)

theorem FitsCells.sideBytes {e : MapEntry} {lc : LaneCarriage} (h : FitsCells e lc) :
    (sideBytes e lc).length = 16 * (spareCells e lc.audio + lc.grant) := length_padTo h.items

theorem FitsCells.region {e : MapEntry} {lc : LaneCarriage} (h : FitsCells e lc) :
    (regionBytes e lc).length = 16 * e.reserved := by
  have audio := h.audio
  rw [regionBytes, List.length_append, length_audioBytes, List.length_take, h.sideBytes, spareCells]
  omega

theorem FitsCells.granted {e : MapEntry} {lc : LaneCarriage} (h : FitsCells e lc) :
    (grantedBytes e lc).length = 16 * lc.grant := by
  rw [grantedBytes, List.length_drop, h.sideBytes, spareCells]
  omega

theorem region_granted (e : MapEntry) (lc : LaneCarriage) : regionBytes e lc ++ grantedBytes e lc =
    lc.audio.bytes ++ padTo (16 * (e.reserved - lc.audio.cells + lc.grant)) (itemBytes lc) := by
  rw [regionBytes, grantedBytes, List.append_assoc, List.take_append_drop]
  rfl

/-- The bytes of a lane of the plan, taken with its carriage. -/
def laneBytes (f : MapEntry → LaneCarriage → List Byte) (c : Carriage) (pl : PlanLane) : List Byte :=
  match c.lane? pl.entry.lane with
  | some lc => f pl.entry lc
  | none => []

theorem overLanes_eq (f : MapEntry → LaneCarriage → List Byte) (p : Plan) (c : Carriage) :
    overLanes f p c = p.lanes.flatMap (laneBytes f c) := rfl

theorem laneBytes_some {c : Carriage} {pl : PlanLane} {lc : LaneCarriage} (carried : c.lane? pl.entry.lane = some lc)
    (f : MapEntry → LaneCarriage → List Byte) : laneBytes f c pl = f pl.entry lc := by
  rw [laneBytes, carried]

/-! ### The directories -/

theorem length_laneDirectoryEntry (p : Plan) (c : Carriage) (l : LaneId) : (laneDirectoryEntry p c l).length = 4 := by
  unfold laneDirectoryEntry
  cases p.entry? l with
  | none => exact List.length_replicate
  | some e =>
    cases c.lane? l with
    | none => exact List.length_replicate
    | some lc => simp [length_beBytes]

/-- The lane directory. -/
def laneDirectory (p : Plan) (c : Carriage) : List Byte := (List.finRange 24).flatMap (laneDirectoryEntry p c)

/-- The pool grant directory. -/
def grantDirectory (c : Carriage) : List Byte := (List.finRange 24).map (grantByte c)

/-- The alert directory. -/
def alertDirectory (p : Plan) : List Byte := padTo 8 (p.alerts.flatMap alertDirectoryEntry)

theorem directoryBytes_eq (p : Plan) (c : Carriage) :
    directoryBytes p c = laneDirectory p c ++ grantDirectory c ++ alertDirectory p := rfl

theorem length_laneDirectory (p : Plan) (c : Carriage) : (laneDirectory p c).length = 96 := by
  rw [laneDirectory, length_flatMap_const fun l _ => length_laneDirectoryEntry p c l, List.length_finRange]

theorem length_grantDirectory (c : Carriage) : (grantDirectory c).length = 24 := by
  rw [grantDirectory, List.length_map, List.length_finRange]

theorem length_alertDirectory {p : Plan} (few : p.alerts.length ≤ 4) : (alertDirectory p).length = 8 := by
  refine length_padTo ?_
  rw [length_flatMap_const (k := 2) fun _ _ => rfl]
  omega

theorem finRange_around (l : LaneId) : ∃ before after, List.finRange 24 = before ++ l :: after ∧ before.length = l.val := by
  refine ⟨(List.finRange 24).take l.val, (List.finRange 24).drop (l.val + 1), ?_, ?_⟩
  · conv_lhs => rw [← List.take_append_drop l.val (List.finRange 24),
      List.drop_eq_getElem_cons (show l.val < (List.finRange 24).length by simp)]
    rw [List.getElem_finRange]
    rfl
  · rw [List.length_take, List.length_finRange]
    have below := l.isLt
    omega

/-! ### Assembled frames -/

theorem append_four (a b c d : List Byte) : a ++ b ++ c ++ d = a ++ (b ++ (c ++ d)) := by simp only [List.append_assoc]

/-- The parts of an assembled frame and their lengths. -/
theorem assembledFrame_parts {p : Plan} {c : Carriage} {level : Nat} (fits : carriageFits p c)
    (highest : highestLevel p.alerts level) : ∃ n,
    assembledFrame p c =
      headerRegion (headerStart p.counter p.generation p.next p.announce level false p.poolStart) (directoryBytes p c) ++
        (p.lanes.flatMap (laneBytes regionBytes c) ++ (p.lanes.flatMap (laneBytes grantedBytes c) ++ List.replicate n 0)) ∧
    (directoryBytes p c).length = 128 ∧
    (∀ pl ∈ p.lanes, (laneBytes regionBytes c pl).length = 16 * pl.entry.reserved) ∧
    (∀ pl ∈ p.lanes, (laneBytes grantedBytes c pl).length = 16 * grantAt c pl) ∧
    16 * (9 + (p.lanes.map fun pl => pl.entry.reserved).sum + (p.lanes.map (grantAt c)).sum) + n = 19200 := by
  obtain ⟨lanes, cells, few⟩ := fits
  have hstart := length_headerStart p.counter p.generation p.next p.announce level false p.poolStart
  have hdir : (directoryBytes p c).length = 128 := by
    rw [directoryBytes_eq, List.length_append, List.length_append, length_laneDirectory, length_grantDirectory,
      length_alertDirectory few]
  have fit {pl : PlanLane} (hpl : pl ∈ p.lanes) : ∃ lc, c.lane? pl.entry.lane = some lc ∧ FitsCells pl.entry lc := by
    obtain ⟨lc, carried, audio, items⟩ := lanes pl hpl
    exact ⟨lc, carried, audio, items⟩
  have regions : ∀ pl ∈ p.lanes, (laneBytes regionBytes c pl).length = 16 * pl.entry.reserved := fun pl hpl => by
    obtain ⟨lc, carried, fits⟩ := fit hpl
    rw [laneBytes_some carried, fits.region]
  have grants : ∀ pl ∈ p.lanes, (laneBytes grantedBytes c pl).length = 16 * grantAt c pl := fun pl hpl => by
    obtain ⟨lc, carried, fits⟩ := fit hpl
    rw [laneBytes_some carried, fits.granted, grantAt, carried]
  have sums : (p.lanes.map fun pl => pl.entry.reserved + grantAt c pl).sum =
      (p.lanes.map fun pl => pl.entry.reserved).sum + (p.lanes.map (grantAt c)).sum := List.sum_map_add
  have formed : assembledFrame p c = padTo 19200
      (headerRegion (headerStart p.counter p.generation p.next p.announce level false p.poolStart) (directoryBytes p c) ++
        p.lanes.flatMap (laneBytes regionBytes c) ++ p.lanes.flatMap (laneBytes grantedBytes c)) := by
    rw [assembledFrame, topLevel_eq highest]
    rfl
  refine ⟨_, formed.trans (append_four _ _ _ _), hdir, regions, grants, ?_⟩
  rw [List.length_append, List.length_append, length_headerRegion hstart hdir, length_flatMap_sum regions,
    length_flatMap_sum grants]
  omega

theorem entry?_own {p : Plan} (distinct : (p.lanes.map fun pl => pl.entry.lane).Nodup) {pl : PlanLane} (h : pl ∈ p.lanes) :
    p.entry? pl.entry.lane = some pl.entry := by
  have found : (p.lanes.find? fun k => k.entry.lane = pl.entry.lane).isSome = true := by
    rw [List.find?_isSome]
    exact ⟨pl, h, by simp⟩
  obtain ⟨k, hk⟩ := Option.isSome_iff_exists.mp found
  have same : k.entry.lane = pl.entry.lane := by simpa using List.find?_some hk
  have own : k = pl := List.inj_on_of_nodup_map distinct (List.mem_of_find?_eq_some hk) h same
  rw [Plan.entry?, hk, own]

theorem entry?_none {p : Plan} {l : LaneId} (away : ∀ pl ∈ p.lanes, pl.entry.lane ≠ l) : p.entry? l = none := by
  have none : p.lanes.find? (fun pl => pl.entry.lane = l) = none := by simpa using away
  rw [Plan.entry?, none]

theorem lane?_none {p : Plan} {c : Carriage} (lanes : c.lanes.map LaneCarriage.lane = p.lanes.map fun pl => pl.entry.lane)
    {l : LaneId} (away : ∀ pl ∈ p.lanes, pl.entry.lane ≠ l) : c.lane? l = none := by
  refine List.find?_eq_none.mpr fun lc hlc same => ?_
  have mem : lc.lane ∈ p.lanes.map fun pl => pl.entry.lane := lanes ▸ List.mem_map_of_mem hlc
  obtain ⟨pl, hpl, e⟩ := List.mem_map.mp mem
  exact away pl hpl (e.trans (by simpa using same))

theorem take_code (t : TakeSet) : t.code = t.audio.toNat + 2 * t.text.toNat + 4 * t.picture.toNat := by
  obtain ⟨audio, text, picture⟩ := t
  cases audio <;> cases text <;> cases picture <;> rfl

/-- The directories of an assembled frame, found by their places. -/
theorem directories_at {frame rest code : List Byte} {p : Plan} {c : Carriage} {start : List Byte} (hstart : start.length = 14)
    (hcode : code.length = 2) (few : p.alerts.length ≤ 4)
    (eq : frame = start ++ (code ++ (laneDirectory p c ++ (grantDirectory c ++ (alertDirectory p ++ rest))))) :
    (∀ l : LaneId, (frame.drop (16 + 4 * l.val)).take 4 = laneDirectoryEntry p c l) ∧
    (∀ l : LaneId, frame.getD (112 + l.val) 0 = grantByte c l) ∧ (frame.drop 136).take 8 = alertDirectory p := by
  refine ⟨fun l => ?_, fun l => ?_, ?_⟩
  · obtain ⟨before, after, lanes, place⟩ := finRange_around l
    refine part_between (a := start ++ (code ++ before.flatMap (laneDirectoryEntry p c)))
      (c := after.flatMap (laneDirectoryEntry p c) ++ (grantDirectory c ++ (alertDirectory p ++ rest))) ?_ ?_
      (length_laneDirectoryEntry p c l).symm
    · rw [eq, laneDirectory, flatMap_around lanes]
      simp only [List.append_assoc]
    · rw [List.length_append, List.length_append, hstart, hcode,
        length_flatMap_const fun k _ => length_laneDirectoryEntry p c k, place]
      omega
  · rw [getD_between (a := start ++ (code ++ laneDirectory p c)) (b := grantDirectory c) (c := alertDirectory p ++ rest)
      (by rw [eq]; simp only [List.append_assoc])
      (by rw [List.length_append, List.length_append, hstart, hcode, length_laneDirectory])
      (by rw [length_grantDirectory]; exact l.isLt)]
    rw [List.getD_eq_getElem?_getD, grantDirectory, List.getElem?_map, List.getElem?_eq_getElem (by simp),
      List.getElem_finRange]
    rfl
  · exact part_between (a := start ++ (code ++ (laneDirectory p c ++ grantDirectory c))) (c := rest)
      (by rw [eq]; simp only [List.append_assoc])
      (by simp only [List.length_append, hstart, hcode, length_laneDirectory, length_grantDirectory])
      (length_alertDirectory few).symm

theorem header_directories (start : List Byte) (p : Plan) (c : Carriage) (rest : List Byte) :
    headerRegion start (directoryBytes p c) ++ rest =
      start ++ (beBytes 2 (crc16 (start ++ directoryBytes p c)).toNat ++
        (laneDirectory p c ++ (grantDirectory c ++ (alertDirectory p ++ rest)))) := by
  rw [headerRegion]
  generalize beBytes 2 (crc16 (start ++ directoryBytes p c)).toNat = code
  rw [directoryBytes_eq]
  simp only [List.append_assoc]

/-- The cells of a lane in an assembled frame, found by their places. -/
theorem lane_at {frame header zeros : List Byte} {p : Plan} {c : Carriage} (hheader : header.length = 144)
    (regions : ∀ pl ∈ p.lanes, (laneBytes regionBytes c pl).length = 16 * pl.entry.reserved)
    (grants : ∀ pl ∈ p.lanes, (laneBytes grantedBytes c pl).length = 16 * grantAt c pl)
    (eq : frame = header ++ (p.lanes.flatMap (laneBytes regionBytes c) ++ (p.lanes.flatMap (laneBytes grantedBytes c) ++ zeros)))
    {before after : List PlanLane} {pl : PlanLane} (split : p.lanes = before ++ pl :: after) :
    (frame.drop (16 * (9 + (before.map fun k => k.entry.reserved).sum))).take (16 * pl.entry.reserved) =
      laneBytes regionBytes c pl ∧
    (frame.drop (16 * (9 + (p.lanes.map fun pl => pl.entry.reserved).sum + (before.map (grantAt c)).sum))).take
      (16 * grantAt c pl) = laneBytes grantedBytes c pl := by
  have among {k : PlanLane} (hk : k ∈ before) : k ∈ p.lanes := split ▸ List.mem_append_left _ hk
  have mem : pl ∈ p.lanes := split ▸ List.mem_append_right _ List.mem_cons_self
  refine ⟨part_between (a := header ++ before.flatMap (laneBytes regionBytes c)) (c := after.flatMap (laneBytes regionBytes c) ++
      (p.lanes.flatMap (laneBytes grantedBytes c) ++ zeros)) ?_ ?_ (regions pl mem).symm,
    part_between (a := header ++ (p.lanes.flatMap (laneBytes regionBytes c) ++ before.flatMap (laneBytes grantedBytes c)))
      (c := after.flatMap (laneBytes grantedBytes c) ++ zeros) ?_ ?_ (grants pl mem).symm⟩
  · rw [eq, flatMap_around split (laneBytes regionBytes c)]
    simp only [List.append_assoc]
  · rw [List.length_append, hheader, length_flatMap_sum fun k hk => regions k (among hk)]
    ring
  · rw [eq, flatMap_around split (laneBytes grantedBytes c)]
    simp only [List.append_assoc]
  · rw [List.length_append, List.length_append, hheader, length_flatMap_sum regions,
      length_flatMap_sum fun k hk => grants k (among hk)]
    ring

/-- Settles O52. -/
theorem everyFormedFrameIsWhole : Obligations.EveryFormedFrameIsWhole := by
  refine ⟨fun s level highest => ?_, fun p c level fits highest => ?_⟩
  · have whole := voidFrame_whole s highest
    unfold announceNow at whole
    dsimp only
    cases upcoming : s.maps.upcoming with
    | none => rw [upcoming] at whole; exact whole
    | some m => rw [upcoming] at whole; exact whole
  · intro f regions
    obtain ⟨n, whole, hdir, regionsLen, grantsLen, length⟩ := assembledFrame_parts fits highest
    obtain ⟨-, -, few⟩ := fits
    have hstart := length_headerStart p.counter p.generation p.next p.announce level false p.poolStart
    have hheader := length_headerRegion hstart hdir
    obtain ⟨first, -, check⟩ := header_parts whole hstart hdir
    have directories := whole.trans (header_directories _ p c _)
    obtain ⟨laneEntry, grantEntry, alertEntry⟩ := directories_at hstart (length_beBytes _ _) few directories
    refine ⟨?_, ?_, check, fun distinct pl hpl lc carried => ⟨?_, ?_⟩, fun lanes l away => ⟨?_, ?_⟩, ?_,
      fun before pl after split lc carried => ?_, fun i beyond => ?_⟩
    · rw [show f = _ from whole, List.length_append, List.length_append, List.length_append, List.length_replicate, hheader,
        length_flatMap_sum regionsLen, length_flatMap_sum grantsLen]
      omega
    · refine first.trans ((headerStart_eq _ _ _ _ _ _ _).trans rfl)
    · rw [laneEntry, laneDirectoryEntry, entry?_own distinct hpl, carried]
      rfl
    · rw [grantEntry, grantByte, carried]
    · rw [laneEntry, laneDirectoryEntry, entry?_none away]
      rfl
    · rw [grantEntry, grantByte, lane?_none lanes away]
    · rw [alertEntry, alertDirectory]
      refine congrArg (padTo 8) (List.flatMap_congr fun a _ => ?_)
      rw [alertDirectoryEntry, take_code]
    · obtain ⟨region, grant⟩ := lane_at hheader regionsLen grantsLen whole split
      have granted_here : grantAt c pl = lc.grant := by rw [grantAt, carried]
      rw [granted_here] at grant
      rw [region, grant, laneBytes_some carried, laneBytes_some carried]
      exact region_granted _ _
    · have front : (headerRegion (headerStart p.counter p.generation p.next p.announce level false p.poolStart)
          (directoryBytes p c) ++ p.lanes.flatMap (laneBytes regionBytes c) ++
            p.lanes.flatMap (laneBytes grantedBytes c)).length ≤ i := by
        rw [List.length_append, List.length_append, hheader, length_flatMap_sum regionsLen, length_flatMap_sum grantsLen]
        omega
      rw [show f = _ from whole.trans (append_four _ _ _ _).symm, List.getD_eq_getElem?_getD, List.getElem?_append_right front,
        List.getElem?_replicate]
      split <;> rfl

end Sys2Proof.Machine
end

/-! ## Proofs: the credits kept within their ceilings (1.5, 4.1, 4.3, 4.4) -/

section
namespace Sys2Proof.Machine

/-- Every lane's credit lies within its ceiling in the active map. -/
def CreditsFit (s : State) : Prop := ∀ l, (s.lane l).credit ≤ creditCap s.maps.active l

/-- A held frame has the lanes of a map, and would commit no credit above its ceiling there. -/
def Affords (m : AirMap) (p : Plan) (c : Carriage) : Prop :=
  p.lanes.map PlanLane.entry = m.entries ∧ ∀ lc ∈ c.lanes, lc.credit ≤ creditCap m lc.lane

theorem creditSound_iff (s : State) : CreditSound s ↔ CreditsFit s ∧
    ∀ p c, s.frames.assembler.held = some (p, c) → Affords s.maps.active p c := Iff.rfl

/-! ### Credits that stay or fall -/

/-- The active map stays, and no credit rises. -/
def creditsFall (s t : State) : Prop :=
  t.maps.active = s.maps.active ∧ ∀ l, (t.lane l).credit ≤ (s.lane l).credit

theorem creditsFall_of_touches {xs : List Aspect} {s t : State} (touch : touches xs s t)
    (away : ∀ a ∈ [Aspect.active, .credit], a ∉ xs := by decide) : creditsFall s t :=
  ⟨touch.same .active (away _ (by decide)), fun l => (touch.same .credit (away _ (by decide)) l).le⟩

theorem creditsFall.trans {s t u : State} (h : creditsFall s t) (k : creditsFall t u) : creditsFall s u :=
  ⟨k.1.trans h.1, fun l => (k.2 l).trans (h.2 l)⟩

theorem CreditsFit.fall {s t : State} (h : CreditsFit s) (fall : creditsFall s t) : CreditsFit t := fun l => by
  rw [fall.1]
  exact (fall.2 l).trans (h l)

/-- One lane written with no more credit than it had. -/
theorem creditsFall_setLane {s : State} {l : LaneId} {x : Lane} (le : x.credit ≤ (s.lane l).credit) :
    creditsFall s (s.setLane l x) := by
  refine ⟨rfl, fun k => ?_⟩
  rw [State.lane_setLane]
  split
  next h => exact h ▸ le
  next => exact le_rfl

theorem CreditSound.fall {s t : State} (h : CreditSound s) (fall : creditsFall s t)
    (assembler : t.frames.assembler = s.frames.assembler) : CreditSound t := by
  obtain ⟨fit, held⟩ := (creditSound_iff s).mp h
  refine (creditSound_iff t).mpr ⟨fit.fall fall, fun p c kept => ?_⟩
  rw [fall.1]
  exact held p c (assembler ▸ kept)

/-! ### The lane slips -/

theorem laneDispatch_cases (k : Kind) (act : RecId → WorkRecord → LaneId → State → State) (s : State) :
    laneDispatch k act s = s ∨ ∃ r rest w l, laneSlipAt .lane k s r rest w l ∧
      laneDispatch k act s = act r w l (s.setMaps { s.maps with laneSlips := rest }) := by
  by_cases front : ∃ r rest w l, laneSlipAt .lane k s r rest w l
  · obtain ⟨r, rest, w, l, here⟩ := front
    exact .inr ⟨r, rest, w, l, here, laneDispatch_at here act⟩
  · exact .inl (laneDispatch_idle (fun r rest w l here => front ⟨r, rest, w, l, here⟩) act)

theorem laneDispatch_creditsFall {k : Kind} {act : RecId → WorkRecord → LaneId → State → State}
    (acts : ∀ r w l u, creditsFall u (act r w l u)) (s : State) : creditsFall s (laneDispatch k act s) := by
  obtain idle | ⟨r, rest, w, l, -, acted⟩ := laneDispatch_cases k act s
  · rw [idle]
    exact ⟨rfl, fun _ => le_rfl⟩
  · rw [acted]
    exact (creditsFall_of_touches (touches_setMaps_laneSlips rest s)).trans (acts r w l _)

theorem actLaneSetup_creditsFall (r : RecId) (w : WorkRecord) (l : LaneId) (s : State) :
    creditsFall s (actLaneSetup r w l s) := by
  have refused (status : Nat) : creditsFall s (finishUnstated r status s) :=
    creditsFall_of_touches (finishUnstated_touches r status s)
  unfold actLaneSetup
  dsimp only
  split
  · exact refused _
  split
  · exact refused _
  split
  · exact (creditsFall_setLane (x := setUpLane w (s.lane l)) (Nat.zero_le _)).trans
      ((creditsFall_of_touches (touches_postRecord _ _ _)).trans (creditsFall_of_touches (finish_touches _ _ _ _)))
  · have reconfigured : creditsFall s (reconfigure w l s) :=
      (creditsFall_of_touches (returnPage_touches l .retired s)).trans (creditsFall_setLane le_rfl)
    exact reconfigured.trans (creditsFall_of_touches (finish_touches _ _ _ _))

theorem actLaneRetire_creditsFall (r : RecId) (w : WorkRecord) (l : LaneId) (s : State) :
    creditsFall s (actLaneRetire r w l s) := by
  have refused (status : Nat) : creditsFall s (finishUnstated r status s) :=
    creditsFall_of_touches (finishUnstated_touches r status s)
  have retired : creditsFall s (retireLane l s) :=
    ((((creditsFall_of_touches (returnPage_touches l .retired s)).trans
      (creditsFall_of_touches (dropStraggler_touches l _))).trans
      (creditsFall_setLane (x := retiredLane ((dropStraggler l (returnPage l .retired s)).lane l)) (Nat.zero_le _))).trans
      (creditsFall_of_touches (retally_touches _ _ _))).trans (creditsFall_of_touches (touches_postRecord _ _ _))
  unfold actLaneRetire
  split
  · exact refused _
  split
  · exact refused _
  split
  · exact refused _
  · exact (retired.trans (creditsFall_of_touches (finishUnstated_touches _ _ _))).trans
      (creditsFall_of_touches (choose_touches _))

theorem actLaneHalt_creditsFall (r : RecId) (w : WorkRecord) (l : LaneId) (s : State) :
    creditsFall s (actLaneHalt r w l s) := by
  unfold actLaneHalt
  split
  · exact (creditsFall_setLane (x := { s.lane l with state := .halted, credit := 0 }) (Nat.zero_le _)).trans
      ((creditsFall_of_touches (touches_postRecord _ _ _)).trans (creditsFall_of_touches (finishUnstated_touches _ _ _)))
  · exact creditsFall_of_touches (finishUnstated_touches _ _ s)

/-! ### The switch-over -/

theorem switchCredit_le {m m' : AirMap} {l : LaneId} {credit : Nat} (le : credit ≤ creditCap m l) :
    switchCredit (m.entry? l) (m'.entry? l) credit ≤ creditCap m' l := by
  unfold creditCap at *
  cases old : m.entry? l <;> cases new : m'.entry? l
  · rw [old] at le
    exact le
  · exact Nat.zero_le _
  · exact le_rfl
  · exact min_le_right _ _

theorem switchOver_creditsFit {s : State} (h : CreditsFit s) : CreditsFit (switchOver s) := by
  by_cases due : ∃ p, s.maps.upcoming = some p ∧ p.announce = 0
  · obtain ⟨p, pending, zero⟩ := due
    intro l
    rw [switchOver_due pending zero]
    have lane := switchLanes_lane s.maps.active p.map s.lanes l
    calc ((switchLanes s.maps.active p.map s.lanes)[l]).credit
        = switchCredit (s.maps.active.entry? l) (p.map.entry? l) (s.lane l).credit := congrArg Lane.credit lane
      _ ≤ creditCap p.map l := switchCredit_le (h l)
  · rw [switchOver_waits fun p pending => Nat.pos_of_ne_zero fun zero => due ⟨p, pending, zero⟩]
    exact h

/-! ### Credits computed by pool sharing -/

theorem AirMap.Sound.distinct {m : AirMap} (h : m.Sound) : (m.entries.map MapEntry.lane).Nodup :=
  h.1.imp fun lt => ne_of_lt lt

theorem creditCap_of_mem {m : AirMap} (distinct : (m.entries.map MapEntry.lane).Nodup) {e : MapEntry} (h : e ∈ m.entries) :
    creditCap m e.lane = e.burst * 1024 := by
  have found : (m.entries.find? fun k => k.lane = e.lane).isSome = true := by
    rw [List.find?_isSome]
    exact ⟨e, h, by simp⟩
  obtain ⟨k, hk⟩ := Option.isSome_iff_exists.mp found
  have same : k.lane = e.lane := by simpa using List.find?_some hk
  obtain rfl := List.inj_on_of_nodup_map distinct (List.mem_of_find?_eq_some hk) h same
  rw [creditCap, AirMap.entry?, hk]

theorem accrue_credit_le (pool : Nat) {x : PoolLane} (le : x.credit ≤ x.burst * 1024) :
    (accrue pool x).credit ≤ x.burst * 1024 := by
  unfold accrue
  split
  · exact le
  split
  · exact Nat.zero_le _
  · exact min_le_right _ _

/-- Pool sharing gives no lane more credit than its ceiling. -/
theorem sharePool_credit_le {pool : Nat} {ls : List PoolLane} (le : ∀ x ∈ ls, x.credit ≤ x.burst * 1024) {y : PoolLane}
    (hy : y ∈ (sharePool pool ls).1) : ∃ x ∈ ls, y.lane = x.lane ∧ y.credit ≤ x.burst * 1024 := by
  obtain ⟨n, k, -, lanes⟩ := sharePool_lanes pool ls
  obtain ⟨i, hi⟩ := List.mem_iff_getElem?.mp hy
  rw [lanes] at hi
  obtain ⟨x, hx, rfl⟩ := Option.map_eq_some_iff.mp hi
  have mem := List.mem_of_getElem? hx
  exact ⟨x, mem, (accrue_terms pool x).1, (Nat.sub_le _ _).trans (accrue_credit_le pool (le x mem))⟩

theorem shareItems_affords {p : Plan} (c : Carriage) {s : State} (fit : CreditsFit s)
    (distinct : (s.maps.active.entries.map MapEntry.lane).Nodup) (lanes : p.lanes.map PlanLane.entry = s.maps.active.entries) :
    Affords s.maps.active p (shareItems p c s) := by
  refine ⟨lanes, fun lc hlc => ?_⟩
  have cap {pl : PlanLane} (hpl : pl ∈ p.lanes) : creditCap s.maps.active pl.entry.lane = pl.entry.burst * 1024 :=
    creditCap_of_mem distinct (lanes ▸ List.mem_map_of_mem hpl)
  obtain ⟨pl, hpl, z, hz, lane, rfl⟩ := mem_shareItems hlc
  have inputs : ∀ x ∈ rotating s.cursor (p.lanes.map (sharingInput p c s)),
      x.burst * 1024 = creditCap s.maps.active x.lane ∧ x.credit ≤ x.burst * 1024 := fun x hx => by
    obtain ⟨k, hk, rfl⟩ := List.mem_map.mp ((mem_rotating _ _ _).mp hx)
    exact ⟨(cap hk).symm, (fit k.entry.lane).trans_eq (cap hk)⟩
  obtain ⟨x, hx, same, le⟩ := sharePool_credit_le (fun x hx => (inputs x hx).2) hz
  calc z.credit ≤ x.burst * 1024 := le
    _ = creditCap s.maps.active x.lane := (inputs x hx).1
    _ = creditCap s.maps.active pl.entry.lane := by rw [← same, lane]

/-! ### An assembly begins and goes on -/

theorem goOnFetching_creditSound {p : Plan} {c : Carriage} {s : State} (fit : CreditsFit s)
    (distinct : (s.maps.active.entries.map MapEntry.lane).Nodup) (affords : Affords s.maps.active p c) :
    CreditSound (goOnFetching p c s) := by
  have fall : creditsFall s (goOnFetching p c s) := creditsFall_of_touches (goOnFetching_touches p c s)
  refine (creditSound_iff _).mpr ⟨fit.fall fall, fun p' c' held => ?_⟩
  rw [fall.1]
  by_cases none : c.toFetch = []
  · rw [goOnFetching_empty none] at held
    obtain ⟨c1, eq, shared, -⟩ := layItems_laid p c s
    rw [eq] at held
    cases held
    have reached : creditsFall s (p.lanes.foldl reachLane s) := creditsFall_of_touches (reachLanes_touches p.lanes s)
    rw [shared, ← reached.1]
    exact shareItems_affords c (fit.fall reached) (by rw [reached.1]; exact distinct) (by rw [reached.1]; exact affords.1)
  · rw [goOnFetching_more none] at held
    cases held
    exact affords

theorem beginAssembly_eq (s : State) : beginAssembly s =
    goOnFetching (capturePlan (switchOver s)) (startCarriage (capturePlan (switchOver s)) (switchOver s)) (switchOver s) := rfl

theorem beginAssembly_creditSound {s : State} (fit : CreditsFit s) (maps : MapsSound (beginAssembly s)) :
    CreditSound (beginAssembly s) := by
  have active : (beginAssembly s).maps.active = (switchOver s).maps.active :=
    (goOnFetching_touches _ _ (switchOver s)).same .active
  obtain ⟨-, -, -, -, -, lanes, -⟩ := capturePlan_captured (switchOver s)
  rw [beginAssembly_eq]
  exact goOnFetching_creditSound (switchOver_creditsFit fit) (active ▸ maps.1.distinct) ⟨lanes, nofun⟩

/-- What a picture read leaves in the carriage of its lane: the pieces of it, or a mark. -/
theorem answerRead_eq (s : State) (lc : LaneCarriage) : ∃ pieces stalled,
    answerRead s lc = { lc with pieces := pieces, stalled := stalled } ∧ (pieces = lc.pieces ∨
      ∃ base slot version b off, pieces = fillPieces s.store.contents base slot version lc.pictureCells lc.pictureCells b off) := by
  unfold answerRead
  split
  · exact ⟨lc.pieces, lc.stalled, rfl, .inl rfl⟩
  · split
    · exact ⟨lc.pieces, true, rfl, .inl rfl⟩
    · exact ⟨_, lc.stalled, rfl, .inr ⟨_, _, _, _, _, rfl⟩⟩

theorem answerLane_affords {m : AirMap} {p : Plan} {c : Carriage} (h : Affords m p c) (s : State) (l : LaneId) :
    Affords m p (answerLane s l c) := by
  obtain ⟨lanes, credits⟩ := h
  refine ⟨lanes, fun lc hlc => ?_⟩
  obtain ⟨lc0, mem, rfl⟩ := List.mem_map.mp hlc
  split
  · obtain ⟨pieces, stalled, answer, -⟩ := answerRead_eq s lc0
    rw [answer]
    exact credits lc0 mem
  · exact credits lc0 mem

/-! ### The commits of a send -/

theorem commitCredits_fit {cap : LaneId → Nat} : ∀ {cs : List LaneCarriage} (_ : ∀ lc ∈ cs, lc.credit ≤ cap lc.lane) {s : State}
    (_ : ∀ l, (s.lane l).credit ≤ cap l) (l : LaneId), ((cs.foldl commitCredit s).lane l).credit ≤ cap l
  | [], _, _, fit, l => fit l
  | lc :: cs, le, s, fit, l => by
    refine commitCredits_fit (fun k hk => le k (List.mem_cons_of_mem _ hk)) (fun k => ?_) l
    rw [commitCredit, State.lane_setLane]
    split
    next own =>
      subst own
      dsimp only
      split
      · exact Nat.zero_le _
      · exact le lc List.mem_cons_self
    next => exact fit k

theorem commitFrame_creditsFit {p : Plan} {c : Carriage} {s : State} (fit : CreditsFit s)
    (affords : Affords s.maps.active p c) : CreditsFit (commitFrame p c s) := by
  have filled : creditsFall s (c.lanes.foldl countFiller (c.fetched.foldl countAired s)) :=
    (creditsFall_of_touches (touches_foldl countAired_touches c.fetched s)).trans
      (creditsFall_of_touches (touches_foldl countFiller_touches c.lanes _))
  have active : (commitFrame p c s).maps.active = s.maps.active := (commitFrame_touches p c s).same .active
  have before := commitCredits_fit affords.2 (fun l => (filled.2 l).trans (fit l))
  have texts := commitTexts_touches c
    ((c.lanes.foldl commitCredit (c.lanes.foldl countFiller (c.fetched.foldl countAired s))).setCursor c.cursorNext)
  have pictures := touches_foldl commitPicture_touches c.lanes (committedBefore c s)
  have alerts := commitAlerts_touches p p.counter (commitCarriage c s)
  intro l
  rw [active]
  exact ((alerts.same .credit (by decide) l).trans
    ((pictures.same .credit (by decide) l).trans (texts.same .credit (by decide) l))).trans_le (before l)

/-! ### Every step -/

/-- A pull does nothing, sends a void frame, sends one and begins an assembly, or sends the finished frame. -/
theorem airPull_cases (begun : List LaneId) (s : State) : airPull begun s = s ∨ airPull begun s = sendVoid s ∨
    airPull begun s = beginAssembly (raiseNotice .void (dropAssembly begun (sendVoid s))) ∨
    ∃ p c frame, s.frames.assembler = .ready p c frame ∧ airPull begun s = beginAssembly
      (sendRest p c (alertCompletions p s) (commitFrame p c (sendStart p frame s))) := by
  unfold airPull
  split
  · unfold answerPull
    split
    · exact .inr (.inl rfl)
    · exact .inr (.inr (.inl rfl))
    next p c frame ready => exact .inr (.inr (.inr ⟨p, c, frame, ready, rfl⟩))
  · exact .inl rfl

theorem sendStart_touches (p : Plan) (frame : List Byte) (s : State) :
    touches [.airData, .counter, .upcoming] s (sendStart p frame s) := by
  have counted (t : State) (n : Word) : touches [.counter] t (t.setFrames { t.frames with counter := n }) :=
    touches_of_same (fun a ha => by cases a <;> first | rfl | exact fun _ => rfl | simp at ha) rfl
  exact ((setAirData_touches (.sending frame) s).trans (zs := [.airData, .counter, .upcoming]) (counted _ _)).trans
    (announceSent_touches _ _)

theorem airPull_creditSound {begun : List LaneId} {s : State} (h : CreditSound s) (maps : MapsSound (airPull begun s)) :
    CreditSound (airPull begun s) := by
  obtain ⟨fit, held⟩ := (creditSound_iff s).mp h
  obtain same | void | late | ⟨p, c, frame, ready, sent⟩ := airPull_cases begun s
  · rw [same]
    exact h
  · rw [void]
    exact h.fall (creditsFall_of_touches (sendVoid_touches s)) ((sendVoid_touches s).same .assembler)
  · rw [late] at maps ⊢
    exact beginAssembly_creditSound (fit.fall (((creditsFall_of_touches (sendVoid_touches s)).trans
      (creditsFall_of_touches (dropAssembly_touches begun _))).trans (creditsFall_of_touches (raiseNotice_touches _ _)))) maps
  · rw [sent] at maps ⊢
    have start := creditsFall_of_touches (sendStart_touches p frame s)
    have affords := held p c (by rw [ready]; rfl)
    exact beginAssembly_creditSound ((commitFrame_creditsFit (fit.fall start) (start.1.symm ▸ affords)).fall
      (creditsFall_of_touches (sendRest_touches p c _ _))) maps

/-- A write of RUNCTL begins an assembly after writes of its own block and of the Slip Reader's, or leaves the assembler as it
was or STOPPED. -/
theorem writeRunctl_cases (run : Bool) (ms : Byte) (begun : List LaneId) (s : State) :
    (∃ u, touches ([.run, .sweepMs] ++ runStartAspects) s u ∧ writeRunctl run ms begun s = beginAssembly u) ∨
    touches ([.run, .sweepMs] ++ runStartAspects ++ dropAspects) s (writeRunctl run ms begun s) ∧
      ((writeRunctl run ms begun s).frames.assembler = s.frames.assembler ∨
        (writeRunctl run ms begun s).frames.assembler = .stopped) := by
  have written := setRunctl_touches run ms s
  unfold writeRunctl
  dsimp only
  split
  · have retimed : touches [.timer] (s.setRegs { s.regs with run := run, sweepMs := ms })
        (retime s.regs.sweepMs (s.setRegs { s.regs with run := run, sweepMs := ms })) :=
      touches_ite (fun _ => setTimer_touches _ _) fun _ => touches_refl _ _
    exact .inr ⟨written.trans retimed, .inl (retimed.same .assembler)⟩
  split
  · exact .inl ⟨_, written.trans (zs := [.run, .sweepMs] ++ runStartAspects) (((firstRun_touches _).trans
      (zs := runStartAspects) (owedSweep_touches _)).trans (zs := runStartAspects) (setTimer_touches _ _)), rfl⟩
  · exact .inr ⟨written.trans (zs := [.run, .sweepMs] ++ runStartAspects ++ dropAspects) (runBecomesClear_touches begun _),
      .inr (by rw [runBecomesClear, dropAssembly_assembler])⟩

theorem writeRunctl_creditSound {run : Bool} {ms : Byte} {begun : List LaneId} {s : State} (h : CreditSound s)
    (maps : MapsSound (writeRunctl run ms begun s)) : CreditSound (writeRunctl run ms begun s) := by
  obtain ⟨u, touch, begins⟩ | ⟨touch, kept | stopped⟩ := writeRunctl_cases run ms begun s
  · rw [begins] at maps ⊢
    exact beginAssembly_creditSound (((creditSound_iff s).mp h).1.fall (creditsFall_of_touches touch)) maps
  · exact h.fall (creditsFall_of_touches touch) kept
  · refine (creditSound_iff _).mpr ⟨((creditSound_iff s).mp h).1.fall (creditsFall_of_touches touch), fun p c held => ?_⟩
    rw [stopped] at held
    cases held

theorem laneFetch_creditSound {l : LaneId} {view : HostView} {s : State} (h : CreditSound s) (maps : MapsSound s) :
    CreditSound (laneFetch l view s) := by
  obtain ⟨fit, held⟩ := (creditSound_iff s).mp h
  unfold laneFetch
  split
  next g _ => exact h.fall (creditsFall_of_touches (straggle_touches g view s)) ((straggle_touches g view s).same .assembler)
  split
  next p c building =>
    split
    · have affords := held p c (by rw [building]; rfl)
      unfold assemblyFetch
      dsimp only
      split
      · have fetched := creditsFall_of_touches (fetchUnit_touches l (candidateLimits p l) view s)
        exact goOnFetching_creditSound (fit.fall fetched) (by rw [fetched.1]; exact maps.1.distinct)
          (by rw [fetched.1]; exact affords)
      · exact goOnFetching_creditSound fit maps.1.distinct affords
    · exact h
  · exact h
  · exact h

theorem pictureDataRead_creditSound {l : LaneId} {s : State} (h : CreditSound s) : CreditSound (pictureDataRead l s) := by
  obtain ⟨fit, held⟩ := (creditSound_iff s).mp h
  unfold pictureDataRead
  split
  next p c building =>
    split
    · refine (creditSound_iff _).mpr ⟨fit, fun p' c' kept => ?_⟩
      cases kept
      exact answerLane_affords (held p c (by rw [building]; rfl)) s l
    · exact h
  · exact h
  · exact h

theorem assemblyComplete_creditSound {s : State} (h : CreditSound s) : CreditSound (assemblyComplete s) := by
  obtain ⟨fit, held⟩ := (creditSound_iff s).mp h
  unfold assemblyComplete
  split
  next p c building =>
    split
    · refine (creditSound_iff _).mpr ⟨fit, fun p' c' kept => ?_⟩
      cases kept
      exact held p c (by rw [building]; rfl)
    · exact h
  · exact h
  · exact h

theorem exec_creditSound (c : Instr) (s t : State) (maps : MapsSound s) (h : CreditSound s) (hs : exec c s = .next t) :
    CreditSound t := by
  have touch := touches_of_exec hs
  have after := exec_mapsSound c s t maps hs
  have reset (regs : Registers) : CreditSound (resetKeeping regs s) := by
    refine (creditSound_iff _).mpr ⟨fun l => ?_, nofun⟩
    rw [lane_resetKeeping]
    exact Nat.zero_le _
  have falls (fall : creditsFall s t) (away : Aspect.assembler ∉ touched c := by dsimp only [touched]; decide) : CreditSound t :=
    h.fall fall (touch.same .assembler away)
  cases c
  case powerOnReset => cases hs; exact reset _
  case softReset => cases hs; exact reset _
  case runSet => cases hs; exact writeRunctl_creditSound h after
  case runClear => cases hs; exact writeRunctl_creditSound h after
  case sweepMsWrite => cases hs; exact writeRunctl_creditSound h after
  case airPull => cases hs; exact airPull_creditSound h after
  case laneFetch => cases hs; exact laneFetch_creditSound h maps
  case pictureDataRead => cases hs; exact pictureDataRead_creditSound h
  case assemblyComplete => cases hs; exact assemblyComplete_creditSound h
  case laneSetup => exact falls (by cases hs; exact laneDispatch_creditsFall actLaneSetup_creditsFall s)
  case laneRetire => exact falls (by cases hs; exact laneDispatch_creditsFall actLaneRetire_creditsFall s)
  case laneHalt => exact falls (by cases hs; exact laneDispatch_creditsFall actLaneHalt_creditsFall s)
  all_goals exact falls (creditsFall_of_touches touch (by dsimp only [touched]; decide))

end Sys2Proof.Machine
end

/-! ## Proofs: held carriages kept fitting their plans (3.5, 4.3, 8.3) -/

section
namespace Sys2Proof.Machine

/-- What `FrameSound` says of the plan of a held frame, in a map. -/
def planFits (m : AirMap) (p : Plan) : Prop :=
  p.poolStart = m.poolStart ∧ p.poolSize = m.poolSize ∧ p.alerts.length ≤ 4 ∧
  ∀ pl ∈ p.lanes, ∀ id a l, pl.audio = .alert id → p.alert? id = some a → a.source = some l → a.width ≤ pl.entry.reserved

/-- A fetch outcome with a unit holds at most the data its length says. -/
def outcomeFits (o : FetchOutcome) : Prop := ∀ len data carried, o = .unit len data carried → data.length ≤ len

/-- The carriage fits the plan, as a whole and lane by lane. -/
def itemsFit (p : Plan) (c : Carriage) : Prop :=
  carriageFits p c ∧ c.lanes.map LaneCarriage.lane = p.lanes.map (fun pl => pl.entry.lane) ∧
  ∀ pl ∈ p.lanes, ∀ lc, c.lane? pl.entry.lane = some lc → laneFits pl.entry lc

/-- What `FrameSound` says of a plan and a carriage, but for a finished frame. -/
structure HeldFits (m : AirMap) (p : Plan) (c : Carriage) : Prop where
  plan    : planFits m p
  fetches : ∀ f ∈ c.fetched, outcomeFits f.outcome
  items   : c.stage = .items → itemsFit p c

theorem frameSound_iff (s : State) : FrameSound s ↔ ∀ p c, s.frames.assembler.held = some (p, c) →
    HeldFits s.maps.active p c ∧
    ∀ frame, s.frames.assembler = .ready p c frame → c.stage = .items ∧ c.toRead = [] ∧ frame = assembledFrame p c :=
  forall_congr' fun _ => forall_congr' fun _ => imp_congr_right fun _ =>
    ⟨fun ⟨start, size, few, wide, fetches, items, ready⟩ => ⟨⟨⟨start, size, few, wide⟩, fetches, items⟩, ready⟩,
      fun ⟨⟨⟨start, size, few, wide⟩, fetches, items⟩, ready⟩ => ⟨start, size, few, wide, fetches, items, ready⟩⟩

/-- An assembly that goes on is sound when its plan and carriage are. -/
theorem frameSound_assembling {s : State} {p : Plan} {c : Carriage} (assembling : s.frames.assembler = .assembling p c)
    (fits : HeldFits s.maps.active p c) : FrameSound s := by
  refine (frameSound_iff s).mpr fun p' c' held => ?_
  rw [assembling] at held ⊢
  cases held
  exact ⟨fits, nofun⟩

theorem FrameSound.held {s : State} (h : FrameSound s) {p : Plan} {c : Carriage}
    (assembling : s.frames.assembler = .assembling p c) : HeldFits s.maps.active p c :=
  ((frameSound_iff s).mp h p c (by rw [assembling]; rfl)).1

/-! ### Items in their cells -/

theorem length_fragmentCell (body : List Byte) (k : Nat) (toggle : Bool) : (fragmentCell body k toggle).length = 16 := by
  rw [fragmentCell, List.length_cons, List.length_cons, slice_length]

theorem textWant_length {p : Plan} {pl : PlanLane} {x : Lane} {f : Fragment} (h : textWant p pl x = some f) :
    f.bytes.length = 16 := by
  unfold textWant alertFragment ownFragment at h
  split at h
  · split at h
    · cases h
    · split at h
      · cases h
      · cases h
        exact length_fragmentCell _ _ _
  · split at h
    · cases h
    · split at h
      · cases h
      · split at h
        · cases h
          exact length_fragmentCell _ _ _
        · cases h

theorem fillPieces_cells_le (contents : List Host.Cell) (base : Nat) (slot : SlotId) (version : Byte) :
    ∀ n c b off, ((fillPieces contents base slot version n c b off).map Piece.cells).sum ≤ c
  | 0, _, _, _ => Nat.zero_le _
  | n + 1, c, b, off => by
    by_cases done : c = 0 ∨ b = 0
    · rw [fillPieces_of_done _ _ _ _ _ done]
      exact Nat.zero_le _
    · have more := fillPieces_cells_le contents base slot version n (c - pieceCells c b) (b - pieceBytes c b)
        (off + pieceBytes c b)
      have next := pieceCells_le_cells c b
      rw [fillPieces_succ _ _ _ _ n (by omega) (by omega), List.map_cons, List.sum_cons, nextPiece_cells]
      omega

theorem fillPieces_data_le {contents : List Host.Cell} {base : Nat} {slot : SlotId} {version : Byte} {n c b off : Nat} {q : Piece}
    (h : q ∈ fillPieces contents base slot version n c b off) : q.data.length + 8 ≤ 16 * q.cells := by
  obtain ⟨c', b', off', hc, -, rfl⟩ := mem_fillPieces _ _ _ _ h
  have pos := pieceCells_pos hc b'
  rw [nextPiece_data_length, nextPiece_cells, pieceBytes]
  omega

theorem length_pieceCellsBytes {q : Piece} (fits : q.data.length + 8 ≤ 16 * q.cells) :
    (pieceCellsBytes q).length = 16 * q.cells := by
  refine length_padTo ?_
  simp only [List.length_append, List.length_cons, List.length_nil, length_beBytes]
  omega

theorem length_piecesBytes : ∀ {qs : List Piece} (_ : ∀ q ∈ qs, q.data.length + 8 ≤ 16 * q.cells),
    (qs.flatMap pieceCellsBytes).length = 16 * (qs.map Piece.cells).sum
  | [], _ => rfl
  | q :: qs, fit => by
    have rest := length_piecesBytes fun k hk => fit k (List.mem_cons_of_mem _ hk)
    rw [List.flatMap_cons, List.length_append, rest, length_pieceCellsBytes (fit q List.mem_cons_self), List.map_cons,
      List.sum_cons, Nat.mul_add]

/-- A lane that keeps within its lane of the plan has items that fit its cells. -/
theorem laneFits.fitsCells {e : MapEntry} {lc : LaneCarriage} (h : laneFits e lc) : FitsCells e lc := by
  obtain ⟨audio, fragment, cells, pieces, fit⟩ := h
  have laid : (itemBytes lc).length = 16 * (lc.fragment.isSome.toNat + (lc.pieces.map Piece.cells).sum) := by
    rw [itemBytes, List.length_append, length_piecesBytes fit]
    cases f : lc.fragment with
    | none => simp
    | some x => simp [fragment x f, Nat.mul_add]
  refine ⟨audio, ?_⟩
  rw [laid]
  unfold spareCells at cells
  omega

theorem lane?_some {p : Plan} {c : Carriage} (ids : c.lanes.map LaneCarriage.lane = p.lanes.map fun pl => pl.entry.lane)
    {pl : PlanLane} (h : pl ∈ p.lanes) : ∃ lc ∈ c.lanes, c.lane? pl.entry.lane = some lc ∧ lc.lane = pl.entry.lane := by
  have mem : pl.entry.lane ∈ c.lanes.map LaneCarriage.lane := ids ▸ List.mem_map_of_mem (f := fun k : PlanLane => k.entry.lane) h
  obtain ⟨k, hk, lane⟩ := List.mem_map.mp mem
  have found : (c.lanes.find? fun x => x.lane = pl.entry.lane).isSome = true := by
    rw [List.find?_isSome]
    exact ⟨k, hk, by simpa using lane⟩
  obtain ⟨lc, hlc⟩ := Option.isSome_iff_exists.mp found
  exact ⟨lc, List.mem_of_find?_eq_some hlc, hlc, by simpa using List.find?_some hlc⟩

/-- A carriage fits its plan when its lanes do and the cells granted are within the payload. -/
theorem itemsFit_of_lanes {p : Plan} {c : Carriage}
    (ids : c.lanes.map LaneCarriage.lane = p.lanes.map fun pl => pl.entry.lane)
    (lanes : ∀ pl ∈ p.lanes, ∀ lc, c.lane? pl.entry.lane = some lc → laneFits pl.entry lc)
    (cells : (p.lanes.map fun pl => pl.entry.reserved + grantAt c pl).sum ≤ 1191) (few : p.alerts.length ≤ 4) :
    itemsFit p c := by
  refine ⟨⟨fun pl hpl => ?_, cells, few⟩, ids, lanes⟩
  obtain ⟨lc, -, carried, -⟩ := lane?_some ids hpl
  obtain ⟨audio, items⟩ := (lanes pl hpl lc carried).fitsCells
  exact ⟨lc, carried, audio, items⟩

/-- The cells granted to the lanes of a plan are those of its carriage. -/
theorem grantAt_lanes {p : Plan} {c : Carriage} (ids : c.lanes.map LaneCarriage.lane = p.lanes.map fun pl => pl.entry.lane)
    (distinct : (p.lanes.map fun pl => pl.entry.lane).Nodup) :
    p.lanes.map (grantAt c) = c.lanes.map LaneCarriage.grant := by
  let grant (l : LaneId) : Nat := ((c.lane? l).map LaneCarriage.grant).getD 0
  have byLane : grantAt c = grant ∘ fun pl : PlanLane => pl.entry.lane := by
    funext pl
    simp only [grantAt, grant, Function.comp_apply]
    cases c.lane? pl.entry.lane <;> rfl
  rw [byLane, ← List.map_map, ← ids, List.map_map]
  refine List.map_congr_left fun lc hlc => ?_
  have found : (c.lanes.find? fun x => x.lane = lc.lane).isSome = true := by
    rw [List.find?_isSome]
    exact ⟨lc, hlc, by simp⟩
  obtain ⟨k, hk⟩ := Option.isSome_iff_exists.mp found
  have same : k.lane = lc.lane := by simpa using List.find?_some hk
  obtain rfl := List.inj_on_of_nodup_map (ids ▸ distinct) (List.mem_of_find?_eq_some hk) hlc same
  simp only [grant, Function.comp_apply, Carriage.lane?, hk, Option.map_some, Option.getD_some]

/-! ### Audio in its region -/

theorem unitCells_mono {m n : Nat} (h : m ≤ n) : unitCells m ≤ unitCells n := by
  unfold unitCells ceilDiv
  omega

theorem mem_fetchOf {c : Carriage} {l : LaneId} {o : FetchOutcome} (h : c.fetchOf l = some o) : ∃ f ∈ c.fetched, f.outcome = o := by
  unfold Carriage.fetchOf at h
  split at h
  next f found =>
    cases h
    exact ⟨f, List.mem_of_find?_eq_some found, rfl⟩
  · cases h

theorem regionOutcome_cells {c : Carriage} (fetches : ∀ f ∈ c.fetched, outcomeFits f.outcome) {l : LaneId} {limit reserved : Nat}
    {tooBig : Filler} {noUnit : FetchOutcome → Filler} (pos : 0 < reserved) (within : limit ≤ reserved) :
    (regionOutcome c l limit tooBig noUnit).cells ≤ reserved := by
  unfold regionOutcome
  split
  · exact pos
  · exact pos
  next len data carried fetched =>
    split
    next fits =>
      obtain ⟨f, hf, outcome⟩ := mem_fetchOf fetched
      calc unitCells data.length ≤ unitCells len := unitCells_mono (fetches f hf len data carried outcome)
        _ ≤ limit := fits
        _ ≤ reserved := within
    · exact pos

theorem audioOutcome_cells {m : AirMap} {p : Plan} {c : Carriage} (plan : planFits m p)
    (fetches : ∀ f ∈ c.fetched, outcomeFits f.outcome) {pl : PlanLane} (h : pl ∈ p.lanes) :
    (audioOutcome p c pl).cells ≤ pl.entry.reserved := by
  obtain ⟨-, -, -, wide⟩ := plan
  unfold audioOutcome
  split
  · exact Nat.zero_le _
  next some_reserved =>
    have pos : 0 < pl.entry.reserved := Nat.pos_of_ne_zero some_reserved
    split
    · split
      · exact pos
      · exact regionOutcome_cells fetches pos le_rfl
    next id audio =>
      split
      · exact pos
      next a known =>
        split
        · exact pos
        next l source => exact regionOutcome_cells fetches pos (wide pl h id a l audio known source)

/-! ### Side items laid -/

theorem layLane_fits {m : AirMap} {p : Plan} {c : Carriage} (plan : planFits m p)
    (fetches : ∀ f ∈ c.fetched, outcomeFits f.outcome) (s : State) {pl : PlanLane} (h : pl ∈ p.lanes) (z : PoolLane) :
    laneFits pl.entry (layLane (laneWants p c s pl) z) := by
  refine ⟨audioOutcome_cells plan fetches h, fun f hf => ?_, ?_, Nat.zero_le _, nofun⟩
  · simp only [layLane] at hf
    split at hf
    · cases hf
    · exact textWant_length hf
  · show (if spareCells pl.entry (audioOutcome p c pl) + z.grant = 0 then none else textWant p pl (s.lane pl.entry.lane)).isSome.toNat +
      (spareCells pl.entry (audioOutcome p c pl) + z.grant - (textWant p pl (s.lane pl.entry.lane)).isSome.toNat) ≤
      spareCells pl.entry (audioOutcome p c pl) + z.grant
    have one := Bool.toNat_le (textWant p pl (s.lane pl.entry.lane)).isSome
    split
    · simp only [Option.isSome_none, Bool.toNat_false]
      omega
    · omega

theorem shareItems_itemsFit {m : AirMap} {p : Plan} {c : Carriage} (sound : m.Sound) (plan : planFits m p)
    (lanes : p.lanes.map PlanLane.entry = m.entries) (fetches : ∀ f ∈ c.fetched, outcomeFits f.outcome) (s : State) :
    itemsFit p (shareItems p c s) := by
  have ids := shareItems_laneIds p c s
  have entries (f : MapEntry → Nat) : p.lanes.map (fun pl => f pl.entry) = m.entries.map f := by
    rw [← lanes, List.map_map]
    rfl
  have laneIds : p.lanes.map (fun pl => pl.entry.lane) = m.entries.map MapEntry.lane := by
    rw [← lanes, List.map_map]
    rfl
  have distinct : (p.lanes.map fun pl => pl.entry.lane).Nodup := laneIds ▸ sound.distinct
  refine itemsFit_of_lanes ids (fun pl hpl lc carried => ?_) ?_ plan.2.2.1
  · obtain ⟨k, hk, z, -, -, rfl⟩ := mem_shareItems (List.mem_of_find?_eq_some carried)
    have same : k.entry.lane = pl.entry.lane := by
      have := List.find?_some carried
      rw [decide_eq_true_eq] at this
      exact this
    obtain rfl := List.inj_on_of_nodup_map distinct hk hpl same
    exact layLane_fits plan fetches s hk z
  · obtain ⟨-, reserved, -, -, -, size, -⟩ := sound
    have grants := shareItems_fit distinct c s
    have sums : (p.lanes.map fun pl => pl.entry.reserved + grantAt (shareItems p c s) pl).sum =
        (m.entries.map MapEntry.reserved).sum + ((shareItems p c s).lanes.map LaneCarriage.grant).sum := by
      rw [← grantAt_lanes ids distinct, ← entries MapEntry.reserved]
      exact List.sum_map_add
    rw [plan.2.1, size] at grants
    omega

theorem goOnFetching_frameSound {p : Plan} {c : Carriage} {s : State} (sound : s.maps.active.Sound)
    (plan : planFits s.maps.active p) (lanes : p.lanes.map PlanLane.entry = s.maps.active.entries)
    (fetches : ∀ f ∈ c.fetched, outcomeFits f.outcome) (stage : c.stage = .fetching) : FrameSound (goOnFetching p c s) := by
  have active : (goOnFetching p c s).maps.active = s.maps.active := (goOnFetching_touches p c s).same .active
  by_cases none : c.toFetch = []
  · obtain ⟨c', eq, shared, fetched, -⟩ := layItems_laid p c s
    rw [← goOnFetching_empty none] at eq
    refine frameSound_assembling (p := p) (c := c') (by rw [eq]; rfl) ?_
    rw [active, shared]
    exact ⟨plan, fetches, fun _ => shareItems_itemsFit sound plan lanes fetches _⟩
  · refine frameSound_assembling (p := p) (c := c) (by rw [goOnFetching_more none]; rfl) ?_
    rw [active]
    exact ⟨plan, fetches, fun items => by rw [stage] at items; cases items⟩

end Sys2Proof.Machine
end

/-! ## Proofs: every step keeps held frames fitting (3.4, 3.5, 8.3) -/

section
namespace Sys2Proof.Machine

/-! ### The data of a fetch -/

theorem hostRead_length {h : HostView} {a : Addr} {n : Nat} {bs : List Byte} (read : hostRead h a n = some bs) : bs.length = n := by
  unfold hostRead hostGather at read
  split at read
  · cases read
  · cases read
    simp [hostRange]

theorem outcomeFits_nothing (cause : Filler) : outcomeFits (.nothing cause) := nofun

theorem offerUnit_fits (l : LaneId) (limits : List Nat) (data : Addr) (len : Nat) (h : HostView) (s : State) :
    outcomeFits (offerUnit l limits data len h s).2 := by
  have unread (t : State) : outcomeFits (advance l len t, FetchOutcome.unit len [] false).2 := fun n data carried e => by
    cases e
    exact Nat.zero_le _
  rw [offerUnit_eq]
  split
  · split
    · exact outcomeFits_nothing _
    next bytes read =>
      intro n data carried e
      cases e
      exact (hostRead_length read).le
  · exact unread _

theorem readUnit_fits (l : LaneId) (held : Letter) (limits : List Nat) (h : HostView) (s : State) :
    outcomeFits (readUnit l held limits h s).2 := by
  unfold readUnit
  dsimp only
  split
  · exact outcomeFits_nothing _
  split
  · exact outcomeFits_nothing _
  split
  · exact outcomeFits_nothing _
  split
  · exact outcomeFits_nothing _
  · exact offerUnit_fits _ _ _ _ _ _

theorem fetchUnit_fits (l : LaneId) (limits : List Nat) (h : HostView) (s : State) : outcomeFits (fetchUnit l limits h s).2 := by
  unfold fetchUnit
  split
  · exact readUnit_fits _ _ _ _ _
  · unfold takePage
    dsimp only
    split
    · exact outcomeFits_nothing _
    split
    · split
      · exact outcomeFits_nothing _
      · exact readUnit_fits _ _ _ _ _
    · exact outcomeFits_nothing _

/-! ### A plan captured -/

theorem mem_of_logSource {l : LaneId} {f : Field} {id : Byte} : ∀ {log : List LogEntry}, logSource log l f = .alert id →
    ∃ e ∈ log, e.alert = id ∧ e.lane = l ∧ e.field = f
  | e :: es, h => by
    rw [logSource_cons] at h
    split at h
    · split at h
      next here =>
        cases h
        exact ⟨e, List.mem_cons_self, rfl, here⟩
      · cases h
    · obtain ⟨x, hx, found⟩ := mem_of_logSource h
      exact ⟨x, List.mem_cons_of_mem _ hx, found⟩

/-- A source field that holds an alert is that of an active alert which takes the field of the lane. -/
theorem LogSound.holder {s : State} (h : LogSound s) {l : LaneId} {f : Field} {id : Byte} (source : (s.lane l).sourceOf f = .alert id) :
    ∃ a ∈ activeAlerts s, a.id = id ∧ l ∈ a.targets ∧ f ∈ a.take.fields := by
  obtain ⟨-, -, holds, -, -, sources, -⟩ := h
  rw [sources] at source
  obtain ⟨e, he, alert, lane, field⟩ := mem_of_logSource source
  obtain ⟨a, ha, same, -, target, taken⟩ := holds e he
  exact ⟨a, ha, same.trans alert, lane ▸ target, field ▸ taken⟩

theorem alertsById_length_le {s : State} (ids : ((activeAlerts s).map Alert.id).Nodup) : (alertsById s).length ≤ 4 := by
  have distinct : (alertsById s).Nodup := by
    rw [alertsById, List.nodup_flatMap]
    refine ⟨fun n _ => (List.Nodup.of_map _ ids).filter _, List.nodup_range.imp fun {m n} ne => ?_⟩
    intro x hx hy
    rw [List.mem_filter, decide_eq_true_iff] at hx hy
    exact ne (hx.2.symm.trans hy.2)
  have among : alertsById s ⊆ activeAlerts s := fun a ha => (mem_alertsById s a).mp ha
  have places : (activeAlerts s).length ≤ 4 := by
    rw [activeAlerts_eq]
    exact (List.length_filterMap_le _ _).trans_eq (List.length_finRange)
  exact ((List.subperm_of_subset distinct among).length_le).trans places

theorem entry?_of_mem {m : AirMap} (distinct : (m.entries.map MapEntry.lane).Nodup) {e : MapEntry} (h : e ∈ m.entries) :
    m.entry? e.lane = some e := by
  have found : (m.entries.find? fun k => k.lane = e.lane).isSome = true := by
    rw [List.find?_isSome]
    exact ⟨e, h, by simp⟩
  obtain ⟨k, hk⟩ := Option.isSome_iff_exists.mp found
  have same : k.lane = e.lane := by simpa using List.find?_some hk
  obtain rfl := List.inj_on_of_nodup_map distinct (List.mem_of_find?_eq_some hk) h same
  exact hk

theorem capturePlan_fits {s : State} (maps : MapsFit s) (log : LogSound s) : planFits s.maps.active (capturePlan s) := by
  have ids : ((activeAlerts s).map Alert.id).Nodup := log.2.2.2.1
  refine ⟨rfl, rfl, (List.length_filter_le _ _).trans (alertsById_length_le ids), fun pl hpl id a l audio known source => ?_⟩
  obtain ⟨e, he, rfl⟩ := List.mem_map.mp hpl
  obtain ⟨b, hb, same, target, taken⟩ := log.holder (f := .audio) audio
  have mem : a ∈ activeAlerts s := (mem_alertsById s a).mp (List.mem_filter.mp (List.mem_of_find?_eq_some known)).1
  have found : a.id = id := by simpa using List.find?_some known
  obtain rfl : a = b := List.inj_on_of_nodup_map ids mem hb (found.trans same.symm)
  obtain ⟨x, entry, wide⟩ := (maps.2.2 a mem).1 e.lane target
  rw [entry?_of_mem maps.1.distinct he] at entry
  cases entry
  refine wide ?_
  simpa [TakeSet.fields] using taken

theorem beginAssembly_frameSound {s : State} (maps : MapsSound (beginAssembly s)) (log : LogSound (beginAssembly s)) :
    FrameSound (beginAssembly s) := by
  have touch := goOnFetching_touches (capturePlan (switchOver s)) (startCarriage (capturePlan (switchOver s)) (switchOver s))
    (switchOver s)
  have active : (beginAssembly s).maps.active = (switchOver s).maps.active := touch.same .active
  obtain ⟨-, -, -, -, -, lanes, -⟩ := capturePlan_captured (switchOver s)
  have alerts : (beginAssembly s).alerts = (switchOver s).alerts :=
    touch.changesOnly (ps := [.frames, .lanes, .store, .posted]) (by decide) .alerts (by decide)
  have same : (beginAssembly s).maps = (switchOver s).maps :=
    touch.changesOnly (ps := [.frames, .lanes, .store, .posted]) (by decide) .maps (by decide)
  have maps' : MapsFit (switchOver s) := by
    have fit := ((mapsSound_iff _).mp maps).1
    unfold MapsFit activeAlerts at fit ⊢
    rw [alerts, same] at fit
    exact fit
  have log' : LogSound (switchOver s) := by
    have sources := sourceOf_of_touches touch (by decide)
    unfold LogSound holdsField activeAlerts at log ⊢
    rw [beginAssembly_eq] at log alerts
    simp only [sources] at log
    rw [alerts] at log
    exact log
  rw [beginAssembly_eq]
  exact goOnFetching_frameSound maps'.1 (capturePlan_fits maps' log') lanes nofun rfl

/-! ### Picture reads -/

theorem answerRead_fits {e : MapEntry} {lc : LaneCarriage} (h : laneFits e lc) (s : State) : laneFits e (answerRead s lc) := by
  obtain ⟨audio, fragment, cells, pieces, fit⟩ := h
  obtain ⟨qs, stalled, answer, rfl | ⟨base, slot, version, b, off, rfl⟩⟩ := answerRead_eq s lc
  · rw [answer]
    exact ⟨audio, fragment, cells, pieces, fit⟩
  · rw [answer]
    exact ⟨audio, fragment, cells, fillPieces_cells_le _ _ _ _ _ _ _ _, fun q hq => fillPieces_data_le hq⟩

/-- The carriage of a lane after a picture read for lane `l` is answered. -/
def answered (s : State) (l : LaneId) (lc : LaneCarriage) : LaneCarriage := if lc.lane = l then answerRead s lc else lc

theorem answered_kept (s : State) (l : LaneId) (lc : LaneCarriage) :
    (answered s l lc).lane = lc.lane ∧ (answered s l lc).grant = lc.grant := by
  unfold answered
  split
  · obtain ⟨qs, stalled, answer, -⟩ := answerRead_eq s lc
    rw [answer]
    exact ⟨rfl, rfl⟩
  · exact ⟨rfl, rfl⟩

theorem answerLane_lane? (s : State) (l : LaneId) (c : Carriage) (k : LaneId) :
    (answerLane s l c).lane? k = (c.lane? k).map (answered s l) := by
  have lanes : (answerLane s l c).lanes = c.lanes.map (answered s l) := rfl
  have same : (fun x : LaneCarriage => decide (x.lane = k)) ∘ answered s l = fun x => decide (x.lane = k) := by
    funext lc
    simp only [Function.comp_apply, answered_kept]
  rw [Carriage.lane?, lanes, List.find?_map, same]
  rfl

theorem answerLane_fits {m : AirMap} {p : Plan} {c : Carriage} (h : HeldFits m p c) (s : State) (l : LaneId) :
    HeldFits m p (answerLane s l c) := by
  obtain ⟨plan, fetches, items⟩ := h
  refine ⟨plan, fetches, fun stage => ?_⟩
  obtain ⟨⟨-, cells, few⟩, ids, lanes⟩ := items stage
  have ids' : (answerLane s l c).lanes.map LaneCarriage.lane = p.lanes.map fun pl => pl.entry.lane := by
    rw [← ids, show (answerLane s l c).lanes = c.lanes.map (answered s l) from rfl, List.map_map]
    exact List.map_congr_left fun lc _ => (answered_kept s l lc).1
  have grants : grantAt (answerLane s l c) = grantAt c := by
    funext pl
    unfold grantAt
    rw [answerLane_lane?]
    cases c.lane? pl.entry.lane with
    | none => rfl
    | some lc => exact (answered_kept s l lc).2
  refine itemsFit_of_lanes ids' (fun pl hpl lc carried => ?_) (grants ▸ cells) few
  rw [answerLane_lane?] at carried
  obtain ⟨lc0, found, rfl⟩ := Option.map_eq_some_iff.mp carried
  have fit := lanes pl hpl lc0 found
  unfold answered
  split
  · exact answerRead_fits fit s
  · exact fit

/-! ### Every step -/

theorem FrameSound.kept {s t : State} (h : FrameSound s) (active : t.maps.active = s.maps.active)
    (assembler : t.frames.assembler = s.frames.assembler) : FrameSound t := by
  unfold FrameSound at *
  rw [active, assembler]
  exact h

theorem FrameSound.of_touches {xs : List Aspect} {s t : State} (h : FrameSound s) (touch : touches xs s t)
    (away : ∀ a ∈ [Aspect.active, .assembler], a ∉ xs := by decide) : FrameSound t :=
  h.kept (touch.same .active (away _ (by decide))) (touch.same .assembler (away _ (by decide)))

theorem frameSound_stopped {s : State} (stopped : s.frames.assembler = .stopped) : FrameSound s :=
  (frameSound_iff s).mpr fun p c held => by
    rw [stopped] at held
    cases held

theorem airPull_frameSound {begun : List LaneId} {s : State} (h : FrameSound s) (maps : MapsSound (airPull begun s))
    (log : LogSound (airPull begun s)) : FrameSound (airPull begun s) := by
  obtain same | void | late | ⟨p, c, frame, -, sent⟩ := airPull_cases begun s
  · rw [same]
    exact h
  · rw [void]
    exact h.of_touches (sendVoid_touches s)
  · rw [late] at maps log ⊢
    exact beginAssembly_frameSound maps log
  · rw [sent] at maps log ⊢
    exact beginAssembly_frameSound maps log

theorem writeRunctl_frameSound {run : Bool} {ms : Byte} {begun : List LaneId} {s : State} (h : FrameSound s)
    (maps : MapsSound (writeRunctl run ms begun s)) (log : LogSound (writeRunctl run ms begun s)) :
    FrameSound (writeRunctl run ms begun s) := by
  obtain ⟨u, -, begins⟩ | ⟨touch, kept | stopped⟩ := writeRunctl_cases run ms begun s
  · rw [begins] at maps log ⊢
    exact beginAssembly_frameSound maps log
  · exact h.kept (touch.same .active) kept
  · exact frameSound_stopped stopped

theorem laneFetch_frameSound {l : LaneId} {view : HostView} {s : State} (h : FrameSound s) (maps : MapsSound s)
    (credit : CreditSound s) : FrameSound (laneFetch l view s) := by
  unfold laneFetch
  split
  · exact h.of_touches (straggle_touches _ view s)
  split
  next p c building =>
    split
    next under =>
      obtain ⟨plan, fetches, -⟩ := h.held building
      obtain ⟨lanes, -⟩ := credit.2 p c (by rw [building]; rfl)
      unfold assemblyFetch
      dsimp only
      split
      · have active : (fetchUnit l (candidateLimits p l) view s).1.maps.active = s.maps.active :=
          (fetchUnit_touches l (candidateLimits p l) view s).same .active
        refine goOnFetching_frameSound (by rw [active]; exact maps.1) (by rw [active]; exact plan)
          (by rw [active]; exact lanes) (fun f hf => ?_) under.1
        obtain before | last := List.mem_append.mp hf
        · exact fetches f before
        · rw [List.mem_singleton.mp last]
          exact fetchUnit_fits _ _ _ _
      · exact goOnFetching_frameSound maps.1 plan lanes fetches under.1
    · exact h
  · exact h
  · exact h

theorem pictureDataRead_frameSound {l : LaneId} {s : State} (h : FrameSound s) : FrameSound (pictureDataRead l s) := by
  unfold pictureDataRead
  split
  next p c building =>
    split
    · exact frameSound_assembling rfl (answerLane_fits (h.held building) s l)
    · exact h
  · exact h
  · exact h

theorem assemblyComplete_frameSound {s : State} (h : FrameSound s) : FrameSound (assemblyComplete s) := by
  unfold assemblyComplete
  split
  next p c building =>
    split
    next ends =>
      refine (frameSound_iff _).mpr fun p' c' held => ?_
      cases held
      refine ⟨h.held building, fun frame ready => ?_⟩
      cases ready
      exact ⟨ends.1, List.isEmpty_iff.mp ends.2, rfl⟩
    · exact h
  · exact h
  · exact h

theorem exec_frameSound (c : Instr) (s t : State) (maps : MapsSound s) (log : LogSound s) (credit : CreditSound s)
    (h : FrameSound s) (hs : exec c s = .next t) : FrameSound t := by
  have touch := touches_of_exec hs
  have maps' := exec_mapsSound c s t maps hs
  have log' := exec_logSound c s t log hs
  cases c
  case powerOnReset => cases hs; exact frameSound_stopped rfl
  case softReset => cases hs; exact frameSound_stopped rfl
  case runSet => cases hs; exact writeRunctl_frameSound h maps' log'
  case runClear => cases hs; exact writeRunctl_frameSound h maps' log'
  case sweepMsWrite => cases hs; exact writeRunctl_frameSound h maps' log'
  case airPull => cases hs; exact airPull_frameSound h maps' log'
  case laneFetch => cases hs; exact laneFetch_frameSound h maps credit
  case pictureDataRead => cases hs; exact pictureDataRead_frameSound h
  case assemblyComplete => cases hs; exact assemblyComplete_frameSound h
  all_goals exact h.of_touches touch (by dsimp only [touched]; decide)

/-- Settles O58. -/
theorem everyStepKeepsCreditsWithinTheCeiling : Obligations.EveryStepKeepsCreditsWithinTheCeiling := by
  refine ⟨fun s t maps credit hs => ?_, fun s t maps log credit frame hs => ?_⟩
  · exact (step_keeps (P := fun u => MapsSound u ∧ CreditSound u) (fun _ _ h => h)
      (fun c u v ⟨maps, credit⟩ hv => ⟨exec_mapsSound c u v maps hv, exec_creditSound c u v maps credit hv⟩)
      ⟨maps, credit⟩ hs).2
  · exact (step_keeps (P := fun u => (MapsSound u ∧ LogSound u ∧ CreditSound u) ∧ FrameSound u) (fun _ _ h => h)
      (fun c u v ⟨⟨maps, log, credit⟩, frame⟩ hv => ⟨⟨exec_mapsSound c u v maps hv, exec_logSound c u v log hv,
        exec_creditSound c u v maps credit hv⟩, exec_frameSound c u v maps log credit frame hv⟩)
      ⟨⟨maps, log, credit⟩, frame⟩ hs).2

end Sys2Proof.Machine
end

/-! ## Proofs: the store's bytes kept canonical, and the work records that the blocks hold (6.1, 9.4)

The blocks pass work records on: a dispatch takes one off a queue, and what follows completes its slip or leaves it with a block.
`RecordsWith xs s` is what `RecordsSound` says while the records `xs` are on their way. -/

section
namespace Sys2Proof.Machine

/-! ### The store's bytes -/

theorem blockEraseEnd_storeSound {s : State} (h : StoreSound s) : StoreSound (blockEraseEnd s) := by
  have erased (b : Nat) : storeWf (storeErase s.store.contents b) = true := storeWf_storeErase _ _ h
  unfold StoreSound blockEraseEnd
  split
  · dsimp only
    split
    · split
      next j _ => rw [(afterJobErase_touches j _).same .contents]; exact erased _
      · exact erased _
    · split
      next e _ => rw [(afterRecoveryErase_touches e _).same .contents]; exact erased _
      · exact erased _
  · exact h

theorem pageProgramEnd_storeSound {s : State} (h : StoreSound s) : StoreSound (pageProgramEnd s) := by
  have programmed (a : Nat) (bs : List Byte) : storeWf (storeProgram s.store.contents a bs) = true :=
    storeWf_storeProgram _ _ _ h
  unfold StoreSound pageProgramEnd
  split
  · dsimp only
    split
    next j _ => rw [(afterProgram_touches j _).same .contents]; exact programmed _ _
    · exact programmed _ _
  · exact h

theorem exec_storeSound (c : Instr) (s t : State) (h : StoreSound s) (hs : exec c s = .next t) : StoreSound t := by
  have touch := touches_of_exec hs
  have kept (away : Aspect.contents ∉ touched c) : StoreSound t := by
    unfold StoreSound
    rw [touch.same .contents away]
    exact h
  cases c
  case powerOnReset => cases hs; exact storeWf_contentsAfterReset s h
  case softReset => cases hs; exact storeWf_contentsAfterReset s h
  case blockEraseEnd => cases hs; exact blockEraseEnd_storeSound h
  case pageProgramEnd => cases hs; exact pageProgramEnd_storeSound h
  all_goals exact kept (by dsimp only [touched]; decide)

/-! ### Records held, and records on their way -/

/-- What `RecordsSound` says but for visits, while the records of a list are on their way from one block to another. -/
structure RecordsHeld (xs : List RecId) (s : State) : Prop where
  once    : ∀ r, (xs ++ heldRecords s).count r ≤ 1
  used    : ∀ r ∈ xs ++ heldRecords s, s.work r ≠ none
  written : (writingRecords s).Nodup
  ended   : ∀ r ∈ writingRecords s, ∃ j ∈ s.store.jobs, j.record = r ∧ j.state = .ended
  running : ∀ r op, s.store.running = some ⟨.job r, op⟩ → r ∉ writingRecords s

theorem RecordsHeld.nodup {xs : List RecId} {s : State} (h : RecordsHeld xs s) : (xs ++ heldRecords s).Nodup :=
  List.nodup_iff_count_le_one.mpr h.once

/-- The aspects of the state that the records held are read from, but for the jobs. -/
def heldAspects : List Aspect := [.laneSlips, .mapLoads, .mapChecking, .upcoming, .switched, .textQueue, .putting,
  .carouselQueue, .storeQueue, .alertQueue, .raiseChecking, .places]

/-- Where the records held stand, but for those of the jobs. -/
theorem heldRecords_split (s : State) : ∃ before after, heldRecords s = before ++ s.store.jobs.map Job.record ++ after ∧
    ∀ {xs : List Aspect} {t : State}, touches xs s t → (∀ a ∈ heldAspects, a ∉ xs) →
      heldRecords t = before ++ t.store.jobs.map Job.record ++ after := by
  refine ⟨s.maps.laneSlips ++ s.maps.mapLoads ++ s.maps.checking.toList ++ (s.maps.upcoming.map PendingMap.record).toList ++
    s.maps.switched.toList ++ s.text.queue ++ s.text.putting.toList ++ s.carousels ++ s.store.queue,
    s.alerts.queue ++ s.alerts.checking.toList ++ (activeAlerts s).filterMap Alert.waiting, ?_, fun {xs t} touch away => ?_⟩
  · simp only [heldRecords, List.append_assoc]
  · have maps : t.maps.laneSlips = s.maps.laneSlips ∧ t.maps.mapLoads = s.maps.mapLoads ∧ t.maps.checking = s.maps.checking ∧
        t.maps.upcoming = s.maps.upcoming ∧ t.maps.switched = s.maps.switched :=
      ⟨touch.same .laneSlips (away _ (by decide)), touch.same .mapLoads (away _ (by decide)),
        touch.same .mapChecking (away _ (by decide)), touch.same .upcoming (away _ (by decide)),
        touch.same .switched (away _ (by decide))⟩
    have slips : t.text.queue = s.text.queue ∧ t.text.putting = s.text.putting ∧ t.carousels = s.carousels ∧
        t.store.queue = s.store.queue ∧ t.alerts.queue = s.alerts.queue ∧ t.alerts.checking = s.alerts.checking :=
      ⟨touch.same .textQueue (away _ (by decide)), touch.same .putting (away _ (by decide)),
        touch.same .carouselQueue (away _ (by decide)), touch.same .storeQueue (away _ (by decide)),
        touch.same .alertQueue (away _ (by decide)), touch.same .raiseChecking (away _ (by decide))⟩
    have alerts : activeAlerts t = activeAlerts s := activeAlerts_congr (touch.same .places (away _ (by decide)))
    obtain ⟨h1, h2, h3, h4, h5⟩ := maps
    obtain ⟨k1, k2, k3, k4, k5, k6⟩ := slips
    simp only [heldRecords, h1, h2, h3, h4, h5, k1, k2, k3, k4, k5, k6, alerts, List.append_assoc]

theorem heldRecords_of_touches {xs : List Aspect} {s t : State} (touch : touches xs s t)
    (away : ∀ a ∈ heldAspects, a ∉ xs)
    (jobs : t.store.jobs.map Job.record = s.store.jobs.map Job.record) : heldRecords t = heldRecords s := by
  obtain ⟨before, after, here, there⟩ := heldRecords_split s
  rw [here, there touch away, jobs]

theorem mem_jobs_held {s : State} {j : Job} (h : j ∈ s.store.jobs) : j.record ∈ heldRecords s := by
  obtain ⟨before, after, here, -⟩ := heldRecords_split s
  rw [here]
  exact List.mem_append_left _ (List.mem_append_right _ (List.mem_map_of_mem h))

/-- No record that is on its way, or held, has two jobs. -/
theorem RecordsHeld.jobs_nodup {xs : List RecId} {s : State} (h : RecordsHeld xs s) : (s.store.jobs.map Job.record).Nodup := by
  obtain ⟨before, after, here, -⟩ := heldRecords_split s
  have all := h.nodup
  rw [here] at all
  exact all.sublist (((List.sublist_append_right _ _).trans (List.sublist_append_left _ _)).trans
    (List.sublist_append_right _ _))

theorem RecordsHeld.job_unique {xs : List RecId} {s : State} (h : RecordsHeld xs s) {j k : Job} (hj : j ∈ s.store.jobs)
    (hk : k ∈ s.store.jobs) (same : j.record = k.record) : j = k := List.inj_on_of_nodup_map h.jobs_nodup hj hk same

/-! ### How records move -/

/-- A change of the state in which no slip completes: no record comes to be held but those on their way. -/
theorem RecordsHeld.change {xs ys : List RecId} {s t : State} (h : RecordsHeld xs s) (work : ∀ r, t.work r = s.work r)
    (held : ∀ r, (ys ++ heldRecords t).count r ≤ (xs ++ heldRecords s).count r)
    (writing : writingRecords t = writingRecords s)
    (ended : ∀ j ∈ s.store.jobs, j.record ∈ writingRecords s → j.state = .ended →
      ∃ k ∈ t.store.jobs, k.record = j.record ∧ k.state = .ended)
    (running : ∀ r op, t.store.running = some ⟨.job r, op⟩ →
      (∃ op', s.store.running = some ⟨.job r, op'⟩) ∨ r ∉ writingRecords s) : RecordsHeld ys t where
  once r := (held r).trans (h.once r)
  used r hr := by
    rw [work]
    exact h.used r (List.count_pos_iff.mp ((List.count_pos_iff.mpr hr).trans_le (held r)))
  written := writing ▸ h.written
  ended r hr := by
    rw [writing] at hr
    obtain ⟨j, hj, same, state⟩ := h.ended r hr
    obtain ⟨k, hk, same', state'⟩ := ended j hj (same.symm ▸ hr) state
    exact ⟨k, hk, same'.trans same, state'⟩
  running r op hr := by
    rw [writing]
    obtain ⟨op', before⟩ | free := running r op hr
    · exact h.running r op' before
    · exact free

/-- What `RecordsHeld` reads besides the records held. -/
def workAspects : List Aspect := [.records, .jobs, .running, .dirWrites]

theorem work_of_touches {xs : List Aspect} {s t : State} (touch : touches xs s t) (away : Aspect.records ∉ xs)
    (r : RecId) : t.work r = s.work r := by
  have records : t.reader.records = s.reader.records := touch.same .records away
  rw [State.work, records]
  rfl

/-- Records move between blocks. -/
theorem RecordsHeld.move {xs ys : List RecId} {as : List Aspect} {s t : State} (h : RecordsHeld xs s) (touch : touches as s t)
    (held : ∀ r, (ys ++ heldRecords t).count r ≤ (xs ++ heldRecords s).count r)
    (away : ∀ a ∈ workAspects, a ∉ as) : RecordsHeld ys t := by
  have jobs : t.store.jobs = s.store.jobs := touch.same .jobs (away _ (by decide))
  have running : t.store.running = s.store.running := touch.same .running (away _ (by decide))
  have dirWrites : t.store.dirWrites = s.store.dirWrites := touch.same .dirWrites (away _ (by decide))
  exact h.change (work_of_touches touch (away _ (by decide))) held (by rw [writingRecords, dirWrites]; rfl)
    (fun j hj _ state => ⟨j, jobs ▸ hj, rfl, state⟩) fun r op hr => .inl ⟨op, running ▸ hr⟩

/-! ### Completions -/

theorem complete_jobs {r : RecId} {s : State} (used : s.work r ≠ none) (status : Nat) (aux frame : Word) :
    (complete r status aux frame s).store.jobs = s.store.jobs.filter fun j => j.record ≠ r := by
  obtain ⟨w, hw⟩ := Option.ne_none_iff_exists'.mp used
  exact (complete_spec r status aux frame s w hw).1.2

/-- The slip of a record completes which no directory write will complete, and which nothing else holds: the record is freed. -/
theorem RecordsHeld.freed {xs ys : List RecId} {s : State} (h : RecordsHeld xs s) {r : RecId} (used : s.work r ≠ none)
    (status : Nat) (aux frame : Word) (fewer : List.Sublist ys xs) (unwritten : r ∉ writingRecords s)
    (gone : r ∉ ys ++ heldRecords (complete r status aux frame s)) : RecordsHeld ys (complete r status aux frame s) := by
  have touch := complete_touches r status aux frame s
  have jobs := complete_jobs used status aux frame
  have held : List.Sublist (heldRecords (complete r status aux frame s)) (heldRecords s) := by
    obtain ⟨before, after, here, there⟩ := heldRecords_split s
    rw [here, there touch (by decide), jobs]
    exact (((List.Sublist.refl _).append (List.filter_sublist.map _)).append (List.Sublist.refl _))
  have all := fewer.append held
  have writing : writingRecords (complete r status aux frame s) = writingRecords s := by
    rw [writingRecords, touch.same .dirWrites]
    rfl
  have other {q : RecId} (ne : q ≠ r) : (complete r status aux frame s).work q = s.work q := complete_work_other ne status aux frame
  refine ⟨fun q => ?_, fun q hq => ?_, writing.symm ▸ h.written, fun q hq => ?_, fun q op hq => ?_⟩
  · exact (all.count_le q).trans (h.once q)
  · have ne : q ≠ r := ne_of_mem_of_not_mem hq gone
    rw [other ne]
    exact h.used q (all.subset hq)
  · rw [writing] at hq
    obtain ⟨j, hj, same, state⟩ := h.ended q hq
    refine ⟨j, ?_, same, state⟩
    rw [jobs, List.mem_filter, decide_eq_true_eq]
    exact ⟨hj, fun e => unwritten (by rw [← e, same]; exact hq)⟩
  · rw [writing]
    rw [touch.same .running] at hq
    exact h.running q op hq

theorem RecordsHeld.writing_held {xs : List RecId} {s : State} (h : RecordsHeld xs s) {r : RecId} (hr : r ∈ writingRecords s) :
    r ∈ heldRecords s := by
  obtain ⟨j, hj, same, -⟩ := h.ended r hr
  exact same ▸ mem_jobs_held hj

/-- The slip of a record on its way completes. -/
theorem RecordsHeld.done {r : RecId} {xs : List RecId} {s : State} (h : RecordsHeld (r :: xs) s) (status : Nat)
    (aux frame : Word) : RecordsHeld xs (complete r status aux frame s) := by
  obtain ⟨fresh, -⟩ := List.nodup_cons.mp h.nodup
  have unheld : r ∉ heldRecords s := fun mem => fresh (List.mem_append_right _ mem)
  have used : s.work r ≠ none := h.used r List.mem_cons_self
  have jobs : (complete r status aux frame s).store.jobs = s.store.jobs := by
    rw [complete_jobs used, List.filter_eq_self]
    intro j hj
    rw [decide_eq_true_eq]
    rintro rfl
    exact unheld (mem_jobs_held hj)
  have held := heldRecords_of_touches (complete_touches r status aux frame s) (by decide) (by rw [jobs])
  refine h.freed used status aux frame (List.sublist_cons_self r xs) (fun mem => unheld (h.writing_held mem)) ?_
  rw [held]
  exact fresh

/-- The slip of a job's record completes, which no directory write will complete. -/
theorem RecordsHeld.jobDone {xs : List RecId} {s : State} (h : RecordsHeld xs s) {j : Job} (hj : j ∈ s.store.jobs)
    (unwritten : j.record ∉ writingRecords s) (status : Nat) (aux frame : Word) :
    RecordsHeld xs (complete j.record status aux frame s) := by
  have used : s.work j.record ≠ none := h.used _ (List.mem_append_right _ (mem_jobs_held hj))
  refine h.freed used status aux frame (List.Sublist.refl xs) unwritten fun mem => ?_
  obtain ⟨before, after, here, there⟩ := heldRecords_split s
  rw [there (complete_touches j.record status aux frame s) (by decide), complete_jobs used] at mem
  have all := h.nodup
  rw [here] at all
  have once : (xs ++ (before ++ s.store.jobs.map Job.record ++ after)).count j.record ≤ 1 :=
    List.nodup_iff_count_le_one.mp all _
  have inJobs : 0 < (s.store.jobs.map Job.record).count j.record := List.count_pos_iff.mpr (List.mem_map_of_mem hj)
  have filtered : ((s.store.jobs.filter fun k => k.record ≠ j.record).map Job.record).count j.record = 0 := by
    refine List.count_eq_zero.mpr fun k => ?_
    obtain ⟨x, hx, same⟩ := List.mem_map.mp k
    exact (of_decide_eq_true (List.mem_filter.mp hx).2) same
  have some := List.count_pos_iff.mpr mem
  simp only [List.count_append] at once some
  omega

/-! ### Visits -/

/-- A visit in progress reads into a free work record. -/
def visitFree (s : State) : Prop := ∀ r i rest last, s.reader.sweep = .visiting r i rest last → s.work r = none

theorem visitFree.kept {s t : State} (h : visitFree s) (sweep : t.reader.sweep = s.reader.sweep)
    (free : ∀ q, s.work q = none → t.work q = none) : visitFree t := fun r i rest last visiting =>
  free r (h r i rest last (sweep ▸ visiting))

theorem visitFree.of_touches {xs : List Aspect} {s t : State} (h : visitFree s) (touch : touches xs s t)
    (away : ∀ a ∈ [Aspect.records, .sweep], a ∉ xs) : visitFree t :=
  h.kept (touch.same .sweep (away _ (by decide))) fun q free => (work_of_touches touch (away _ (by decide)) q).trans free

theorem visitFree.complete {s : State} (h : visitFree s) (r : RecId) (status : Nat) (aux frame : Word) :
    visitFree (complete r status aux frame s) :=
  h.kept ((complete_touches r status aux frame s).same .sweep) fun _ free => complete_work_none free r status aux frame

/-- What `RecordsSound` says, while the records of a list are on their way. -/
structure RecordsWith (xs : List RecId) (s : State) : Prop extends RecordsHeld xs s where
  visit : visitFree s

theorem recordsSound_iff (s : State) : RecordsSound s ↔ RecordsWith [] s :=
  ⟨fun ⟨once, used, visit, written, ended, running⟩ =>
    ⟨⟨fun r => List.nodup_iff_count_le_one.mp once r, used, written, ended, running⟩, visit⟩,
    fun ⟨⟨once, used, written, ended, running⟩, visit⟩ =>
    ⟨List.nodup_iff_count_le_one.mpr once, used, visit, written, ended, running⟩⟩

/-- What touches neither the records held nor what they are read with keeps them. -/
theorem RecordsWith.quiet {xs : List RecId} {as : List Aspect} {s t : State} (h : RecordsWith xs s) (touch : touches as s t)
    (away : ∀ a ∈ .sweep :: heldAspects ++ workAspects, a ∉ as) : RecordsWith xs t := by
  have held : heldRecords t = heldRecords s := heldRecords_of_touches touch
    (fun a ha => away a (List.mem_append_left _ (List.mem_cons_of_mem _ ha))) (by rw [touch.same .jobs (away _ (by decide))])
  exact ⟨h.toRecordsHeld.move touch (fun r => by rw [held]) fun a ha => away a (List.mem_append_right _ ha),
    h.visit.of_touches touch fun a ha => away a (by revert a; decide)⟩

/-! ### What passes records on -/

/-- What moves of records between blocks do not touch. -/
def passAspects : List Aspect := workAspects ++ [.slotRecords, .slotUsers, .loaded, .recovery]

/-- A property of states, and of the records on their way there, that the moves of records and the completions keep. -/
structure Passes (P : List RecId → State → Prop) : Prop where
  move : ∀ {xs ys : List RecId} {as : List Aspect} {s t : State}, P xs s → touches as s t →
    (∀ r, (ys ++ heldRecords t).count r ≤ (xs ++ heldRecords s).count r) → (∀ a ∈ .sweep :: passAspects, a ∉ as) → P ys t
  done : ∀ {r : RecId} {xs : List RecId} {s : State} (status : Nat) (aux frame : Word), P (r :: xs) s →
    P xs (complete r status aux frame s)

theorem recordsHeld_passes : Passes RecordsHeld where
  move h touch held away := h.move touch held fun a ha => away a (List.mem_cons_of_mem _ (List.mem_append_left _ ha))
  done status aux frame h := h.done status aux frame

theorem recordsWith_passes : Passes RecordsWith where
  move h touch held away := ⟨h.toRecordsHeld.move touch held fun a ha =>
    away a (List.mem_cons_of_mem _ (List.mem_append_left _ ha)), h.visit.of_touches touch fun a ha => away a (by revert a; decide)⟩
  done status aux frame h := ⟨h.toRecordsHeld.done status aux frame, h.visit.complete _ status aux frame⟩

theorem Passes.quiet {P : List RecId → State → Prop} (pass : Passes P) {xs : List RecId} {as : List Aspect} {s t : State}
    (h : P xs s) (touch : touches as s t) (away : ∀ a ∈ .sweep :: passAspects ++ heldAspects, a ∉ as) : P xs t := by
  have held : heldRecords t = heldRecords s := heldRecords_of_touches touch
    (fun a ha => away a (List.mem_append_right _ ha)) (by rw [touch.same .jobs (away _ (by decide))])
  exact pass.move h touch (fun r => by rw [held]) fun a ha => away a (List.mem_append_left _ ha)

theorem Passes.finish {P : List RecId → State → Prop} (pass : Passes P) {r : RecId} {xs : List RecId} {s : State}
    (h : P (r :: xs) s) (status : Nat) (aux : Word) : P xs (finish r status aux s) := pass.done status aux _ h

theorem Passes.finishUnstated {P : List RecId → State → Prop} (pass : Passes P) {r : RecId} {xs : List RecId} {s : State}
    (h : P (r :: xs) s) (status : Nat) : P xs (finishUnstated r status s) :=
  pass.finish (pass.quiet h (setDraws_touches (s.draws + 1) s) (by decide)) status _

end Sys2Proof.Machine
end

/-! ## Proofs: dispatches, and the slips that complete at once (9.4) -/

section
namespace Sys2Proof.Machine

/-! ### Where a record is held -/

theorem count_held (xs : List RecId) (s : State) (r : RecId) : (xs ++ heldRecords s).count r =
    xs.count r + s.maps.laneSlips.count r + s.maps.mapLoads.count r + s.maps.checking.toList.count r +
    (s.maps.upcoming.map PendingMap.record).toList.count r + s.maps.switched.toList.count r + s.text.queue.count r +
    s.text.putting.toList.count r + s.carousels.count r + s.store.queue.count r + (s.store.jobs.map Job.record).count r +
    s.alerts.queue.count r + s.alerts.checking.toList.count r +
    ((s.alerts.places.toList.filterMap id).filterMap Alert.waiting).count r := by
  simp only [heldRecords, List.count_append, activeAlerts]
  omega

theorem touches_setCarousels (q : List RecId) (s : State) : touches [.carouselQueue] s (s.setCarousels q) :=
  touches_of_same (fun a ha => by cases a <;> first | rfl | exact fun _ => rfl | simp at ha) rfl

theorem touches_setStore_queue (q : List RecId) (s : State) :
    touches [.storeQueue] s (s.setStore { s.store with queue := q }) :=
  touches_of_same (fun a ha => by cases a <;> first | rfl | exact fun _ => rfl | simp at ha) rfl

/-- The aspects of a lane. -/
def laneAspects : List Aspect := [.laneState, .pageA, .pageB, .pageSize, .pace, .audioFrom, .textFrom, .pictureFrom, .credit,
  .saturation, .feed, .laneText, .carousel, .counts]

theorem touches_anyLane (l : LaneId) (x : Lane) (s : State) : touches laneAspects s (s.setLane l x) :=
  touches_setLane fun a ha => by cases a <;> first | rfl | trivial

theorem touches_anyMaps (x : MapControl) (s : State) :
    touches [.active, .generation, .upcoming, .mapChecking, .switched, .laneSlips, .mapLoads] s (s.setMaps x) :=
  touches_of_same (fun a ha => by cases a <;> first | rfl | exact fun _ => rfl | simp at ha) rfl

/-- The record that the alert of a place has still to complete. -/
def waitingAt (x : Option Alert) : List RecId := (x.bind Alert.waiting).toList

/-- The records that alerts wait for, with a place set. -/
theorem count_waiting_set (places : Vector (Option Alert) 4) (p : PlaceId) (x : Option Alert) (r : RecId) :
    (((places.set p x).toList.filterMap id).filterMap Alert.waiting).count r + (waitingAt places[p]).count r =
      ((places.toList.filterMap id).filterMap Alert.waiting).count r + (waitingAt x).count r := by
  have one (y : Option Alert) : y.toList.filterMap Alert.waiting = waitingAt y := by
    cases y with
    | none => rfl
    | some a => cases waiting : a.waiting <;> simp [waitingAt, waiting]
  obtain ⟨before, after, here, set⟩ := filterMap_id_set places.toList p.val (by simp)
  rw [Vector.toList_set, set, here]
  simp only [List.filterMap_append, one, List.count_append, Vector.getElem_toList]
  rw [Fin.getElem_fin]
  omega

section
variable {P : List RecId → State → Prop} (pass : Passes P) {s : State}
include pass

/-! ### Records taken off the queues -/

theorem Passes.laneSlip {k : Kind} {act : RecId → WorkRecord → LaneId → State → State}
    (acts : ∀ r w l u, P [r] u → P [] (act r w l u)) (h : P [] s) : P [] (laneDispatch k act s) := by
  obtain idle | ⟨r, rest, w, l, ⟨⟨front, -⟩, -⟩, acted⟩ := laneDispatch_cases k act s
  · rw [idle]
    exact h
  · rw [acted]
    refine acts r w l _ (pass.move h (touches_setMaps_laneSlips rest s) (fun a => ?_) (by decide))
    have front : s.maps.laneSlips = r :: rest := front
    simp only [count_held, State.setMaps, front, List.count_cons, List.count_nil]
    omega

theorem Passes.textSlip {k : Kind} {act : RecId → WorkRecord → LaneId → State → State}
    (acts : ∀ r w l u, P [r] u → P [] (act r w l u)) (h : P [] s) : P [] (textDispatch k act s) := by
  by_cases idle : textDispatch k act s = s
  · rw [idle]
    exact h
  · have free : s.text.putting = none := by
      by_contra busy
      exact idle (textDispatch_busy busy act)
    obtain ⟨r, rest, w, l, here⟩ : ∃ r rest w l, laneSlipAt .text k s r rest w l := by
      by_contra none
      exact idle (textDispatch_idle (fun r rest w l here => none ⟨r, rest, w, l, here⟩) act)
    rw [textDispatch_at here free]
    refine acts r w l _ (pass.move h (touches_setText_queue rest s) (fun a => ?_) (by decide))
    have front : s.text.queue = r :: rest := here.1.1
    simp only [count_held, State.setText, front, List.count_cons, List.count_nil]
    omega

theorem Passes.carouselSlip {k : Kind} {act : RecId → WorkRecord → LaneId → State → State}
    (acts : ∀ r w l u, P [r] u → P [] (act r w l u)) (h : P [] s) : P [] (carouselDispatch k act s) := by
  by_cases idle : carouselDispatch k act s = s
  · rw [idle]
    exact h
  · obtain ⟨r, rest, w, l, here⟩ : ∃ r rest w l, laneSlipAt .carousel k s r rest w l := by
      by_contra none
      exact idle (carouselDispatch_idle (fun r rest w l here => none ⟨r, rest, w, l, here⟩) act)
    rw [carouselDispatch_at here]
    refine acts r w l _ (pass.move h (touches_setCarousels rest s) (fun a => ?_) (by decide))
    have front : s.carousels = r :: rest := here.1.1
    simp only [count_held, State.setCarousels, front, List.count_cons, List.count_nil]
    omega

theorem Passes.picSlip {k : Kind} {act : RecId → WorkRecord → State → State}
    (acts : ∀ r w u, u.store.loaded = true → P [r] u → P [] (act r w u)) (h : P [] s) : P [] (picDispatch k act s) := by
  by_cases idle : picDispatch k act s = s
  · rw [idle]
    exact h
  · have loaded : s.store.loaded = true := by
      by_contra waits
      exact idle (picDispatch_waits (eq_false_of_ne_true waits) act)
    obtain ⟨r, rest, w, here⟩ : ∃ r rest w, slipAt .store k s r rest w := by
      by_contra none
      exact idle (picDispatch_idle (fun r rest w here => none ⟨r, rest, w, here⟩) act)
    rw [picDispatch_at here loaded]
    refine acts r w _ loaded (pass.move h (touches_setStore_queue rest s) (fun a => ?_) (by decide))
    have front : s.store.queue = r :: rest := here.1
    simp only [count_held, State.setStore, front, List.count_cons, List.count_nil]
    omega

theorem Passes.alertSlip {k : Kind} {act : RecId → WorkRecord → State → State}
    (acts : ∀ r w u, P [r] u → P [] (act r w u)) (h : P [] s) : P [] (alertDispatch k act s) := by
  by_cases idle : alertDispatch k act s = s
  · rw [idle]
    exact h
  · have free : s.alerts.checking = none := by
      by_contra busy
      exact idle (alertDispatch_busy busy act)
    obtain ⟨r, rest, w, here⟩ : ∃ r rest w, slipAt .alert k s r rest w := by
      by_contra none
      exact idle (alertDispatch_idle (fun r rest w here => none ⟨r, rest, w, here⟩) act)
    rw [alertDispatch_at here free]
    refine acts r w _ (pass.move h (touches_setAlerts_queue rest s) (fun a => ?_) (by decide))
    have front : s.alerts.queue = r :: rest := here.1
    simp only [count_held, State.setAlerts, front, List.count_cons, List.count_nil]
    omega

/-! ### Lane slips and map slips -/

theorem Passes.actLaneSetup {r : RecId} (h : P [r] s) (w : WorkRecord) (l : LaneId) : P [] (actLaneSetup r w l s) := by
  unfold Machine.actLaneSetup
  dsimp only
  split
  · exact pass.finishUnstated h _
  split
  · exact pass.finishUnstated h _
  split
  · exact pass.finish (pass.quiet (pass.quiet h (touches_anyLane l _ s) (by decide)) (touches_postRecord _ _ _) (by decide)) _ _
  · have reconfigured : P [r] (reconfigure w l s) :=
      pass.quiet (pass.quiet h (returnPage_touches l .retired s) (by decide)) (touches_anyLane l _ _) (by decide)
    exact pass.finish reconfigured _ _

theorem Passes.actLaneHalt {r : RecId} (h : P [r] s) (w : WorkRecord) (l : LaneId) : P [] (actLaneHalt r w l s) := by
  unfold Machine.actLaneHalt
  split
  · exact pass.finishUnstated (pass.quiet (pass.quiet h (touches_anyLane l _ s) (by decide)) (touches_postRecord _ _ _) (by decide)) _
  · exact pass.finishUnstated h _

theorem Passes.actLaneResume {r : RecId} (h : P [r] s) (w : WorkRecord) (l : LaneId) : P [] (actLaneResume r w l s) := by
  unfold Machine.actLaneResume
  split
  · exact pass.finishUnstated (pass.quiet (pass.quiet h (touches_anyLane l _ s) (by decide)) (touches_postRecord _ _ _) (by decide)) _
  · exact pass.finishUnstated h _

theorem Passes.mapLoad (h : P [] s) : P [] (mapLoad s) := by
  unfold Machine.mapLoad
  split
  · exact h
  split
  next r rest front =>
    dsimp only
    split
    · refine pass.finishUnstated (pass.move h (touches_anyMaps _ s) (fun a => ?_) (by decide)) _
      simp only [count_held, State.setMaps, front, List.count_cons, List.count_nil]
      omega
    · refine pass.move h (touches_anyMaps _ s) (fun a => ?_) (by decide)
      simp only [count_held, State.setMaps, front, List.count_cons, List.count_nil, Option.toList]
      omega
  · exact h

theorem Passes.mapTableRead (h : P [] s) (view : HostView) : P [] (mapTableRead view s) := by
  unfold Machine.mapTableRead
  split
  · exact h
  next r checking =>
    have taken : P [r] (s.setMaps { s.maps with checking := none }) := by
      refine pass.move h (touches_anyMaps _ s) (fun a => ?_) (by decide)
      simp only [count_held, State.setMaps, checking, List.count_cons, List.count_nil, Option.toList]
      omega
    have dropped : P [] (s.setMaps { s.maps with checking := none }) :=
      pass.move taken (touches_refl [] _) (fun a => by simp only [count_held, List.count_cons, List.count_nil]; omega) (by decide)
    dsimp only
    split
    · exact dropped
    split
    · exact pass.finishUnstated taken _
    split
    · exact pass.finishUnstated taken _
    · refine pass.move h (touches_anyMaps _ s) (fun a => ?_) (by decide)
      simp only [count_held, State.setMaps, checking, List.count_cons, List.count_nil, Option.toList, Option.map]
      omega

/-! ### Text slips and carousel slips -/

theorem Passes.actTextPut {r : RecId} (h : P [r] s) (w : WorkRecord) (l : LaneId) : P [] (actTextPut r w l s) := by
  unfold Machine.actTextPut
  split
  · exact pass.finishUnstated h _
  split
  · exact pass.finishUnstated h _
  · refine pass.move h (touches_setText_putting (some r) s) (fun a => ?_) (by decide)
    simp only [count_held, State.setText, List.count_cons, List.count_nil, Option.toList]
    omega

theorem Passes.applyPut {r : RecId} (h : P [r] s) (w : WorkRecord) (l : LaneId) (body : List Byte) :
    P [] (applyPut r w l body s) := by
  unfold Machine.applyPut
  dsimp only
  split
  · exact pass.finish (pass.quiet h (setTextState_touches _ _ s) (by decide)) _ _
  split
  · exact pass.finish (pass.quiet h (setTextState_touches _ _ s) (by decide)) _ _
  · exact pass.finish h _ _

theorem Passes.textPutApply (h : P [] s) (view : HostView) : P [] (textPutApply view s) := by
  unfold Machine.textPutApply
  split
  · exact h
  next r putting =>
    have taken : P [r] (s.setText { s.text with putting := none }) := by
      refine pass.move h (touches_setText_putting none s) (fun a => ?_) (by decide)
      simp only [count_held, State.setText, putting, List.count_cons, List.count_nil, Option.toList]
      omega
    have dropped : P [] (s.setText { s.text with putting := none }) :=
      pass.move taken (touches_refl [] _) (fun a => by simp only [count_held, List.count_cons, List.count_nil]; omega) (by decide)
    dsimp only
    split
    · exact dropped
    split
    · exact dropped
    split
    · exact pass.finishUnstated taken _
    split
    · exact pass.finishUnstated taken _
    split
    · exact pass.finish taken _ _
    · exact pass.applyPut taken _ _ _

theorem Passes.actTextDrop {r : RecId} (h : P [r] s) (w : WorkRecord) (l : LaneId) : P [] (actTextDrop r w l s) := by
  unfold Machine.actTextDrop
  dsimp only
  split
  · exact pass.finishUnstated h _
  split
  · exact pass.finishUnstated h _
  · exact pass.finish (pass.quiet h (setTextState_touches _ _ s) (by decide)) _ _

theorem Passes.actTextClear {r : RecId} (h : P [r] s) (w : WorkRecord) (l : LaneId) : P [] (actTextClear r w l s) := by
  unfold Machine.actTextClear
  dsimp only
  split
  · exact pass.finishUnstated h _
  · exact pass.finish (pass.quiet h (setTextState_touches _ _ s) (by decide)) _ _

theorem Passes.actCarJump {r : RecId} (h : P [r] s) (w : WorkRecord) (l : LaneId) : P [] (actCarJump r w l s) := by
  unfold Machine.actCarJump
  dsimp only
  split
  · exact pass.finish h _ _
  split
  · exact pass.finish h _ _
  · exact pass.finish (pass.quiet h (setCarousel_touches _ _ s) (by decide)) _ _

/-! ### Alert slips -/

theorem Passes.actAlertEnd {r : RecId} (h : P [r] s) (w : WorkRecord) : P [] (actAlertEnd r w s) := by
  unfold Machine.actAlertEnd
  split
  · exact pass.finish h _ _
  next p place =>
    split
    · exact pass.finish h _ _
    next a here =>
      split
      next onAir =>
        refine pass.move h (endAlert_touches r p a s) (fun b => ?_) (by decide)
        have set := count_waiting_set s.alerts.places p (some { a with state := .ending, endRecord := some r }) b
        have before : waitingAt s.alerts.places[p] = [] := by simp [waitingAt, here, Alert.waiting, onAir]
        have after : waitingAt (some { a with state := .ending, endRecord := some r }) = [r] := rfl
        rw [before, after] at set
        simp only [count_held, endAlert, writeAlertMirror, State.postRecord, State.post, State.setAlerts, State.setLanes,
          List.count_nil] at set ⊢
        omega
      · exact pass.finish h _ _

/-! ### Slips that a send completes -/

theorem Passes.completeAt (counter : Word) {xs : List RecId} : ∀ (rs : List RecId) {s : State}, P (rs ++ xs) s → P xs (completeAt counter rs s)
  | [], _, h => h
  | _ :: rs, _, h => Passes.completeAt counter rs (pass.done statusOk counter counter h)

theorem Passes.completeSwitched (h : P [] s) (counter : Word) : P [] (completeSwitched counter s) := by
  refine pass.completeAt counter (switchedSlip s) (pass.move h (setMaps_switched_touches none s) (fun a => ?_) (by decide))
  unfold switchedSlip
  cases switched : s.maps.switched <;>
    simp only [count_held, State.setMaps, switched, List.count_cons, List.count_nil, Option.toList, List.append_nil] <;> omega

end

end Sys2Proof.Machine
end

/-! ## Proofs: work records and the store's jobs (6.3, 9.4) -/

section
namespace Sys2Proof.Machine

/-! ### User counts -/

/-- Between two states some jobs have been made to go on, and no directory write of a slip has begun. -/
def wakes (s t : State) : Prop :=
  (∃ f : Job → Job, t.store.jobs = s.store.jobs.map f ∧
    ∀ j, (f j).record = j.record ∧ (j.state = .ended → (f j).state = .ended)) ∧ writingRecords t = writingRecords s

theorem wakes_refl (s : State) : wakes s s := ⟨⟨id, (List.map_id _).symm, fun _ => ⟨rfl, fun h => h⟩⟩, rfl⟩

theorem wakes.trans {s t u : State} (h : wakes s t) (k : wakes t u) : wakes s u := by
  obtain ⟨⟨f, jobs, same⟩, writing⟩ := h
  obtain ⟨⟨g, jobs', same'⟩, writing'⟩ := k
  refine ⟨⟨g ∘ f, by rw [jobs', jobs, List.map_map], fun j => ?_⟩, writing'.trans writing⟩
  obtain ⟨record, ended⟩ := same j
  obtain ⟨record', ended'⟩ := same' (f j)
  exact ⟨record'.trans record, fun h => ended' (ended h)⟩

theorem wakeJob_kept (i : SlotId) (j : Job) : (wakeJob i j).record = j.record ∧ (j.state = .ended → (wakeJob i j).state = .ended) := by
  unfold wakeJob
  split
  next waiting => exact ⟨rfl, fun ended => by rw [ended] at waiting; exact absurd waiting.2 nofun⟩
  next => exact ⟨rfl, fun ended => ended⟩

theorem setUsers_wakes (i : SlotId) (n : Nat) (s : State) : wakes s (setUsers i n s) := by
  have touch : touches [.posted] (s.setSlot i { s.slot i with users := n })
      (writeDirectoryMirror i (s.setSlot i { s.slot i with users := n })) := writeDirectoryMirror_touches _ _
  have jobs : (writeDirectoryMirror i (s.setSlot i { s.slot i with users := n })).store.jobs = s.store.jobs := touch.same .jobs
  have dirWrites : (writeDirectoryMirror i (s.setSlot i { s.slot i with users := n })).store.dirWrites = s.store.dirWrites :=
    touch.same .dirWrites
  unfold setUsers
  dsimp only
  split
  · refine ⟨⟨wakeJob i, by rw [← jobs]; rfl, wakeJob_kept i⟩, ?_⟩
    simp only [writingRecords, beginDirWrite, State.setStore, dirWrites, List.filterMap_append, List.filterMap_cons,
      List.filterMap_nil, List.append_nil]
  · refine ⟨⟨id, by rw [jobs, List.map_id], fun _ => ⟨rfl, fun h => h⟩⟩, ?_⟩
    rw [writingRecords, dirWrites]
    rfl

theorem retally_wakes (old new : List SlotId) (s : State) : wakes s (retally old new s) :=
  foldl_keeps (fun t => wakes s t) _ (fun t i h => by
    unfold retallySlot
    split
    · exact h
    · exact h.trans (setUsers_wakes i _ t)) _ s (wakes_refl s)

theorem wakes_of_touches {as : List Aspect} {s t : State} (touch : touches as s t)
    (away : ∀ a ∈ [Aspect.jobs, .dirWrites], a ∉ as) : wakes s t :=
  ⟨⟨id, by rw [touch.same .jobs (away _ (by decide)), List.map_id], fun _ => ⟨rfl, fun h => h⟩⟩, by
    rw [writingRecords, touch.same .dirWrites (away _ (by decide))]
    rfl⟩

/-- Records move between blocks while user counts change. -/
theorem RecordsWith.wake {xs ys : List RecId} {as : List Aspect} {s t : State} (h : RecordsWith xs s) (touch : touches as s t)
    (woken : wakes s t) (held : ∀ r, (ys ++ heldRecords t).count r ≤ (xs ++ heldRecords s).count r)
    (away : ∀ a ∈ [Aspect.sweep, .records, .running], a ∉ as) : RecordsWith ys t := by
  obtain ⟨⟨f, jobs, kept⟩, writing⟩ := woken
  refine ⟨h.toRecordsHeld.change (work_of_touches touch (away _ (by decide))) held writing
    (fun j hj _ ended => ⟨f j, jobs ▸ List.mem_map_of_mem hj, (kept j).1, (kept j).2 ended⟩) fun r op hr => .inl ⟨op, ?_⟩,
    h.visit.of_touches touch fun a ha => away a (by revert a; decide)⟩
  rw [← touch.same .running (away _ (by decide))]
  exact hr

theorem RecordsWith.woken {xs : List RecId} {as : List Aspect} {s t : State} (h : RecordsWith xs s) (touch : touches as s t)
    (woken : wakes s t) (away : ∀ a ∈ [.sweep, .records, .running] ++ heldAspects, a ∉ as) : RecordsWith xs t := by
  have jobs : t.store.jobs.map Job.record = s.store.jobs.map Job.record := by
    obtain ⟨⟨f, jobs, kept⟩, -⟩ := woken
    rw [jobs, List.map_map]
    exact List.map_congr_left fun j _ => (kept j).1
  have held : heldRecords t = heldRecords s :=
    heldRecords_of_touches touch (fun a ha => away a (List.mem_append_right _ ha)) jobs
  exact h.wake touch woken (fun r => by rw [held]) fun a ha => away a (List.mem_append_left _ ha)

theorem RecordsWith.retally {xs : List RecId} {s : State} (h : RecordsWith xs s) (old new : List SlotId) :
    RecordsWith xs (retally old new s) := h.woken (retally_touches old new s) (retally_wakes old new s) (by decide)

/-! ### Jobs -/

theorem RecordsWith.eligible_unwritten {xs : List RecId} {s : State} (h : RecordsWith xs s) {j : Job} (hj : j ∈ s.store.jobs)
    (may : eligible s j = true) : j.record ∉ writingRecords s := fun mem => by
  obtain ⟨k, hk, same, ended⟩ := h.ended _ mem
  obtain rfl := h.job_unique hk hj same
  simp [eligible, ended] at may

/-- The job of a record that no directory write will complete is replaced. -/
theorem RecordsWith.update {xs : List RecId} {s : State} (h : RecordsWith xs s) {r : RecId} {f : Job → Job}
    (same : ∀ j, j.record = r → (f j).record = r) (unwritten : r ∉ writingRecords s) : RecordsWith xs (updateJob r f s) := by
  have touch := updateJob_touches r f s
  have held : heldRecords (updateJob r f s) = heldRecords s := heldRecords_of_touches touch (by decide) (by
    simp only [updateJob, State.setStore, List.map_map]
    refine List.map_congr_left fun j _ => ?_
    by_cases own : j.record = r
    · simp [own, same j own]
    · simp [own])
  refine ⟨h.toRecordsHeld.change (work_of_touches touch (by decide)) (fun q => by rw [held]) rfl (fun j hj written ended => ⟨j, ?_, rfl, ended⟩)
    fun q op hq => .inl ⟨op, hq⟩, h.visit.of_touches touch (by decide)⟩
  refine List.mem_map.mpr ⟨j, hj, if_neg fun own => unwritten (by rw [← own]; exact written)⟩

/-- An operation starts or ends. -/
theorem RecordsWith.setRunning {xs : List RecId} {s : State} (h : RecordsWith xs s) {x : Option Running}
    (free : ∀ r op, x = some ⟨.job r, op⟩ → r ∉ writingRecords s) : RecordsWith xs (setRunning x s) := by
  have touch := setRunning_touches x s
  have held : heldRecords (Machine.setRunning x s) = heldRecords s := heldRecords_of_touches touch (by decide) rfl
  exact ⟨h.toRecordsHeld.change (work_of_touches touch (by decide)) (fun q => by rw [held]) rfl (fun j hj _ ended => ⟨j, hj, rfl, ended⟩)
    fun q op hq => .inr (free q op hq), h.visit.of_touches touch (by decide)⟩

theorem RecordsWith.stopped {xs : List RecId} {s : State} (h : RecordsWith xs s) : RecordsWith xs (Machine.setRunning none s) :=
  h.setRunning nofun

theorem RecordsWith.recoveryStarts {xs : List RecId} {s : State} (h : RecordsWith xs s) (i : SlotId) (op : Operation) :
    RecordsWith xs (Machine.setRunning (some ⟨.recovery i, op⟩) s) := h.setRunning fun r op' e => by cases e

/-- A directory write begins that completes no slip. -/
theorem RecordsWith.beginDirWrite {xs : List RecId} {s : State} (h : RecordsWith xs s) {w : DirWrite} (none : w.completes = none) :
    RecordsWith xs (beginDirWrite w s) :=
  h.woken (beginDirWrite_touches w s) ⟨(wakes_refl s).1, by
    simp only [writingRecords, Machine.beginDirWrite, State.setStore, List.filterMap_append, List.filterMap_cons, none,
      List.filterMap_nil, List.append_nil]⟩ (by decide)

/-- The directory write begins with which a job at its end completes its slip. -/
theorem RecordsWith.endsJob {xs : List RecId} {s : State} (h : RecordsWith xs s) {j : Job} (hj : j ∈ s.store.jobs)
    (unwritten : j.record ∉ writingRecords s) (stopped : s.store.running = none) {w : DirWrite} {c : Completion}
    (completes : w.completes = some c) (own : c.record = j.record) :
    RecordsWith xs (Machine.beginDirWrite w (updateJob j.record (fun j => { j with state := .ended }) s)) := by
  have before := h.update (f := fun j => { j with state := .ended }) (fun _ same => same) unwritten
  have touch := beginDirWrite_touches w (updateJob j.record (fun j => { j with state := .ended }) s)
  have held : heldRecords (Machine.beginDirWrite w (updateJob j.record (fun j => { j with state := .ended }) s)) =
      heldRecords (updateJob j.record (fun j => { j with state := .ended }) s) := heldRecords_of_touches touch (by decide) rfl
  have writing : writingRecords (Machine.beginDirWrite w (updateJob j.record (fun j => { j with state := .ended }) s)) =
      writingRecords s ++ [j.record] := by
    simp only [writingRecords, Machine.beginDirWrite, updateJob, State.setStore, List.filterMap_append, List.filterMap_cons,
      completes, List.filterMap_nil, List.map_append, List.map_cons, List.map_nil, own]
  refine ⟨⟨fun r => by rw [held]; exact before.once r, fun r hr => before.used r (held ▸ hr), ?_, fun r hr => ?_, fun r op hr => ?_⟩,
    before.visit.of_touches touch (by decide)⟩
  · rw [writing, List.nodup_append]
    refine ⟨h.written, List.nodup_singleton _, fun a ha b hb e => unwritten ?_⟩
    rw [← List.mem_singleton.mp hb, ← e]
    exact ha
  · rw [writing] at hr
    obtain old | new := List.mem_append.mp hr
    · exact before.ended r old
    · exact ⟨_, List.mem_map_of_mem hj, by rw [if_pos rfl]; exact (List.mem_singleton.mp new).symm, by rw [if_pos rfl]⟩
  · have idle : s.store.running = some ⟨.job r, op⟩ := hr
    rw [stopped] at idle
    cases idle

theorem RecordsWith.endErases {xs : List RecId} {s : State} (h : RecordsWith xs s) {j k : Job} (hk : k ∈ s.store.jobs)
    (same : k.record = j.record) (unwritten : j.record ∉ writingRecords s) (stopped : s.store.running = none) :
    RecordsWith xs (endErases j s) := by
  unfold Machine.endErases
  rw [← same] at unwritten ⊢
  have ends : ∃ c, (eraseJobWrite s j).completes = some c ∧ c.record = k.record := by
    rw [same]
    unfold eraseJobWrite
    split <;> exact ⟨_, rfl, rfl⟩
  obtain ⟨c, completes, own⟩ := ends
  exact h.endsJob hk unwritten stopped completes own

theorem RecordsWith.choose {xs : List RecId} {s : State} (h : RecordsWith xs s) : RecordsWith xs (choose s) := by
  refine choose_keeps (RecordsWith xs) (fun t e _ _ k => ?_) (fun t j op _ found _ k => ?_) (fun t j _ found _ k => ?_)
    (fun t j idle found _ k => ?_) h
  · unfold startRecovery
    split
    · exact k.recoveryStarts _ _
    · exact k
  · have mem := List.mem_of_find?_eq_some found
    have unwritten := k.eligible_unwritten mem (List.find?_some found)
    have updated := k.update (f := fun j => { j with state := .running }) (fun _ same => same) unwritten
    exact updated.setRunning fun r op' e => by cases e; exact unwritten
  · have mem := List.mem_of_find?_eq_some found
    have unwritten := k.eligible_unwritten mem (List.find?_some found)
    unfold finishWrite
    split
    · exact ⟨k.toRecordsHeld.jobDone mem unwritten _ _ _, k.visit.complete _ _ _ _⟩
    · exact ⟨k.toRecordsHeld.jobDone mem unwritten _ _ _, k.visit.complete _ _ _ _⟩
  · have mem := List.mem_of_find?_eq_some found
    exact k.endErases mem rfl (k.eligible_unwritten mem (List.find?_some found)) idle

/-- An accepted picture slip's job enters the queue. -/
theorem RecordsWith.enterJob {xs : List RecId} {s : State} {j : Job} (h : RecordsWith (j.record :: xs) s) :
    RecordsWith xs (enterJob j s) := by
  have touch := enterJob_touches j s
  refine ⟨h.toRecordsHeld.change (work_of_touches touch (by decide)) (fun r => ?_) rfl (fun k hk _ ended => ⟨k, List.mem_append_left _ hk, rfl, ended⟩)
    fun r op hr => .inl ⟨op, hr⟩, h.visit.of_touches touch (by decide)⟩
  rw [count_held, count_held]
  simp only [Machine.enterJob, State.setStore, List.map_append, List.map_cons, List.map_nil, List.count_append,
    List.count_cons, List.count_nil]
  omega

end Sys2Proof.Machine
end

/-! ## Proofs: work records and the picture slips (6.4, 9.4) -/

section
namespace Sys2Proof.Machine

/-! ### The picture slips at their dispatch -/

theorem RecordsWith.finish {r : RecId} {xs : List RecId} {s : State} (h : RecordsWith (r :: xs) s) (status : Nat) (aux : Word) :
    RecordsWith xs (finish r status aux s) := recordsWith_passes.finish h status aux

theorem RecordsWith.recordSlot {xs : List RecId} {s : State} (h : RecordsWith xs s) (i : SlotId) (d : DirRecord) :
    RecordsWith xs (recordSlot i d s) := h.quiet (recordSlot_touches i d s) (by decide)

theorem RecordsWith.removeCondemned {xs : List RecId} {s : State} (h : RecordsWith xs s) (i : SlotId) :
    RecordsWith xs (removeCondemned i s) := by
  have emptied : touches [.carousel] s (s.setLanes (s.lanes.map fun x => { x with carousel := dropEntries i x.carousel })) :=
    touches_setLanes fun l a ha => by
      rw [Fin.getElem_fin, Vector.getElem_map]
      cases a <;> first | rfl | trivial
  exact (h.quiet emptied (by decide)).retally _ _

theorem RecordsWith.dropSlot {r : RecId} {s : State} (h : RecordsWith [r] s) (i : SlotId) : RecordsWith [] (dropSlot r i s) := by
  unfold Machine.dropSlot
  dsimp only
  split
  · exact ((h.recordSlot i _).enterJob (j := dropJob r i s .waiting)).removeCondemned i |>.choose
  · exact ((h.recordSlot i _).enterJob (j := dropJob r i s .queued)).choose

theorem RecordsWith.actPicOpen {r : RecId} {s : State} (h : RecordsWith [r] s) (w : WorkRecord) : RecordsWith [] (actPicOpen r w s) := by
  unfold Machine.actPicOpen
  dsimp only
  split
  · exact h.finish _ _
  next i _ =>
    split
    · exact h.finish _ _
    split
    · exact h.finish _ _
    split
    · exact h.finish _ _
    split
    · exact h.finish _ _
    · exact ((h.recordSlot i _).enterJob (j := ⟨r, _, _, _, _, _, _, _⟩)).choose

theorem RecordsWith.actPicWrite {r : RecId} {s : State} (h : RecordsWith [r] s) (w : WorkRecord) :
    RecordsWith [] (actPicWrite r w s) := by
  unfold Machine.actPicWrite
  dsimp only
  split
  · exact h.finish _ _
  split
  · exact h.finish _ _
  split
  · exact h.finish _ _
  · exact (h.enterJob (j := ⟨r, _, _, _, _, _, _, _⟩)).choose

theorem RecordsWith.actPicSeal {r : RecId} {s : State} (h : RecordsWith [r] s) (w : WorkRecord) : RecordsWith [] (actPicSeal r w s) := by
  unfold Machine.actPicSeal
  split
  · exact h.finish _ _
  next i _ =>
    dsimp only
    split
    · exact h.finish _ _
    · exact ((h.recordSlot i _).enterJob (j := ⟨r, _, _, _, _, _, _, _⟩)).choose

theorem RecordsWith.actPicDrop {r : RecId} {s : State} (h : RecordsWith [r] s) (w : WorkRecord) : RecordsWith [] (actPicDrop r w s) := by
  unfold Machine.actPicDrop
  split
  · exact h.finish _ _
  next i _ =>
    dsimp only
    split
    · exact h.finish _ _
    split
    · exact h.finish _ _
    split
    · exact h.finish _ _
    · exact h.dropSlot i

/-! ### The ends of store operations -/

theorem jobOf_mem {s : State} {r : RecId} {j : Job} (h : jobOf s r = some j) : j ∈ s.store.jobs := List.mem_of_find?_eq_some h

variable {s : State}

theorem RecordsWith.goOn (h : RecordsWith [] s) {j : Job} (unwritten : j.record ∉ writingRecords s) (op : Operation) :
    RecordsWith [] (goOn j op s) := by
  unfold Machine.goOn
  split
  · exact (h.update (f := fun j => { j with state := .paused }) (fun _ same => same) unwritten).stopped.choose
  · exact h.setRunning fun r op' e => by cases e; exact unwritten

theorem RecordsWith.afterJobErase (h : RecordsWith [] s) {j : Job} (mem : j ∈ s.store.jobs) (unwritten : j.record ∉ writingRecords s) :
    RecordsWith [] (afterJobErase j s) := by
  have replaced (k : Job) (own : k.record = j.record) : RecordsWith [] (updateJob j.record (fun _ => k) s) :=
    h.update (fun _ _ => own) unwritten
  unfold Machine.afterJobErase
  split
  next b bs _ =>
    exact (replaced { j with work := .erases (b :: bs), made := j.made + 1 } rfl).goOn
      (j := { j with work := .erases (b :: bs), made := j.made + 1 }) unwritten _
  next =>
    refine ((replaced { j with work := .erases [], made := j.made + 1 } rfl).stopped.endErases
      (j := { j with work := .erases [], made := j.made + 1 }) (List.mem_map_of_mem mem) ?_ unwritten rfl).choose
    rw [if_pos rfl]

theorem RecordsWith.afterRecoveryErase (h : RecordsWith [] s) (e : Recovery) : RecordsWith [] (afterRecoveryErase e s) := by
  unfold Machine.afterRecoveryErase
  split
  next b bs _ =>
    have replaced : RecordsWith [] (updateRecovery e.slot (b :: bs) s) := h.quiet (updateRecovery_touches _ _ s) (by decide)
    dsimp only
    split
    · exact replaced.stopped.choose
    · exact replaced.recoveryStarts _ _
  next =>
    have gone := h.quiet (setRecovery_touches (s.store.recovery.filter fun x => x.slot ≠ e.slot) s) (by decide)
    exact (gone.stopped.beginDirWrite rfl).choose

theorem RecordsWith.blockEraseEnd (h : RecordsWith [] s) : RecordsWith [] (blockEraseEnd s) := by
  unfold Machine.blockEraseEnd
  split
  next worker b running =>
    have erased := h.quiet (erased_touches b s) (by decide)
    dsimp only
    split
    next r =>
      split
      next j job =>
        obtain rfl := jobOf_record job
        exact erased.afterJobErase (jobOf_mem job) (h.running _ _ running)
      · exact erased.stopped
    next i =>
      split
      · exact erased.afterRecoveryErase _
      · exact erased.stopped
  · exact h

theorem RecordsWith.jobFinished (h : RecordsWith [] s) {j : Job} (mem : j ∈ s.store.jobs) (unwritten : j.record ∉ writingRecords s)
    (status : Nat) (aux : Word) : RecordsWith [] (Machine.finish j.record status aux s) :=
  ⟨h.toRecordsHeld.jobDone mem unwritten status aux _, h.visit.complete _ _ _ _⟩

theorem RecordsWith.writeHostRead (h : RecordsWith [] s) (view : HostView) : RecordsWith [] (writeHostRead view s) := by
  unfold Machine.writeHostRead
  split
  next r p running =>
    split
    next j job =>
      obtain rfl := jobOf_record job
      have unwritten := h.running _ _ running
      split
      · exact (h.stopped.jobFinished (jobOf_mem job) unwritten _ _).choose
      · split
        · exact (h.update (f := fun j => { j with state := if j.made = 0 then .queued else .paused }) (fun _ same => same)
            unwritten).stopped.choose
        · exact h.setRunning fun r op' e => by cases e; exact unwritten
    · exact h.stopped
  · exact h

theorem RecordsWith.afterProgram (h : RecordsWith [] s) {j : Job} (mem : j ∈ s.store.jobs) (unwritten : j.record ∉ writingRecords s) :
    RecordsWith [] (afterProgram j s) := by
  unfold Machine.afterProgram
  split
  next p ps _ =>
    have replaced : RecordsWith [] (updateJob j.record (fun _ => { j with work := .programs (p :: ps), made := j.made + 1 }) s) :=
      h.update (fun _ _ => rfl) unwritten
    exact replaced.goOn (j := { j with work := .programs (p :: ps), made := j.made + 1 }) unwritten _
  next =>
    refine RecordsWith.choose ?_
    unfold finishWrite
    split
    · exact h.stopped.jobFinished mem unwritten _ _
    · exact h.stopped.jobFinished mem unwritten _ _

theorem RecordsWith.pageProgramEnd (h : RecordsWith [] s) : RecordsWith [] (pageProgramEnd s) := by
  unfold Machine.pageProgramEnd
  split
  next r dest data running =>
    have programmed := h.quiet (setContents_touches (storeProgram s.store.contents dest data) s) (by decide)
    dsimp only
    split
    next j job =>
      obtain rfl := jobOf_record job
      exact programmed.afterProgram (jobOf_mem job) (h.running _ _ running)
    · exact programmed.stopped
  · exact h

theorem sealWrite_completes (s : State) (j : Job) (expected : Word) :
    ∃ c, (sealWrite s j expected).completes = some c ∧ c.record = j.record := by
  unfold sealWrite
  split <;> exact ⟨_, rfl, rfl⟩

theorem RecordsWith.sealReadEnd (h : RecordsWith [] s) : RecordsWith [] (sealReadEnd s) := by
  unfold Machine.sealReadEnd
  split
  next r running =>
    split
    next j job =>
      obtain rfl := jobOf_record job
      split
      next expected _ =>
        obtain ⟨c, completes, own⟩ := sealWrite_completes s j expected
        exact (h.stopped.endsJob (jobOf_mem job) (h.running _ _ running) rfl completes own).choose
      · exact h.stopped
    · exact h.stopped
  · exact h

/-! ### Directory writes and recovery -/

/-- The oldest directory write leaves the queue, and the slip it completes is completed. -/
theorem RecordsWith.directoryWriteEnd (h : RecordsWith [] s) : RecordsWith [] (directoryWriteEnd s) := by
  unfold Machine.directoryWriteEnd
  split
  · exact h
  next w ws front =>
    refine RecordsWith.choose ?_
    dsimp only
    have popped : touches [.dirWrites] s (s.setStore { s.store with dirWrites := ws }) :=
      touches_of_same (fun a ha => by cases a <;> first | rfl | exact fun _ => rfl | simp at ha) rfl
    have held : heldRecords (s.setStore { s.store with dirWrites := ws }) = heldRecords s :=
      heldRecords_of_touches popped (by decide) rfl
    have before : writingRecords s = (w.completes.map Completion.record).toList ++
        writingRecords (s.setStore { s.store with dirWrites := ws }) := by
      rw [writingRecords, front, writingRecords]
      cases completes : w.completes <;> simp [completes, State.setStore]
    have rest : RecordsWith [] (s.setStore { s.store with dirWrites := ws }) := by
      have fewer {r : RecId} (hr : r ∈ writingRecords (s.setStore { s.store with dirWrites := ws })) : r ∈ writingRecords s :=
        before ▸ List.mem_append_right _ hr
      exact ⟨⟨fun r => by rw [held]; exact h.once r, fun r hr => h.used r (held ▸ hr),
        (List.nodup_append.mp (before ▸ h.written)).2.1, fun r hr => h.ended r (fewer hr),
        fun r op hr mem => h.running r op hr (fewer mem)⟩, h.visit.of_touches popped (by decide)⟩
    generalize hd : w.change.apply ((s.setStore { s.store with dirWrites := ws }).slot w.slot).record = d
    have recorded := rest.recordSlot w.slot d
    have touch := recordSlot_touches w.slot d (s.setStore { s.store with dirWrites := ws })
    have jobs := touch.same .jobs
    have writing : writingRecords (Machine.recordSlot w.slot d (s.setStore { s.store with dirWrites := ws })) =
        writingRecords (s.setStore { s.store with dirWrites := ws }) := by
      rw [writingRecords, touch.same .dirWrites]
      rfl
    cases completes : w.completes with
    | none => exact recorded
    | some c =>
      rw [completes] at before
      obtain ⟨fresh, -⟩ := List.nodup_cons.mp (before ▸ h.written : (c.record :: _).Nodup)
      obtain ⟨j, mem, own, -⟩ := h.ended c.record (before ▸ List.mem_cons_self)
      have done := recorded.jobFinished (j := j) (jobs.symm ▸ mem) (by rw [own, writing]; exact fresh) c.status c.aux
      rw [own] at done
      exact done

theorem RecordsWith.recoverSlot (h : RecordsWith [] s) (i : SlotId) : RecordsWith [] (recoverSlot s i) := by
  have listed {u : State} (k : RecordsWith [] u) (x : List Recovery) : RecordsWith [] (u.setStore { u.store with recovery := x }) :=
    k.quiet (setRecovery_touches x u) (by decide)
  have begun (c : DirChange) : RecordsWith [] (Machine.beginDirWrite ⟨i, c, none⟩ s) := h.beginDirWrite rfl
  unfold Machine.recoverSlot
  dsimp only
  cases (s.slot i).record.state <;> cases (s.slot i).record.extent
  all_goals first | exact h | exact begun _ | exact listed h _ | exact listed (begun _) _

theorem RecordsWith.storedDirectoryRead (h : RecordsWith [] s) : RecordsWith [] (storedDirectoryRead s) := by
  unfold Machine.storedDirectoryRead
  split
  · exact h
  · have loaded : touches [.slotRecords, .slotUsers, .loaded] s (loadDirectory s) :=
      touches_of_same (fun a ha => by cases a <;> first | rfl | exact fun _ => rfl | simp at ha) rfl
    have mirrored := (h.quiet loaded (by decide)).quiet (mirrorLoaded_touches _) (by decide)
    exact (foldl_keeps (RecordsWith []) _ (fun t i k => k.recoverSlot i) _ _ mirrored).choose

end Sys2Proof.Machine
end

/-! ## Proofs: work records, lanes, assemblies and alerts (8.3, 9.4) -/

section
namespace Sys2Proof.Machine

/-! ### What makes jobs go on -/

theorem wakes_foldl {α : Type} {f : State → α → State} (step : ∀ s a, wakes s (f s a)) (as : List α) (s : State) :
    wakes s (as.foldl f s) :=
  foldl_keeps (fun t => wakes s t) f (fun t a h => h.trans (step t a)) as s (wakes_refl s)

theorem abandonAiring_wakes (l : LaneId) (s : State) : wakes s (abandonAiring l s) := by
  unfold abandonAiring
  dsimp only
  split
  · exact wakes_refl s
  · exact (wakes_of_touches (setCarousel_touches l _ s) (by decide)).trans (retally_wakes _ _ _)

theorem reachLane_wakes (s : State) (pl : PlanLane) : wakes s (reachLane s pl) := by
  have synced := (wakes_of_touches (setTextState_touches pl.entry.lane
    (changeTextSource pl.text (s.lane pl.entry.lane).text) s) (by decide)).trans (wakes_of_touches (setCarousel_touches pl.entry.lane
      (syncShowing pl.picture ((s.setTextState pl.entry.lane (changeTextSource pl.text (s.lane pl.entry.lane).text)).lane
        pl.entry.lane).carousel) _) (by decide))
  unfold reachLane reachCarousel startAiring
  dsimp only
  split
  · split
    · exact synced.trans ((wakes_of_touches (setCarousel_touches _ _ _) (by decide)).trans (retally_wakes _ _ _))
    · exact synced
  · exact synced

theorem goOnFetching_wakes (p : Plan) (c : Carriage) (s : State) : wakes s (goOnFetching p c s) := by
  unfold goOnFetching
  split
  · exact (wakes_foldl reachLane_wakes p.lanes s).trans (wakes_of_touches (setAssembler_touches _ _) (by decide))
  · exact wakes_of_touches (setAssembler_touches _ s) (by decide)

theorem laneFetch_wakes (l : LaneId) (h : HostView) (s : State) : wakes s (laneFetch l h s) := by
  unfold laneFetch
  split
  · exact wakes_of_touches (straggle_touches _ h s) (by decide)
  split
  · split
    · unfold assemblyFetch
      dsimp only
      split
      · exact (wakes_of_touches (fetchUnit_touches l _ h s) (by decide)).trans (goOnFetching_wakes _ _ _)
      · exact goOnFetching_wakes _ _ s
    · exact wakes_refl s
  · exact wakes_refl s
  · exact wakes_refl s

theorem takeField_wakes (id : Byte) (s : State) (lf : LaneId × Field) : wakes s (takeField id s lf) := by
  have taken (t : State) : t.store = s.store → wakes s t := fun same =>
    ⟨⟨fun j => j, by rw [same, List.map_id'], fun _ => ⟨rfl, fun h => h⟩⟩, by rw [writingRecords, same]; rfl⟩
  unfold takeField
  dsimp only
  split
  · exact (taken _ rfl).trans (abandonAiring_wakes _ _)
  · exact taken _ rfl

theorem holdPicture_wakes (a : Alert) (s : State) : wakes s (holdPicture a s) := by
  unfold holdPicture
  split
  · exact wakes_refl s
  · exact (retally_wakes _ _ s).trans (wakes_of_touches (setHold_touches _ _) (by decide))

theorem commitPicture_wakes (s : State) (lc : LaneCarriage) : wakes s (commitPicture s lc) := by
  have pieces : wakes s (commitPieces lc s) := by
    unfold commitPieces commitOwnPieces
    dsimp only
    split
    · exact wakes_refl s
    split
    · exact wakes_refl s
    split
    · split
      · exact wakes_refl s
      split
      · split
        · exact (wakes_of_touches (setCarousel_touches _ _ s) (by decide)).trans (retally_wakes _ _ _)
        · exact wakes_of_touches (setCarousel_touches _ _ s) (by decide)
      · exact wakes_refl s
    · exact wakes_of_touches (commitAlertPieces_touches _ _ _ s) (by decide)
  unfold commitPicture
  dsimp only
  split
  · exact pieces.trans (wakes_of_touches (countStall_touches _ _) (by decide))
  · exact pieces

theorem commitPlace_wakes (p : Plan) (counter : Word) (s : State) (i : PlaceId) : wakes s (commitPlace p counter s i) := by
  have placed (t : State) (x : Option Alert) : wakes t (writeAlertMirror i (setPlace i x t)) :=
    (wakes_of_touches (setPlace_touches i x t) (by decide)).trans (wakes_of_touches (touches_postRecord _ _ _) (by decide))
  have released (a : Alert) : wakes s (releasePicture a s) := by
    unfold releasePicture
    split
    · exact wakes_refl s
    · exact (retally_wakes _ _ s).trans (wakes_of_touches (setHold_touches _ _) (by decide))
  unfold commitPlace
  split
  · exact wakes_refl s
  split
  · split
    · exact placed s _
    · exact wakes_refl s
  · exact wakes_refl s
  · split
    · exact wakes_refl s
    · exact (released _).trans (placed _ _)

theorem commitFrame_wakes (p : Plan) (c : Carriage) (s : State) : wakes s (commitFrame p c s) := by
  have moved (t : State) : touches [.poolCursor] t (t.setCursor c.cursorNext) :=
    touches_of_same (fun a ha => by cases a <;> first | rfl | exact fun _ => rfl | simp at ha) rfl
  exact (((((wakes_of_touches (touches_foldl countAired_touches c.fetched s) (by decide)).trans (wakes_of_touches
    (touches_foldl countFiller_touches c.lanes _) (by decide))).trans (wakes_of_touches (touches_foldl commitCredit_touches c.lanes _) (by decide))).trans
    (wakes_of_touches (moved _) (by decide))).trans (wakes_of_touches (commitTexts_touches c _) (by decide))).trans
    ((wakes_foldl commitPicture_wakes c.lanes _).trans (wakes_foldl (commitPlace_wakes p p.counter) _ _))

/-! ### Lane and carousel slips -/

variable {s : State} {r : RecId}

theorem RecordsWith.finishUnstated {xs : List RecId} (h : RecordsWith (r :: xs) s) (status : Nat) :
    RecordsWith xs (finishUnstated r status s) := recordsWith_passes.finishUnstated h status

theorem RecordsWith.actLaneRetire (h : RecordsWith [r] s) (w : WorkRecord) (l : LaneId) :
    RecordsWith [] (actLaneRetire r w l s) := by
  unfold Machine.actLaneRetire
  split
  · exact h.finishUnstated _
  split
  · exact h.finishUnstated _
  split
  · exact h.finishUnstated _
  · have retiring : RecordsWith [r] (retiring l s) :=
      ((h.quiet (returnPage_touches l .retired s) (by decide)).quiet (dropStraggler_touches l _) (by decide)).quiet (touches_anyLane l _ _) (by decide)
    rw [retireLane_eq]
    exact ((retiring.retally _ _).quiet (touches_postRecord _ _ _) (by decide)).finishUnstated _ |>.choose

theorem RecordsWith.actCarSet (h : RecordsWith [r] s) (w : WorkRecord) (l : LaneId) : RecordsWith [] (actCarSet r w l s) := by
  unfold Machine.actCarSet
  dsimp only
  split
  · exact h.finish _ _
  split
  · exact h.finish _ _
  split
  · exact h.finish _ _
  split
  · exact h.finish _ _
  · exact ((h.quiet (setCarousel_touches l _ s) (by decide)).retally _ _).finish _ _

/-! ### Raises -/

theorem RecordsWith.applyRaise (h : RecordsWith [r] s) (q : Raise) (t : TextRead) {p : PlaceId} (free : s.alerts.places[p] = none) :
    RecordsWith [] (applyRaise r q t p s) := by
  let a := newAlert s r q t
  have placed : RecordsWith [] (setPlace p (some a) s) := by
    refine h.wake (setPlace_touches p (some a) s) (wakes_of_touches (setPlace_touches p (some a) s) (by decide)) (fun b => ?_)
      (by decide)
    have set := count_waiting_set s.alerts.places p (some a) b
    have before : waitingAt s.alerts.places[p] = [] := by simp [waitingAt, free]
    have after : waitingAt (some a) = [r] := rfl
    rw [before, after] at set
    rw [count_held, count_held]
    simp only [setPlace, State.setAlerts, List.count_nil] at set ⊢
    omega
  have taken : RecordsWith [] (raised q a p s) := placed.woken
    ((touches_foldl (takeField_touches q.id) (takenFields q) _).trans (zs := .hold :: takeAspects) (holdPicture_touches a _))
    ((wakes_foldl (takeField_wakes q.id) (takenFields q) _).trans (holdPicture_wakes a _)) (by decide)
  rw [applyRaise_eq]
  exact (taken.quiet (touches_postRecord _ _ _) (by decide)).choose

theorem RecordsWith.decideRaise (h : RecordsWith [r] s) (q : Raise) (t : TextRead) : RecordsWith [] (decideRaise r q t s) := by
  obtain ⟨status, aux, refused⟩ | ⟨p, -, free, applied⟩ := decideRaise_cases r q t s
  · rw [refused]
    exact h.finish _ _
  · rw [applied]
    exact h.applyRaise q t free

theorem RecordsWith.actAlertRaise (h : RecordsWith [r] s) (w : WorkRecord) : RecordsWith [] (actAlertRaise r w s) := by
  unfold Machine.actAlertRaise
  split
  · refine recordsWith_passes.move h (touches_setAlerts_checking (some r) s) (fun a => ?_) (by decide)
    rw [count_held, count_held]
    simp only [State.setAlerts, List.count_cons, List.count_nil, Option.toList]
    omega
  · exact h.decideRaise _ _

theorem RecordsWith.alertRaiseApply (h : RecordsWith [] s) (view : HostView) : RecordsWith [] (alertRaiseApply view s) := by
  unfold Machine.alertRaiseApply
  split
  · exact h
  next r checking =>
    have taken : RecordsWith [r] (s.setAlerts { s.alerts with checking := none }) := by
      refine recordsWith_passes.move h (touches_setAlerts_checking none s) (fun a => ?_) (by decide)
      rw [count_held, count_held]
      simp only [State.setAlerts, checking, List.count_cons, List.count_nil, Option.toList]
      omega
    dsimp only
    split
    next unused => exact absurd unused (taken.used r List.mem_cons_self)
    next w _ => exact taken.decideRaise _ _

/-! ### Assemblies -/

theorem RecordsWith.switchOver {xs : List RecId} (h : RecordsWith xs s) : RecordsWith xs (switchOver s) := by
  refine recordsWith_passes.move h (switchOver_touches s) (fun a => ?_) (by decide)
  rw [count_held, count_held]
  unfold Machine.switchOver
  split
  next p pending =>
    split
    · simp only [State.setMaps, State.setLanes, pending, List.count_nil, Option.toList, Option.map]
      omega
    · exact Nat.le_refl _
  · exact Nat.le_refl _

theorem RecordsWith.beginAssembly {xs : List RecId} (h : RecordsWith xs s) : RecordsWith xs (beginAssembly s) := by
  rw [beginAssembly_eq]
  exact h.switchOver.woken (goOnFetching_touches _ _ _) (goOnFetching_wakes _ _ _) (by decide)

theorem RecordsWith.laneFetch (h : RecordsWith [] s) (l : LaneId) (view : HostView) : RecordsWith [] (laneFetch l view s) :=
  h.woken (laneFetch_touches l view s) (laneFetch_wakes l view s) (by decide)

/-! ### Sends -/

theorem RecordsWith.announceSent {xs : List RecId} (h : RecordsWith xs s) (k : Nat) : RecordsWith xs (announceSent k s) := by
  refine recordsWith_passes.move h (announceSent_touches k s) (fun a => ?_) (by decide)
  rw [count_held, count_held]
  unfold Machine.announceSent
  split
  · exact Nat.le_refl _
  next p pending =>
    split
    · simp only [State.setMaps, pending, Option.map]
      omega
    · exact Nat.le_refl _

theorem RecordsWith.sendVoid (h : RecordsWith [] s) : RecordsWith [] (sendVoid s) := by
  have paced (t : State) : touches [.laneText] t (t.setLanes (t.lanes.map fun x => { x with text := paceOn x.text })) :=
    touches_setLanes fun l a ha => by
      rw [Fin.getElem_fin, Vector.getElem_map]
      cases a <;> first | rfl | trivial
  rw [sendVoid_eq]
  exact recordsWith_passes.completeSwitched ((((h.quiet (voidStart_touches s) (by decide)).announceSent _).quiet (paced _) (by decide)).quiet
    (touches_postRecord _ _ _) (by decide)) _

/-- The slip of the alert of a place that a send completes. -/
def endsAt (p : Plan) (a : Alert) : Option RecId :=
  match a.state with
  | .raised => if p.holds a then some a.raiseRecord else none
  | .onAir => none
  | .ending => if p.holds a then none else a.endRecord

/-- A send completes the slip of an alert, or leaves the alert waiting for it. -/
theorem placeAfterSend_waiting (p : Plan) (counter : Word) (a : Alert) :
    (endsAt p a).toList ++ waitingAt (placeAfterSend p counter (some a)) = waitingAt (some a) := by
  simp only [endsAt, placeAfterSend, holds_iff, waitingAt]
  cases state : a.state <;> cases holds : p.holds a <;> simp [Alert.waiting, state]

theorem count_placeAfterSend (p : Plan) (counter : Word) (r : RecId) : ∀ places : List (Option Alert),
    ((places.filterMap id).filterMap (endsAt p)).count r +
      (((places.map (placeAfterSend p counter)).filterMap id).filterMap Alert.waiting).count r =
      ((places.filterMap id).filterMap Alert.waiting).count r
  | [] => rfl
  | none :: places => count_placeAfterSend p counter r places
  | some a :: places => by
    have rest := count_placeAfterSend p counter r places
    have here := congrArg (List.count r) (placeAfterSend_waiting p counter a)
    have one (x : Option Alert) (xs : List (Option Alert)) : (((x :: xs).filterMap id).filterMap Alert.waiting) =
        waitingAt x ++ (xs.filterMap id).filterMap Alert.waiting := by
      cases x with
      | none => rfl
      | some b => cases waiting : b.waiting <;> simp [waitingAt, waiting]
    have ends : ((some a :: places).filterMap id).filterMap (endsAt p) =
        (endsAt p a).toList ++ (places.filterMap id).filterMap (endsAt p) := by
      cases ends : endsAt p a <;> simp [ends]
    rw [List.map_cons, one, one, ends]
    simp only [List.count_append] at here ⊢
    omega

theorem commitFrame_placesList (p : Plan) (c : Carriage) (s : State) :
    (commitFrame p c s).alerts.places.toList = s.alerts.places.toList.map (placeAfterSend p p.counter) := by
  rw [← Vector.toList_map]
  congr 1
  refine Vector.ext fun i hi => ?_
  rw [Vector.getElem_map]
  exact commitFrame_places p c s ⟨i, hi⟩

theorem RecordsWith.commitFrame (h : RecordsWith [] s) (p : Plan) (c : Carriage) :
    RecordsWith (alertCompletions p s) (commitFrame p c s) := by
  have touch := commitFrame_touches p c s
  have woken := commitFrame_wakes p c s
  have jobs : (Machine.commitFrame p c s).store.jobs.map Job.record = s.store.jobs.map Job.record := by
    obtain ⟨⟨f, jobs, kept⟩, -⟩ := woken
    rw [jobs, List.map_map]
    exact List.map_congr_left fun j _ => (kept j).1
  refine h.wake touch woken (fun r => Nat.le_of_eq ?_) (by decide)
  have sent := count_placeAfterSend p p.counter r s.alerts.places.toList
  have slips : alertCompletions p s = (s.alerts.places.toList.filterMap id).filterMap (endsAt p) := rfl
  rw [count_held, count_held, touch.same .laneSlips, touch.same .mapLoads, touch.same .mapChecking, touch.same .upcoming,
    touch.same .switched, touch.same .textQueue, touch.same .putting, touch.same .carouselQueue, touch.same .storeQueue, jobs,
    touch.same .alertQueue, touch.same .raiseChecking, commitFrame_placesList, slips, List.count_nil]
  omega

theorem RecordsWith.airPull (h : RecordsWith [] s) (begun : List LaneId) : RecordsWith [] (airPull begun s) := by
  obtain same | void | late | ⟨p, c, frame, -, sent⟩ := airPull_cases begun s
  · rw [same]
    exact h
  · rw [void]
    exact h.sendVoid
  · rw [late]
    exact ((h.sendVoid.quiet (dropAssembly_touches begun _) (by decide)).quiet (raiseNotice_touches _ _) (by decide)).beginAssembly
  · have counted (t : State) (n : Word) : touches [.counter] t (t.setFrames { t.frames with counter := n }) :=
      touches_of_same (fun a ha => by cases a <;> first | rfl | exact fun _ => rfl | simp at ha) rfl
    have start : RecordsWith [] (sendStart p frame s) :=
      ((h.quiet (setAirData_touches (.sending frame) s) (by decide)).quiet (counted _ _) (by decide)).announceSent _
    have slips : alertCompletions p (sendStart p frame s) = alertCompletions p s := by
      unfold alertCompletions
      rw [activeAlerts_congr ((sendStart_touches p frame s).same .places)]
    have committed := start.commitFrame p c
    rw [slips] at committed
    rw [sent]
    have mirrored := committed.quiet (writeSendMirrors_touches p c _) (by decide)
    have completed := recordsWith_passes.completeAt p.counter (alertCompletions p s) (xs := [])
      (by rw [List.append_nil]; exact mirrored)
    exact (recordsWith_passes.completeSwitched completed p.counter).choose.beginAssembly

end Sys2Proof.Machine
end

/-! ## Proofs: work records and the Slip Reader, and every step (9.3, 9.4) -/

section
namespace Sys2Proof.Machine

/-! ### Sweeps -/

theorem RecordsHeld.quiet {xs : List RecId} {as : List Aspect} {s t : State} (h : RecordsHeld xs s) (touch : touches as s t)
    (away : ∀ a ∈ heldAspects ++ workAspects, a ∉ as) : RecordsHeld xs t := by
  have held : heldRecords t = heldRecords s := heldRecords_of_touches touch
    (fun a ha => away a (List.mem_append_left _ ha)) (by rw [touch.same .jobs (away _ (by decide))])
  exact h.move touch (fun r => by rw [held]) fun a ha => away a (List.mem_append_right _ ha)

/-- A sweep that visits no slip reads into no record. -/
theorem visitFree_of_sweep {s : State} (h : s.reader.sweep.record? = none) : visitFree s := fun r i rest last visiting => by
  rw [visiting] at h
  cases h

theorem endSweep_visitFree (s : State) : visitFree (endSweep s) := by
  refine visitFree_of_sweep ?_
  unfold endSweep
  split <;> rfl

theorem nextVisit_visitFree (rest : List SlipId) (s : State) : visitFree (nextVisit rest s) := by
  unfold nextVisit
  split
  · exact endSweep_visitFree s
  · dsimp only
    split
    · exact endSweep_visitFree _
    next r free =>
      have unused : s.work r = none := by
        have free := List.find?_some free
        rw [recordFree, Bool.and_eq_true] at free
        exact Option.isNone_iff_eq_none.mp free.1
      intro q i rest last visiting
      cases visiting
      exact unused

theorem afterVisit_visitFree (rest : List SlipId) (last : Bool) (s : State) : visitFree (afterVisit rest last s) := by
  unfold afterVisit
  split
  · exact endSweep_visitFree s
  · exact nextVisit_visitFree rest s

variable {s : State}

theorem RecordsHeld.endSweep (h : RecordsHeld [] s) : RecordsWith [] (endSweep s) :=
  ⟨h.quiet (endSweep_touches s) (by decide), endSweep_visitFree s⟩

theorem RecordsHeld.afterVisit (h : RecordsHeld [] s) (rest : List SlipId) (last : Bool) :
    RecordsWith [] (afterVisit rest last s) := ⟨h.quiet (afterVisit_touches rest last s) (by decide), afterVisit_visitFree rest last s⟩

theorem RecordsWith.beginSweep (h : RecordsWith [] s) : RecordsWith [] (beginSweep s) :=
  ⟨h.toRecordsHeld.quiet (setSweep_touches _ s) (by decide), visitFree_of_sweep rfl⟩

theorem RecordsWith.triggerSweep (h : RecordsWith [] s) : RecordsWith [] (triggerSweep s) := by
  unfold Machine.triggerSweep
  split
  · exact h.beginSweep
  · exact h.quiet (setOwed_touches true s) (by decide)

theorem RecordsWith.timerExpiry (h : RecordsWith [] s) : RecordsWith [] (timerExpiry s) := by
  unfold Machine.timerExpiry
  split
  · exact (h.quiet (setTimer_touches _ s) (by decide)).triggerSweep
  · exact h

theorem RecordsWith.sweepHandRead (h : RecordsWith [] s) (view : HostView) : RecordsWith [] (sweepHandRead view s) := by
  unfold Machine.sweepHandRead
  split
  · split
    · exact h.toRecordsHeld.endSweep.quiet (raiseNotice_touches _ _) (by decide)
    · exact ⟨h.toRecordsHeld.quiet (nextVisit_touches _ s) (by decide), nextVisit_visitFree _ s⟩
  · exact h
  · exact h

theorem RecordsWith.haltSweep (h : RecordsWith [] s) : RecordsWith [] (haltSweep s) := by
  unfold Machine.haltSweep
  split
  · exact h
  · exact ⟨h.toRecordsHeld.quiet (setSweep_touches _ s) (by decide), visitFree_of_sweep rfl⟩
  next r i rest last visiting =>
    refine ⟨h.toRecordsHeld.quiet (setSweep_touches _ s) (by decide), fun q i' rest' last' visiting' => ?_⟩
    cases visiting'
    exact h.visit r i rest last visiting

theorem RecordsWith.owedSweep (h : RecordsWith [] s) : RecordsWith [] (owedSweep s) := by
  unfold Machine.owedSweep
  split
  · exact (h.quiet (setOwed_touches false s) (by decide)).beginSweep
  · exact h

theorem RecordsWith.writeRunctl (h : RecordsWith [] s) (run : Bool) (ms : Byte) (begun : List LaneId) :
    RecordsWith [] (writeRunctl run ms begun s) := by
  have written := h.quiet (setRunctl_touches run ms s) (by decide)
  unfold Machine.writeRunctl
  dsimp only
  split
  · unfold retime
    split
    · exact written.quiet (setTimer_touches _ _) (by decide)
    · exact written
  split
  · exact ((written.quiet (firstRun_touches _) (by decide)).owedSweep.quiet (setTimer_touches _ _) (by decide)).beginAssembly
  · exact (written.quiet (stopTimer_touches _) (by decide)).haltSweep.quiet (dropAssembly_touches begun _) (by decide)

/-! ### Visits -/

/-- A slip as read fills a free record. -/
theorem RecordsHeld.fill (h : RecordsHeld [] s) {r : RecId} (free : s.work r = none) (w : WorkRecord) :
    RecordsHeld [r] (fillRecord r w s) := by
  have touch := fillRecord_touches r w s
  have held : heldRecords (fillRecord r w s) = heldRecords s := heldRecords_of_touches touch (by decide) rfl
  have fresh : r ∉ heldRecords s := fun mem => h.used r mem free
  refine ⟨fun q => ?_, fun q hq => ?_, h.written, h.ended, h.running⟩
  · rw [held]
    exact List.nodup_iff_count_le_one.mp (List.nodup_cons.mpr ⟨fresh, h.nodup⟩) q
  · rw [fillRecord_work]
    split
    · nofun
    next other =>
      rw [held] at hq
      exact h.used q ((List.mem_cons.mp hq).resolve_left other)

theorem RecordsHeld.dispatchTo {r : RecId} (h : RecordsHeld [r] s) (o : Owner) : RecordsHeld [] (dispatchTo o r s) := by
  refine h.move (dispatchTo_touches o r s) (fun a => ?_) (by decide)
  rw [count_held, count_held]
  cases o <;> simp only [Machine.dispatchTo, State.setMaps, State.setText, State.setCarousels, State.setStore, State.setAlerts,
    List.count_append, List.count_nil] <;> omega

theorem RecordsHeld.decideTake {r : RecId} (h : RecordsHeld [r] s) (w : WorkRecord) : RecordsHeld [] (decideTake r w s) := by
  unfold Machine.decideTake
  split
  · exact recordsHeld_passes.finish h _ _
  split
  · exact recordsHeld_passes.finish h _ _
  split
  · exact recordsHeld_passes.finish h _ _
  · exact h.dispatchTo _

theorem RecordsHeld.visitSlip (h : RecordsHeld [] s) {r : RecId} (free : s.work r = none) (i : SlipId) (slip : List Byte) :
    RecordsHeld [] (visitSlip r i slip s) := by
  have filled := h.fill free (parseSlip i slip)
  have taken : RecordsHeld [] (takeSlip r i (parseSlip i slip) s) :=
    ((filled.quiet (touches_postRecord _ _ _) (by decide)).quiet (setSweepCursor_touches _ _) (by decide)).decideTake _
  unfold Machine.visitSlip
  dsimp only
  split
  · exact h
  split
  · exact h
  split
  · exact taken
  · exact taken
  · split
    · exact (recordsHeld_passes.finish filled _ _).quiet (setSweepCursor_touches _ _) (by decide)
    · exact h

theorem RecordsWith.slipVisit (h : RecordsWith [] s) (view : HostView) : RecordsWith [] (slipVisit view s) := by
  unfold Machine.slipVisit
  split
  next r i rest last visiting =>
    split
    · exact (h.toRecordsHeld.quiet (setSweepCursor_touches i s) (by decide)).endSweep.quiet (raiseNotice_touches _ _) (by decide)
    · exact (h.toRecordsHeld.visitSlip (h.visit r i rest last visiting) i _).afterVisit rest last
  · exact h
  · exact h

/-! ### Every step -/

theorem resetKeeping_recordsWith (regs : Registers) (s : State) : RecordsWith [] (resetKeeping regs s) := by
  have held : heldRecords (resetKeeping regs s) = [] := rfl
  have writing : writingRecords (resetKeeping regs s) = [] := rfl
  exact ⟨⟨fun r => by rw [held]; exact Nat.zero_le _, by rw [held]; nofun, by rw [writing]; exact List.nodup_nil,
    by rw [writing]; nofun, fun r op => nofun⟩, visitFree_of_sweep rfl⟩

theorem exec_recordsWith (c : Instr) (s t : State) (h : RecordsWith [] s) (hs : exec c s = .next t) : RecordsWith [] t := by
  have touch := touches_of_exec hs
  have pass := recordsWith_passes
  cases c
  case powerOnReset => cases hs; exact resetKeeping_recordsWith _ s
  case softReset => cases hs; exact resetKeeping_recordsWith _ s
  case runSet ms => cases hs; exact h.writeRunctl _ _ _
  case runClear ms begun => cases hs; exact h.writeRunctl _ _ _
  case sweepMsWrite ms => cases hs; exact h.writeRunctl _ _ _
  case prompt => cases hs; exact h.triggerSweep
  case sweepTimerExpiry => cases hs; exact h.timerExpiry
  case sweepHandRead view => cases hs; exact h.sweepHandRead view
  case slipVisit view => cases hs; exact h.slipVisit view
  case laneSetup => cases hs; exact pass.laneSlip (fun r w l u hu => pass.actLaneSetup hu w l) h
  case laneRetire => cases hs; exact pass.laneSlip (fun r w l u hu => hu.actLaneRetire w l) h
  case laneHalt => cases hs; exact pass.laneSlip (fun r w l u hu => pass.actLaneHalt hu w l) h
  case laneResume => cases hs; exact pass.laneSlip (fun r w l u hu => pass.actLaneResume hu w l) h
  case mapLoad => cases hs; exact pass.mapLoad h
  case mapTableRead view => cases hs; exact pass.mapTableRead h view
  case textPut => cases hs; exact pass.textSlip (fun r w l u hu => pass.actTextPut hu w l) h
  case textPutApply view => cases hs; exact pass.textPutApply h view
  case textDrop => cases hs; exact pass.textSlip (fun r w l u hu => pass.actTextDrop hu w l) h
  case textClear => cases hs; exact pass.textSlip (fun r w l u hu => pass.actTextClear hu w l) h
  case carSet => cases hs; exact pass.carouselSlip (fun r w l u hu => hu.actCarSet w l) h
  case carJump => cases hs; exact pass.carouselSlip (fun r w l u hu => pass.actCarJump hu w l) h
  case picOpen => cases hs; exact pass.picSlip (fun r w u _ hu => hu.actPicOpen w) h
  case picWrite => cases hs; exact pass.picSlip (fun r w u _ hu => hu.actPicWrite w) h
  case picSeal => cases hs; exact pass.picSlip (fun r w u _ hu => hu.actPicSeal w) h
  case picDrop => cases hs; exact pass.picSlip (fun r w u _ hu => hu.actPicDrop w) h
  case alertRaise => cases hs; exact pass.alertSlip (fun r w u hu => hu.actAlertRaise w) h
  case alertRaiseApply view => cases hs; exact h.alertRaiseApply view
  case alertEnd => cases hs; exact pass.alertSlip (fun r w u hu => pass.actAlertEnd hu w) h
  case blockEraseEnd => cases hs; exact h.blockEraseEnd
  case writeHostRead view => cases hs; exact h.writeHostRead view
  case pageProgramEnd => cases hs; exact h.pageProgramEnd
  case sealReadEnd => cases hs; exact h.sealReadEnd
  case directoryWriteEnd => cases hs; exact h.directoryWriteEnd
  case storedDirectoryRead => cases hs; exact h.storedDirectoryRead
  case airPull begun => cases hs; exact h.airPull begun
  case laneFetch l view => cases hs; exact h.laneFetch l view
  all_goals exact h.quiet touch (by dsimp only [touched]; decide)

theorem exec_recordsSound (c : Instr) (s t : State) (h : RecordsSound s) (hs : exec c s = .next t) : RecordsSound t :=
  (recordsSound_iff t).mpr (exec_recordsWith c s t ((recordsSound_iff s).mp h) hs)

end Sys2Proof.Machine
end

/-! ## Proofs: user counts and the references they count (7.4)

`Refs A s` says that the user counts are the carousels' references and, for each slot, `A` more: those of the alerts, as far as
their part of a command has been done. -/

section
namespace Sys2Proof.Machine

/-! ### Before the stored directory has been read -/

/-- What `UsersSound` says of the store until the stored directory has been read. -/
def unread (s : State) : Prop := s.store.loaded = false → (∀ i, s.slot i = .vacant) ∧ s.store.jobs = [] ∧
  s.store.running = none ∧ s.store.recovery = [] ∧ s.store.dirWrites = []

theorem unread_of_loaded {s : State} (h : s.store.loaded = true) : unread s := fun no => by
  rw [h] at no
  cases no

theorem unread.running {s : State} (h : unread s) (no : s.store.loaded = false) : s.store.running = none := by
  obtain ⟨-, -, running, -⟩ := h no
  exact running

theorem unread.dirWrites {s : State} (h : unread s) (no : s.store.loaded = false) : s.store.dirWrites = [] := by
  obtain ⟨-, -, -, -, dirWrites⟩ := h no
  exact dirWrites

/-- What `unread` reads. -/
def unreadAspects : List Aspect := [.slotRecords, .slotUsers, .loaded, .jobs, .running, .recovery, .dirWrites]

theorem unread.of_touches {xs : List Aspect} {s t : State} (h : unread s) (touch : touches xs s t)
    (away : ∀ a ∈ unreadAspects, a ∉ xs) : unread t := fun no => by
  rw [touch.same .loaded (away _ (by decide))] at no
  obtain ⟨slots, jobs, running, recovery, dirWrites⟩ := h no
  refine ⟨fun i => ?_, (touch.same .jobs (away _ (by decide))).trans jobs, (touch.same .running (away _ (by decide))).trans running,
    (touch.same .recovery (away _ (by decide))).trans recovery, (touch.same .dirWrites (away _ (by decide))).trans dirWrites⟩
  rw [State.slot, touch.slots fun a ha => away a (by revert a; decide)]
  exact slots i

theorem unread.complete {s : State} (h : unread s) (r : RecId) (status : Nat) (aux frame : Word) :
    unread (complete r status aux frame s) := fun no => by
  have touch := complete_touches r status aux frame s
  rw [touch.same .loaded] at no
  obtain ⟨slots, jobs, running, recovery, dirWrites⟩ := h no
  refine ⟨fun i => ?_, ?_, (touch.same .running).trans running, (touch.same .recovery).trans recovery,
    (touch.same .dirWrites).trans dirWrites⟩
  · rw [State.slot, touch.slots]
    exact slots i
  · by_cases used : s.work r = none
    · rw [complete_none _ _ _ _ _ used]
      exact jobs
    · rw [complete_jobs used, jobs]
      rfl

theorem unread_passes : Passes fun _ s => unread s where
  move h touch _ away := h.of_touches touch fun a ha => away a (by revert a; decide)
  done status aux frame h := h.complete _ status aux frame

theorem unread.choose {s : State} (h : unread s) : unread (choose s) := fun no => by
  rw [(choose_touches s).same .loaded] at no
  have empty := h no
  obtain ⟨-, jobs, running, recovery, -⟩ := empty
  have idle : storeIdle s := ⟨running, by rw [recovery]; nofun, by rw [jobs]; nofun⟩
  rw [choose_nothing idle]
  exact h no

/-! ### The references of the carousels -/

theorem carouselUses_eq (c : Carousel) : carouselUses c = c.entries ++ (c.airing.map Airing.slot).toList := by
  unfold carouselUses
  cases c.airing <;> rfl

/-- How often the carousels refer to a slot. -/
def carRefs (s : State) (i : SlotId) : Nat := ∑ l : LaneId, (carouselUses (s.lane l).carousel).count i

theorem sum_lanes (s : State) (f : Lane → Nat) : (s.lanes.toList.map f).sum = ∑ l : LaneId, f (s.lane l) := by
  have listed : s.lanes.toList = (List.finRange 24).map s.lane :=
    List.ext_getElem (by simp) fun k _ _ => by simp [State.lane]
  rw [Fin.sum_univ_def, listed, List.map_map]
  rfl

theorem carRefs_eq (s : State) (i : SlotId) :
    (s.lanes.toList.map fun x => (carouselUses x.carousel).count i).sum = carRefs s i := sum_lanes s _

theorem carRefs_congr {s t : State} (h : ∀ l, (t.lane l).carousel = (s.lane l).carousel) (i : SlotId) : carRefs t i = carRefs s i :=
  Finset.sum_congr rfl fun l _ => by rw [h l]

/-- The carousel of one lane replaced. -/
theorem carRefs_lane {s t : State} {l : LaneId} (others : ∀ k, k ≠ l → (t.lane k).carousel = (s.lane k).carousel) (i : SlotId) :
    carRefs t i + (carouselUses (s.lane l).carousel).count i = carRefs s i + (carouselUses (t.lane l).carousel).count i := by
  have rest : ∑ k ∈ Finset.univ.erase l, (carouselUses (t.lane k).carousel).count i =
      ∑ k ∈ Finset.univ.erase l, (carouselUses (s.lane k).carousel).count i :=
    Finset.sum_congr rfl fun k hk => by rw [others k (Finset.ne_of_mem_erase hk)]
  have before := Finset.add_sum_erase Finset.univ (fun k => (carouselUses (s.lane k).carousel).count i) (Finset.mem_univ l)
  have after := Finset.add_sum_erase Finset.univ (fun k => (carouselUses (t.lane k).carousel).count i) (Finset.mem_univ l)
  unfold carRefs
  omega

theorem count_le_carRefs (s : State) (l : LaneId) (i : SlotId) : (carouselUses (s.lane l).carousel).count i ≤ carRefs s i :=
  Finset.single_le_sum (f := fun k => (carouselUses (s.lane k).carousel).count i) (fun _ _ => Nat.zero_le _) (Finset.mem_univ l)

/-- A lane's record has no references if the lane is UNUSED. -/
def Lane.clean (x : Lane) : Prop := x.state = .unused → x.carousel.entries = [] ∧ x.carousel.airing = none

/-- The user counts are the carousels' references and `A` more; with it, what makes it hold. -/
structure Refs (A : SlotId → Nat) (s : State) : Prop where
  users : ∀ i, (s.slot i).users = carRefs s i + A i
  clean : ∀ l, (s.lane l).clean
  idle  : unread s

section
variable {A B : SlotId → Nat} {s t : State}

/-- What leaves carousels, lane states and user counts alone keeps the references. -/
theorem Refs.kept {xs : List Aspect} (h : Refs A s) (touch : touches xs s t) (idle : unread t)
    (away : ∀ a ∈ [Aspect.laneState, .carousel, .slotUsers], a ∉ xs) : Refs A t := by
  have carousel : ∀ l, (t.lane l).carousel = (s.lane l).carousel := touch.same .carousel (away _ (by decide))
  have state : ∀ l, (t.lane l).state = (s.lane l).state := touch.same .laneState (away _ (by decide))
  refine ⟨fun i => ?_, fun l unused => ?_, idle⟩
  · rw [touch.same .slotUsers (away _ (by decide)) i, h.users, carRefs_congr carousel]
  · rw [carousel]
    exact h.clean l (state l ▸ unused)

theorem Refs.quiet {xs : List Aspect} (h : Refs A s) (touch : touches xs s t)
    (away : ∀ a ∈ [Aspect.laneState, .carousel] ++ unreadAspects, a ∉ xs) : Refs A t :=
  h.kept touch (h.idle.of_touches touch fun a ha => away a (List.mem_append_right _ ha)) fun a ha => away a (by revert a; decide)

theorem Refs.complete (h : Refs A s) (r : RecId) (status : Nat) (aux frame : Word) : Refs A (complete r status aux frame s) :=
  h.kept (complete_touches r status aux frame s) (h.idle.complete r status aux frame) (by decide)

theorem Refs.finish (h : Refs A s) (r : RecId) (status : Nat) (aux : Word) : Refs A (finish r status aux s) :=
  h.complete r status aux _

theorem Refs.finishUnstated (h : Refs A s) (r : RecId) (status : Nat) : Refs A (finishUnstated r status s) :=
  (h.quiet (setDraws_touches (s.draws + 1) s) (by decide)).finish r status _

theorem Refs.choose (h : Refs A s) : Refs A (choose s) := h.kept (choose_touches s) h.idle.choose (by decide)

/-- Before the stored directory has been read nothing refers to a slot. -/
theorem Refs.unreferenced (h : Refs A s) (no : s.store.loaded = false) (i : SlotId) : carRefs s i = 0 ∧ A i = 0 := by
  have users := h.users i
  rw [(h.idle no).1 i] at users
  have vacant : Slot.vacant.users = 0 := rfl
  omega

theorem Refs.no_uses (h : Refs A s) (no : s.store.loaded = false) (l : LaneId) : carouselUses (s.lane l).carousel = [] :=
  List.eq_nil_iff_forall_not_mem.mpr fun i mem => by
    have some := List.count_pos_iff.mpr mem
    have le := count_le_carRefs s l i
    have none := (h.unreferenced no i).1
    omega

/-- References go and come, and the counts are moved by them. -/
theorem Refs.retally {u : State} (h : Refs A s) (store : u.store = s.store) {old new : List SlotId}
    (balance : ∀ i, carRefs u i + B i + old.count i = carRefs s i + A i + new.count i) (clean : ∀ l, (u.lane l).clean)
    (idle : s.store.loaded = false → new = []) : Refs B (retally old new u) := by
  have slot (i : SlotId) : u.slot i = s.slot i := by rw [State.slot, store]; rfl
  refine ⟨fun i => ?_, fun l => by rw [retally_lane]; exact clean l, fun no => ?_⟩
  · have users := h.users i
    have moved := balance i
    have same : carRefs (Machine.retally old new u) i = carRefs u i := carRefs_congr (fun l => by rw [retally_lane]) i
    rw [retally_users, slot, same]
    omega
  · rw [(retally_touches old new u).same .loaded, store] at no
    obtain rfl := idle no
    have gone : old = [] := List.eq_nil_iff_forall_not_mem.mpr fun i mem => by
      have some := List.count_pos_iff.mpr mem
      obtain ⟨none, none'⟩ := h.unreferenced no i
      have moved := balance i
      rw [List.count_nil] at moved
      omega
    rw [gone, retally_nil, store]
    obtain ⟨slots, rest⟩ := h.idle no
    exact ⟨fun i => (slot i).trans (slots i), rest⟩

/-- The references of one lane go and come. -/
theorem Refs.retallyLane {u : State} (h : Refs A s) (store : u.store = s.store) {l : LaneId}
    (others : ∀ k, k ≠ l → (u.lane k).carousel = (s.lane k).carousel ∧ (u.lane k).state = (s.lane k).state)
    {old new : List SlotId} (balance : ∀ i, (carouselUses (u.lane l).carousel).count i + old.count i =
      (carouselUses (s.lane l).carousel).count i + new.count i) (clean : (u.lane l).clean)
    (idle : s.store.loaded = false → new = []) : Refs A (Machine.retally old new u) := by
  refine h.retally store (fun i => ?_) (fun k => ?_) idle
  · have moved := carRefs_lane (fun k hk => (others k hk).1) i
    have here := balance i
    omega
  · by_cases same : k = l
    · rw [same]
      exact clean
    · obtain ⟨carousel, state⟩ := others k same
      intro unused
      rw [carousel]
      exact h.clean k (state ▸ unused)

theorem Refs.retallyCarousel (h : Refs A s) {l : LaneId} {c : Carousel} {old new : List SlotId}
    (balance : ∀ i, (carouselUses c).count i + old.count i = (carouselUses (s.lane l).carousel).count i + new.count i)
    (clean : (s.lane l).state = .unused → c.entries = [] ∧ c.airing = none)
    (idle : s.store.loaded = false → new = []) : Refs A (Machine.retally old new (s.setCarousel l c)) := by
  have lane : (s.setCarousel l c).lane l = { s.lane l with carousel := c } := by
    rw [State.setCarousel, State.lane_setLane_same]
  refine h.retallyLane (u := s.setCarousel l c) rfl (l := l) (fun k hk => ?_) ?_ ?_ idle
  · rw [State.setCarousel, State.lane_setLane_other _ _ _ _ hk]
    exact ⟨rfl, rfl⟩
  · rw [lane]
    exact balance
  · rw [lane]
    exact clean

/-- A carousel changes but for its references. -/
theorem Refs.setCarousel (h : Refs A s) {l : LaneId} {c : Carousel} (entries : c.entries = (s.lane l).carousel.entries)
    (airing : c.airing.map Airing.slot = (s.lane l).carousel.airing.map Airing.slot) : Refs A (s.setCarousel l c) := by
  have gone : Refs A (Machine.retally [] [] (s.setCarousel l c)) :=
    h.retallyCarousel (fun i => by rw [carouselUses_eq, carouselUses_eq, entries, airing]) (fun unused => ?_) fun _ => rfl
  · rw [retally_nil] at gone
    exact gone
  · obtain ⟨noEntry, noAiring⟩ := h.clean l unused
    rw [noAiring] at airing
    exact ⟨entries.trans noEntry, Option.map_eq_none_iff.mp airing⟩

end

end Sys2Proof.Machine
end

/-! ## Proofs: what adds and takes references (1.2, 7.2-7.5) -/

section
namespace Sys2Proof.Machine

section
variable {A : SlotId → Nat} {s : State}

/-! ### Airings -/

theorem Refs.abandonAiring (h : Refs A s) (l : LaneId) : Refs A (abandonAiring l s) := by
  unfold Machine.abandonAiring
  dsimp only
  split
  · exact h
  next a airing =>
    refine h.retallyCarousel (fun i => ?_) (fun unused => ?_) fun _ => rfl
    · simp only [carouselUses_eq, abandonCarousel, airing, Option.map, Option.toList, List.append_nil, List.count_append,
        List.count_nil]
      omega
    · exact ⟨(h.clean l unused).1, rfl⟩

theorem Refs.beginAiring (h : Refs A s) {l : LaneId} {e : Nat} {i : SlotId} (free : (s.lane l).carousel.airing = none)
    (entry : (s.lane l).carousel.entries[e]? = some i) : Refs A (beginAiring l e i s) := by
  have some : (s.lane l).carousel.entries ≠ [] := List.ne_nil_of_mem (List.mem_of_getElem? entry)
  refine h.retallyCarousel (fun k => ?_) (fun unused => absurd (h.clean l unused).1 some) fun no => ?_
  · simp only [carouselUses_eq, free, Option.map, Option.toList, List.append_nil, List.count_append, List.count_nil]
    omega
  · have none := h.no_uses no l
    rw [carouselUses_eq] at none
    exact absurd (List.append_eq_nil_iff.mp none).1 some

theorem Refs.reachLane (h : Refs A s) (pl : PlanLane) : Refs A (reachLane s pl) := by
  unfold Machine.reachLane reachCarousel
  have changed := h.quiet (setTextState_touches pl.entry.lane (changeTextSource pl.text (s.lane pl.entry.lane).text) s) (by decide)
  have synced := changed.setCarousel (l := pl.entry.lane) (c := syncShowing pl.picture
    ((s.setTextState pl.entry.lane (changeTextSource pl.text (s.lane pl.entry.lane).text)).lane pl.entry.lane).carousel)
    (by unfold syncShowing; split <;> [rfl; split <;> [split <;> rfl; rfl]])
    (by unfold syncShowing; split <;> [rfl; split <;> [split <;> rfl; rfl]])
  dsimp only
  unfold startAiring
  dsimp only
  split
  next may =>
    rw [Bool.and_eq_true] at may
    split
    next i entry => exact synced.beginAiring (Option.isNone_iff_eq_none.mp may.2) entry
    next => exact synced
  next => exact synced

theorem Refs.commitPicture (h : Refs A s) (lc : LaneCarriage) : Refs A (commitPicture s lc) := by
  have pieces : Refs A (commitPieces lc s) := by
    unfold commitPieces
    split
    · exact h
    split
    · exact h
    split
    · unfold commitOwnPieces
      dsimp only
      split
      · exact h
      next a airing =>
        split
        · split
          · refine h.retallyCarousel (fun i => ?_) (fun unused => ⟨(h.clean _ unused).1, rfl⟩) fun _ => rfl
            simp only [carouselUses_eq, endAiring, airing, Option.map, Option.toList, List.append_nil, List.count_append,
              List.count_nil]
            omega
          · exact h.setCarousel rfl (by rw [airing]; rfl)
        · exact h
    · unfold commitAlertPieces
      dsimp only
      split
      · exact h
      · split
        · exact h.setCarousel rfl rfl
        · exact h
  unfold Machine.commitPicture
  dsimp only
  split
  · exact pieces.quiet (countStall_touches _ _) (by decide)
  · exact pieces

/-! ### Assemblies -/

theorem Refs.goOnFetching (h : Refs A s) (p : Plan) (c : Carriage) : Refs A (goOnFetching p c s) := by
  unfold Machine.goOnFetching
  split
  · exact (foldl_keeps (Refs A) _ (fun t pl k => k.reachLane pl) p.lanes s h).quiet (setAssembler_touches _ _) (by decide)
  · exact h.quiet (setAssembler_touches _ s) (by decide)

theorem Refs.beginAssembly (h : Refs A s) : Refs A (beginAssembly s) :=
  (h.quiet (switchOver_touches s) (by decide)).goOnFetching _ _

theorem Refs.laneFetch (h : Refs A s) (l : LaneId) (view : HostView) : Refs A (laneFetch l view s) := by
  unfold Machine.laneFetch
  split
  · exact h.quiet (straggle_touches _ view s) (by decide)
  split
  · split
    · unfold assemblyFetch
      dsimp only
      split
      · exact (h.quiet (fetchUnit_touches l _ view s) (by decide)).goOnFetching _ _
      · exact h.goOnFetching _ _
    · exact h
  · exact h
  · exact h

theorem Refs.writeRunctl (h : Refs A s) (run : Bool) (ms : Byte) (begun : List LaneId) : Refs A (writeRunctl run ms begun s) := by
  obtain ⟨u, touch, begins⟩ | ⟨touch, -⟩ := writeRunctl_cases run ms begun s
  · rw [begins]
    exact (h.quiet touch (by decide)).beginAssembly
  · exact h.quiet touch (by decide)

/-! ### Lane slips -/

/-- A lane changes but for its references. -/
theorem Refs.setLane (h : Refs A s) {l : LaneId} {x : Lane} (uses : carouselUses x.carousel = carouselUses (s.lane l).carousel)
    (clean : x.clean) : Refs A (s.setLane l x) := by
  have lane : (s.setLane l x).lane l = x := State.lane_setLane_same _ _ _
  have gone : Refs A (Machine.retally [] [] (s.setLane l x)) := by
    refine h.retallyLane (u := s.setLane l x) rfl (l := l) (fun k hk => ?_) (fun i => ?_) ?_ fun _ => rfl
    · rw [State.lane_setLane_other _ _ _ _ hk]
      exact ⟨rfl, rfl⟩
    · rw [lane, uses]
    · rw [lane]
      exact clean
  rw [retally_nil] at gone
  exact gone

variable {r : RecId}

theorem Refs.actLaneSetup (h : Refs A s) (w : WorkRecord) (l : LaneId) : Refs A (actLaneSetup r w l s) := by
  unfold Machine.actLaneSetup
  dsimp only
  split
  · exact h.finishUnstated _ _
  split
  · exact h.finishUnstated _ _
  split
  next unused =>
    obtain ⟨noEntry, noAiring⟩ := h.clean l unused
    have filled : Refs A (s.setLane l (setUpLane w (s.lane l))) := by
      refine h.setLane ?_ fun no => by cases no
      rw [carouselUses_eq (s.lane l).carousel, noEntry, noAiring]
      rfl
    exact (filled.quiet (touches_postRecord _ _ _) (by decide)).finish _ _ _
  next used =>
    have returned := h.quiet (returnPage_touches l .retired s) (by decide)
    have reconfigured : Refs A (reconfigure w l s) := returned.setLane rfl (returned.clean l)
    exact reconfigured.finish _ _ _

theorem Refs.actLaneRetire (h : Refs A s) (w : WorkRecord) (l : LaneId) : Refs A (actLaneRetire r w l s) := by
  unfold Machine.actLaneRetire
  split
  · exact h.finishUnstated _ _
  split
  · exact h.finishUnstated _ _
  split
  · exact h.finishUnstated _ _
  · have retired : Refs A (Machine.retally (carouselUses (s.lane l).carousel) [] (retiring l s)) := by
      refine h.retallyLane (retiring_store l s) (l := l) (fun k hk => ?_) (fun i => ?_) ?_ fun _ => rfl
      · rw [retiring_otherLanesKept l s k hk]
        exact ⟨rfl, rfl⟩
      · rw [retiring_lane, carouselUses_eq]
        exact Nat.zero_add _
      · rw [retiring_lane]
        exact fun _ => ⟨rfl, rfl⟩
    rw [retireLane_eq]
    exact ((retired.quiet (touches_postRecord _ _ _) (by decide)).finishUnstated _ _).choose

theorem Refs.actLaneHalt (h : Refs A s) (w : WorkRecord) (l : LaneId) : Refs A (actLaneHalt r w l s) := by
  unfold Machine.actLaneHalt
  split
  · have halted : Refs A (s.setLane l { s.lane l with state := .halted, credit := 0 }) := h.setLane rfl fun no => by cases no
    exact (halted.quiet (touches_postRecord _ _ _) (by decide)).finishUnstated _ _
  · exact h.finishUnstated _ _

theorem Refs.actLaneResume (h : Refs A s) (w : WorkRecord) (l : LaneId) : Refs A (actLaneResume r w l s) := by
  unfold Machine.actLaneResume
  split
  · have ready : Refs A (s.setLane l { s.lane l with state := .ready }) := h.setLane rfl fun no => by cases no
    exact (ready.quiet (touches_postRecord _ _ _) (by decide)).finishUnstated _ _
  · exact h.finishUnstated _ _

/-! ### Carousel slips -/

theorem Refs.actCarJump (h : Refs A s) (w : WorkRecord) (l : LaneId) : Refs A (actCarJump r w l s) := by
  unfold Machine.actCarJump
  dsimp only
  split
  · exact h.finish _ _ _
  split
  · exact h.finish _ _ _
  · exact (h.setCarousel (c := { (s.lane l).carousel with jump := some (w.arg 1 1) }) rfl rfl).finish _ _ _

theorem Refs.actCarSet (h : Refs A s) (w : WorkRecord) (l : LaneId) : Refs A (actCarSet r w l s) := by
  unfold Machine.actCarSet
  dsimp only
  split
  · exact h.finish _ _ _
  next used =>
    split
    · exact h.finish _ _ _
    split
    · exact h.finish _ _ _
    split
    · exact h.finish _ _ _
    next ready =>
      refine Refs.finish (h.retallyCarousel (fun i => ?_) (fun unused => absurd unused used) fun no => ?_) _ _ _
      · simp only [carouselUses_eq, setList, List.count_append]
        omega
      · refine List.eq_nil_iff_forall_not_mem.mpr fun i mem => ready (List.any_eq_true.mpr ⟨i, mem, ?_⟩)
        rw [(h.idle no).1 i]
        rfl

end

end Sys2Proof.Machine
end

/-! ## Proofs: references, the picture slips and the stored directory (6.4, 6.5, 7.4) -/

section
namespace Sys2Proof.Machine

variable {A : SlotId → Nat} {s : State}

/-! ### A condemned slot leaves the carousels -/

theorem count_entriesNaming (s : State) (i k : SlotId) : (entriesNaming s i).count k =
    ∑ l : LaneId, ((s.lane l).carousel.entries.filter fun e => e = i).count k := by
  rw [entriesNaming, List.count_flatMap]
  exact sum_lanes s _

theorem dropEntries_uses (i k : SlotId) (c : Carousel) : (carouselUses (dropEntries i c)).count k +
    (c.entries.filter fun e => e = i).count k = (carouselUses c).count k := by
  have split : c.entries.count k = (c.entries.filter fun e => e = i).count k + (c.entries.filter fun e => e ≠ i).count k := by
    simpa [List.count] using List.countP_eq_countP_filter_add c.entries (fun e => e == k) fun e => decide (e = i)
  rw [carouselUses_eq, carouselUses_eq]
  unfold dropEntries
  split
  · dsimp only
    rw [List.count_append, List.count_append]
    omega
  next unnamed =>
    have none : c.entries.filter (fun e => e = i) = [] := List.filter_eq_nil_iff.mpr fun e mem same => by
      rw [of_decide_eq_true same] at mem
      exact unnamed (List.contains_iff_mem.mpr mem)
    rw [none, List.count_nil, Nat.add_zero]

theorem dropEntries_clean {i : SlotId} {c : Carousel} (h : c.entries = [] ∧ c.airing = none) :
    (dropEntries i c).entries = [] ∧ (dropEntries i c).airing = none := by
  have unnamed : ¬ c.entries.contains i = true := by
    rw [h.1]
    nofun
  rw [dropEntries, if_neg unnamed]
  exact h

/-- The lanes without the entries that name a slot. -/
def condemnedLanes (i : SlotId) (s : State) : State :=
  s.setLanes (s.lanes.map fun x => { x with carousel := dropEntries i x.carousel })

theorem condemnedLanes_lane (i : SlotId) (s : State) (l : LaneId) : (condemnedLanes i s).lane l =
    { s.lane l with carousel := dropEntries i (s.lane l).carousel } := Vector.getElem_map ..

theorem condemnedLanes_store (i : SlotId) (s : State) : (condemnedLanes i s).store = s.store := rfl

theorem Refs.removeCondemned (h : Refs A s) (i : SlotId) : Refs A (removeCondemned i s) := by
  have removed : Machine.removeCondemned i s = Machine.retally (entriesNaming s i) [] (condemnedLanes i s) := rfl
  rw [removed]
  refine h.retally (condemnedLanes_store i s) (fun k => ?_) (fun l => ?_) fun _ => rfl
  · have moved : carRefs (condemnedLanes i s) k + (entriesNaming s i).count k = carRefs s k := by
      rw [count_entriesNaming, carRefs, carRefs, ← Finset.sum_add_distrib]
      refine Finset.sum_congr rfl fun l _ => ?_
      rw [condemnedLanes_lane]
      exact dropEntries_uses i k _
    rw [List.count_nil]
    omega
  · rw [condemnedLanes_lane]
    exact fun unused => dropEntries_clean (h.clean l unused)

/-! ### Once the stored directory has been read -/

/-- With the stored directory read, what leaves carousels, lane states and user counts alone keeps the references. -/
theorem Refs.read {xs : List Aspect} {t : State} (h : Refs A s) (loaded : s.store.loaded = true) (touch : touches xs s t)
    (away : ∀ a ∈ [Aspect.laneState, .carousel, .slotUsers, .loaded], a ∉ xs) : Refs A t :=
  h.kept touch (unread_of_loaded ((touch.same .loaded (away _ (by decide))).trans loaded)) fun a ha => away a (by revert a; decide)

theorem Refs.dropSlot (h : Refs A s) (loaded : s.store.loaded = true) (r : RecId) (i : SlotId) : Refs A (dropSlot r i s) := by
  have recorded (d : DirRecord) (j : Job) : Refs A (enterJob j (recordSlot i d s)) :=
    h.read loaded ((recordSlot_touches i d s).trans (zs := [.stored, .slotRecords, .posted, .jobs]) (enterJob_touches j _)) (by decide)
  unfold Machine.dropSlot
  dsimp only
  split
  · exact ((recorded _ _).removeCondemned i).choose
  · exact (recorded _ _).choose

theorem Refs.actPicDrop (h : Refs A s) (loaded : s.store.loaded = true) (r : RecId) (w : WorkRecord) : Refs A (actPicDrop r w s) := by
  unfold Machine.actPicDrop
  split
  · exact h.finish _ _ _
  · dsimp only
    split
    · exact h.finish _ _ _
    split
    · exact h.finish _ _ _
    split
    · exact h.finish _ _ _
    · exact h.dropSlot loaded _ _

theorem Refs.picDrop (h : Refs A s) : Refs A (picDispatch .picDrop Machine.actPicDrop s) := by
  cases loaded : s.store.loaded with
  | false =>
    rw [picDispatch_waits loaded]
    exact h
  | true =>
    unfold picDispatch
    rw [if_pos loaded]
    split
    next r rest _ =>
      split
      · split
        · exact (h.quiet (touches_setStore_queue rest s) (by decide)).actPicDrop loaded _ _
        · exact h
      · exact h
    · exact h

/-- What happens only once the stored directory has been read keeps the references. -/
theorem Refs.onceRead {xs : List Aspect} {t : State} (h : Refs A s) (touch : touches xs s t) (waits : s.store.loaded = false → t = s)
    (away : ∀ a ∈ [Aspect.laneState, .carousel, .slotUsers, .loaded], a ∉ xs) : Refs A t := by
  cases loaded : s.store.loaded with
  | false =>
    rw [waits loaded]
    exact h
  | true => exact h.read loaded touch away

theorem Refs.storedDirectoryRead (h : Refs A s) : Refs A (storedDirectoryRead s) := by
  cases read : s.store.loaded with
  | true =>
    rw [Machine.storedDirectoryRead, if_pos read]
    exact h
  | false =>
    have run : exec .storedDirectoryRead s = .next (Machine.storedDirectoryRead s) := rfl
    have touch := touches_of_exec run
    have begun : Machine.storedDirectoryRead s = directoryRead (List.finRange 64) s := if_neg (by rw [read]; decide)
    obtain ⟨others, loaded, slot, -⟩ := directoryRead_spec (List.finRange 64) s
    have carousel : ∀ l, ((Machine.storedDirectoryRead s).lane l).carousel = (s.lane l).carousel := touch.same .carousel (by decide)
    have state : ∀ l, ((Machine.storedDirectoryRead s).lane l).state = (s.lane l).state := touch.same .laneState (by decide)
    refine ⟨fun i => ?_, fun l unused => ?_, unread_of_loaded (begun ▸ loaded)⟩
    · obtain ⟨noRef, noAlert⟩ := h.unreferenced read i
      rw [carRefs_congr carousel, noRef, noAlert, begun, slot]
    · rw [carousel]
      exact h.clean l (state l ▸ unused)

/-! ### Dispatches -/

theorem Refs.laneSlip {k : Kind} {act : RecId → WorkRecord → LaneId → State → State}
    (acts : ∀ r w l u, Refs A u → Refs A (act r w l u)) (h : Refs A s) : Refs A (laneDispatch k act s) := by
  obtain idle | ⟨r, rest, w, l, -, acted⟩ := laneDispatch_cases k act s
  · rw [idle]
    exact h
  · rw [acted]
    exact acts r w l _ (h.quiet (touches_setMaps_laneSlips rest s) (by decide))

theorem Refs.carouselSlip {k : Kind} {act : RecId → WorkRecord → LaneId → State → State}
    (acts : ∀ r w l u, Refs A u → Refs A (act r w l u)) (h : Refs A s) : Refs A (carouselDispatch k act s) := by
  by_cases idle : carouselDispatch k act s = s
  · rw [idle]
    exact h
  · obtain ⟨r, rest, w, l, here⟩ : ∃ r rest w l, laneSlipAt .carousel k s r rest w l := by
      by_contra none
      exact idle (carouselDispatch_idle (fun r rest w l here => none ⟨r, rest, w, l, here⟩) act)
    rw [carouselDispatch_at here]
    exact acts r w l _ (h.quiet (touches_setCarousels rest s) (by decide))

/-! ### Visits -/

theorem unread.visitSlip (h : unread s) (r : RecId) (i : SlipId) (slip : List Byte) : unread (visitSlip r i slip s) := by
  have filled (w : WorkRecord) : unread (fillRecord r w s) := h.of_touches (fillRecord_touches r w s) (by decide)
  have taken (w : WorkRecord) : unread (takeSlip r i w s) := by
    have begun := ((filled w).of_touches (touches_postRecord _ (slipAddr s.regs.anchor i) (leBytes 1 2)) (by decide)).of_touches
      (setSweepCursor_touches (i + 1) _) (by decide)
    unfold takeSlip decideTake
    split
    · exact begun.complete _ _ _ _
    split
    · exact begun.complete _ _ _ _
    split
    · exact begun.complete _ _ _ _
    · exact begun.of_touches (dispatchTo_touches _ _ _) (by decide)
  unfold Machine.visitSlip
  dsimp only
  split
  · exact h
  split
  · exact h
  split
  · exact taken _
  · exact taken _
  · split
    · exact ((filled _).complete r _ _ _).of_touches (setSweepCursor_touches _ _) (by decide)
    · exact h

theorem unread.slipVisit (h : unread s) (view : HostView) : unread (slipVisit view s) := by
  unfold Machine.slipVisit
  split
  · split
    · exact ((h.of_touches (setSweepCursor_touches _ s) (by decide)).of_touches (endSweep_touches _) (by decide)).of_touches (raiseNotice_touches _ _) (by decide)
    · exact (h.visitSlip _ _ _).of_touches (afterVisit_touches _ _ _) (by decide)
  · exact h
  · exact h

end Sys2Proof.Machine
end

/-! ## Proofs: references, the alerts and the sends (8.2-8.5), and every step -/

section
namespace Sys2Proof.Machine

/-! ### The alerts' references -/

/-- How often the active alerts refer to a slot. -/
def alertRefs (s : State) (i : SlotId) : Nat := (activeAlerts s).countP fun a => decide (a.picture.map Prod.fst = some i)

/-- The hold count is the number of active alerts with a picture. -/
def holdCounts (s : State) : Prop := s.store.hold = (activeAlerts s).countP fun a => a.picture.isSome

/-- What `UsersSound` says. -/
structure Counted (s : State) : Prop where
  refs : Refs (alertRefs s) s
  hold : holdCounts s

theorem usersSound_iff (s : State) : UsersSound s ↔ Counted s := by
  constructor
  · rintro ⟨users, hold, clean, idle⟩
    exact ⟨⟨fun i => by rw [← carRefs_eq]; exact users i, clean, idle⟩, hold⟩
  · rintro ⟨⟨users, clean, idle⟩, hold⟩
    exact ⟨fun i => by rw [carRefs_eq]; exact users i, hold, clean, idle⟩

theorem Refs.congr {A B : SlotId → Nat} {s : State} (h : Refs A s) (same : ∀ i, B i = A i) : Refs B s :=
  ⟨fun i => by rw [same]; exact h.users i, h.clean, h.idle⟩

/-- What leaves the alerts alone keeps what is counted, if it keeps the references. -/
theorem Counted.step {xs : List Aspect} {s t : State} (h : Counted s) (refs : ∀ A, Refs A s → Refs A t) (touch : touches xs s t)
    (away : ∀ a ∈ [Aspect.places, .hold], a ∉ xs) : Counted t := by
  have alerts : activeAlerts t = activeAlerts s := activeAlerts_congr (touch.same .places (away _ (by decide)))
  refine ⟨(refs _ h.refs).congr fun i => by rw [alertRefs, alerts]; rfl, ?_⟩
  rw [holdCounts, alerts, touch.same .hold (away _ (by decide))]
  exact h.hold

/-- What the alert of a place counts for. -/
def countAt (f : Alert → Bool) (x : Option Alert) : Nat := x.toList.countP f

theorem countP_setPlace (f : Alert → Bool) (p : PlaceId) (x : Option Alert) (s : State) :
    (activeAlerts (setPlace p x s)).countP f + countAt f s.alerts.places[p] = (activeAlerts s).countP f + countAt f x := by
  obtain ⟨before, after, here, set⟩ := filterMap_id_set s.alerts.places.toList p.val (by simp)
  have placed : activeAlerts (setPlace p x s) = (s.alerts.places.toList.set p.val x).filterMap id := by
    change List.filterMap id (s.alerts.places.set p x).toList = _
    rw [Vector.toList_set]
  rw [placed, set, activeAlerts, here]
  simp only [List.countP_append, countAt, Vector.getElem_toList]
  rw [Fin.getElem_fin]
  omega

theorem setPlace_store (p : PlaceId) (x : Option Alert) (s : State) : (setPlace p x s).store = s.store := rfl

/-- An alert changes but for its picture. -/
theorem countP_picture {s : State} {p : PlaceId} {a b : Alert} (here : s.alerts.places[p] = some a) (picture : b.picture = a.picture)
    (f : Option (SlotId × Byte) → Bool) : (activeAlerts (setPlace p (some b) s)).countP (fun a => f a.picture) =
      (activeAlerts s).countP fun a => f a.picture := by
  have set := countP_setPlace (fun a => f a.picture) p (some b) s
  have counts : countAt (fun a => f a.picture) (some b) = countAt (fun a => f a.picture) s.alerts.places[p] := by
    rw [here]
    simp only [countAt, Option.toList, List.countP_cons, List.countP_nil, picture]
  omega

/-- An alert changes but for its picture, and nothing else that is counted changes. -/
theorem Counted.replace {xs : List Aspect} {s t : State} (h : Counted s) {p : PlaceId} {a b : Alert}
    (here : s.alerts.places[p] = some a) (picture : b.picture = a.picture) (touch : touches xs s t)
    (places : t.alerts.places = s.alerts.places.set p (some b))
    (away : ∀ a ∈ [Aspect.hold, .laneState, .carousel] ++ unreadAspects, a ∉ xs) : Counted t := by
  have alerts : activeAlerts t = activeAlerts (setPlace p (some b) s) := activeAlerts_congr places
  refine ⟨(h.refs.quiet touch fun a ha => away a (by revert a; decide)).congr fun i => ?_, ?_⟩
  · rw [alertRefs, alerts]
    exact countP_picture here picture fun x => decide (x.map Prod.fst = some i)
  · rw [holdCounts, alerts, touch.same .hold (away _ (by decide))]
    exact h.hold.trans (countP_picture here picture Option.isSome).symm

/-! ### Raises -/

theorem Refs.takeField {A : SlotId → Nat} {s : State} (h : Refs A s) (id : Byte) (lf : LaneId × Field) : Refs A (takeField id s lf) := by
  have logged (x : List LogEntry) : touches [.log] s (s.setAlerts { s.alerts with log := x }) :=
    touches_of_same (fun a ha => by cases a <;> first | rfl | exact fun _ => rfl | simp at ha) rfl
  have sourced (t : State) (l : LaneId) (f : Field) (v : Source) :
      touches [.audioFrom, .textFrom, .pictureFrom] t (t.setLane l ((t.lane l).setSource f v)) :=
    touches_setLane fun a ha => Lane.laneSame_setSource _ f v a ha
  have taken := (h.quiet (logged (s.alerts.log ++ [⟨id, lf.1, lf.2, (s.lane lf.1).sourceOf lf.2⟩])) (by decide)).quiet
    (sourced _ lf.1 lf.2 (.alert id)) (by decide)
  unfold Machine.takeField
  dsimp only
  split
  · exact taken.abandonAiring _
  · exact taken

theorem countAt_picture {a : Alert} {p : SlotId × Byte} (picture : a.picture = some p) (i : SlotId) :
    countAt (fun a => decide (a.picture.map Prod.fst = some i)) (some a) = [p.1].count i := by
  obtain ⟨k, version⟩ := p
  simp [countAt, picture, List.count_cons, List.countP_cons]

/-- The picture of a raised alert gains a user. -/
theorem Refs.holdPicture {A : SlotId → Nat} {s : State} (h : Refs A s) (a : Alert)
    (idle : s.store.loaded = false → a.picture = none) :
    Refs (fun i => A i + countAt (fun a => decide (a.picture.map Prod.fst = some i)) (some a)) (holdPicture a s) := by
  unfold Machine.holdPicture
  split
  next none => exact h.congr fun i => by simp [countAt, none]
  next p picture =>
    have gained : Refs (fun i => A i + countAt (fun a => decide (a.picture.map Prod.fst = some i)) (some a))
        (Machine.retally [] [p.1] s) := by
      refine h.retally rfl (fun i => ?_) h.clean fun no => ?_
      · rw [countAt_picture picture, List.count_nil]
        omega
      · rw [idle no] at picture
        cases picture
    exact gained.quiet (setHold_touches _ _) (by decide)

/-- The picture of a freed alert loses a user. -/
theorem Refs.releasePicture {A B : SlotId → Nat} {s : State} (h : Refs A s) (a : Alert)
    (rest : ∀ i, B i + countAt (fun a => decide (a.picture.map Prod.fst = some i)) (some a) = A i) :
    Refs B (releasePicture a s) := by
  unfold Machine.releasePicture
  split
  next none => exact h.congr fun i => by rw [← rest i]; simp [countAt, none]
  next p picture =>
    have lost : Refs B (Machine.retally [p.1] [] s) := by
      refine h.retally rfl (fun i => ?_) h.clean fun _ => rfl
      rw [← rest i, countAt_picture picture, List.count_nil]
      omega
    exact lost.quiet (setHold_touches _ _) (by decide)

theorem releasePicture_hold (a : Alert) (s : State) :
    (releasePicture a s).store.hold = s.store.hold - countAt (fun a => a.picture.isSome) (some a) := by
  unfold releasePicture
  split
  next none => simp [countAt, none]
  next p picture =>
    have hold : (retally [p.1] [] s).store.hold = s.store.hold := (retally_touches _ _ s).same .hold
    simp [countAt, picture, hold]

/-- An ENDING alert is freed. -/
theorem Counted.freed {s : State} (h : Counted s) {p : PlaceId} {a : Alert} (here : s.alerts.places[p] = some a) :
    Counted (setPlace p none (releasePicture a s)) := by
  have left (f : Alert → Bool) : (activeAlerts (setPlace p none (Machine.releasePicture a s))).countP f + countAt f (some a) =
      (activeAlerts s).countP f := by
    have set := countP_setPlace f p none (Machine.releasePicture a s)
    rw [releasePicture_alerts, here, activeAlerts_congr (congrArg AlertControl.places (releasePicture_alerts a s))] at set
    exact set
  refine ⟨Refs.quiet (h.refs.releasePicture a fun i => left _) (setPlace_touches p none _) (by decide), ?_⟩
  have freed := left fun a => a.picture.isSome
  have hold := h.hold
  unfold holdCounts at hold ⊢
  rw [setPlace_store, releasePicture_hold]
  omega

theorem Counted.applyRaise {s : State} (h : Counted s) {r : RecId} {q : Raise} {t : TextRead} {p : PlaceId}
    (passes : raiseFault s q t = none) (free : s.alerts.places[p] = none) : Counted (applyRaise r q t p s) := by
  let a := newAlert s r q t
  have idle : s.store.loaded = false → a.picture = none := fun no => by
    cases picture : a.picture with
    | none => rfl
    | some x =>
      have ready := newAlert_picture_ready r t (raiseRoom_of_raiseFault passes).picture x picture
      rw [(h.refs.idle no).1] at ready
      cases ready
  have placed := h.refs.quiet (setPlace_touches p (some a) s) (by decide)
  have taken := foldl_keeps (Refs (alertRefs s)) _ (fun t lf k => k.takeField q.id lf) (takenFields q) _ placed
  have loaded := (touches_foldl (takeField_touches q.id) (takenFields q) (Machine.setPlace p (some a) s)).same .loaded
  have held := taken.holdPicture a fun no => idle (loaded ▸ no)
  have raisedTouch : touches (.hold :: takeAspects) (Machine.setPlace p (some a) s) (raised q a p s) :=
    (touches_foldl (takeField_touches q.id) (takenFields q) _).trans (zs := .hold :: takeAspects) (holdPicture_touches a _)
  have alerts : activeAlerts (raised q a p s) = activeAlerts (Machine.setPlace p (some a) s) := activeAlerts_congr (raisedTouch.same .places)
  have counted (f : Alert → Bool) : (activeAlerts (raised q a p s)).countP f = (activeAlerts s).countP f + countAt f (some a) := by
    have set := countP_setPlace f p (some a) s
    rw [free] at set
    rw [alerts]
    exact set
  have done : Counted (raised q a p s) := by
    refine ⟨held.congr fun i => counted _, ?_⟩
    rw [holdCounts, counted, raised_store_hold, h.hold]
    congr 1
    cases picture : a.picture <;> simp [countAt, picture]
  rw [applyRaise_eq]
  exact done.step (fun A k => (k.quiet (touches_postRecord _ _ _) (by decide)).choose)
    ((touches_postRecord _ _ _).trans (zs := choiceAspects) (choose_touches _)) (by decide)

end Sys2Proof.Machine
end

/-! ## Proofs: references, every step (7.4) -/

section
namespace Sys2Proof.Machine

variable {s : State}

/-! ### Alert slips -/

theorem Counted.quiet {xs : List Aspect} {t : State} (h : Counted s) (touch : touches xs s t)
    (away : ∀ a ∈ [Aspect.places, .hold, .laneState, .carousel] ++ unreadAspects, a ∉ xs) : Counted t :=
  h.step (fun _ k => k.quiet touch fun a ha => away a (by revert a; decide)) touch fun a ha => away a (by revert a; decide)

theorem Counted.finish (h : Counted s) (r : RecId) (status : Nat) (aux : Word) : Counted (finish r status aux s) :=
  h.step (fun _ k => k.finish r status aux) (finish_touches r status aux s) (by decide)

theorem Counted.decideRaise (h : Counted s) (r : RecId) (q : Raise) (t : TextRead) : Counted (decideRaise r q t s) := by
  obtain ⟨status, aux, refused⟩ | ⟨p, passes, free, applied⟩ := decideRaise_cases r q t s
  · rw [refused]
    exact h.finish r status aux
  · rw [applied]
    exact h.applyRaise passes free

theorem Counted.actAlertRaise (h : Counted s) (r : RecId) (w : WorkRecord) : Counted (actAlertRaise r w s) := by
  unfold Machine.actAlertRaise
  split
  · exact h.quiet (touches_setAlerts_checking (some r) s) (by decide)
  · exact h.decideRaise r _ _

theorem Counted.alertRaiseApply (h : Counted s) (view : HostView) : Counted (alertRaiseApply view s) := by
  have taken := h.quiet (touches_setAlerts_checking none s) (by decide)
  unfold Machine.alertRaiseApply
  split
  · exact h
  · dsimp only
    split
    · exact taken
    · exact taken.decideRaise _ _ _

theorem Counted.actAlertEnd (h : Counted s) (r : RecId) (w : WorkRecord) : Counted (actAlertEnd r w s) := by
  unfold Machine.actAlertEnd
  split
  · exact h.finish r _ _
  · split
    · exact h.finish r _ _
    next a here =>
      split
      · exact h.replace (b := { a with state := .ending, endRecord := some r }) here rfl (endAlert_touches r _ a s) rfl (by decide)
      · exact h.finish r _ _

theorem Counted.alertSlip {k : Kind} {act : RecId → WorkRecord → State → State} (acts : ∀ r w u, Counted u → Counted (act r w u))
    (h : Counted s) : Counted (alertDispatch k act s) := by
  obtain idle | ⟨r, rest, w, -, acted⟩ := alertDispatch_cases k act s
  · rw [idle]
    exact h
  · rw [acted]
    exact acts r w _ (h.quiet (touches_setAlerts_queue rest s) (by decide))

/-! ### Sends -/

theorem Refs.completeAt {A : SlotId → Nat} (h : Refs A s) (counter : Word) (rs : List RecId) : Refs A (completeAt counter rs s) :=
  foldl_keeps (Refs A) _ (fun _ r k => k.complete r _ _ _) rs s h

theorem Refs.completeSwitched {A : SlotId → Nat} (h : Refs A s) (counter : Word) : Refs A (completeSwitched counter s) :=
  (h.quiet (setMaps_switched_touches none s) (by decide)).completeAt counter _

theorem Refs.sendVoid {A : SlotId → Nat} (h : Refs A s) : Refs A (sendVoid s) := by
  have paced (t : State) : touches [.laneText] t (t.setLanes (t.lanes.map fun x => { x with text := paceOn x.text })) :=
    touches_setLanes fun l a ha => by
      rw [Fin.getElem_fin, Vector.getElem_map]
      cases a <;> first | rfl | trivial
  rw [sendVoid_eq]
  exact ((((h.quiet (voidStart_touches s) (by decide)).quiet (announceSent_touches _ _) (by decide)).quiet (paced _) (by decide)).quiet
    (touches_postRecord _ _ _) (by decide)).completeSwitched _

theorem Refs.commitCarriage {A : SlotId → Nat} (h : Refs A s) (c : Carriage) : Refs A (commitCarriage c s) := by
  have moved (t : State) : touches [.poolCursor] t (t.setCursor c.cursorNext) :=
    touches_of_same (fun a ha => by cases a <;> first | rfl | exact fun _ => rfl | simp at ha) rfl
  have counted := ((((h.quiet (touches_foldl countAired_touches c.fetched s) (by decide)).quiet
    (touches_foldl countFiller_touches c.lanes _) (by decide)).quiet (touches_foldl commitCredit_touches c.lanes _) (by decide)).quiet (moved _) (by decide)).quiet
    (commitTexts_touches c _) (by decide)
  exact foldl_keeps (Refs A) _ (fun _ lc k => k.commitPicture lc) c.lanes _ counted

theorem Counted.commitPlace (h : Counted s) (p : Plan) (counter : Word) (i : PlaceId) : Counted (commitPlace p counter s i) := by
  unfold Machine.commitPlace
  split
  · exact h
  next a here =>
    split
    · split
      · exact h.replace (b := { a with state := .onAir, onAirFrame := some counter }) here rfl ((setPlace_touches i _ s).trans
          (zs := [.places, .posted]) (touches_postRecord _ _ _)) rfl (by decide)
      · exact h
    · exact h
    · split
      · exact h
      · exact (h.freed here).quiet (touches_postRecord _ _ _) (by decide)

theorem Counted.commitFrame (h : Counted s) (p : Plan) (c : Carriage) : Counted (commitFrame p c s) := by
  have carried : Counted (Machine.commitCarriage c s) := h.step (fun _ k => k.commitCarriage c) (commitCarriage_touches c s) (by decide)
  rw [commitFrame_eq]
  exact foldl_keeps Counted _ (fun _ i k => k.commitPlace p p.counter i) _ _ carried

theorem Counted.airPull (h : Counted s) (begun : List LaneId) : Counted (airPull begun s) := by
  obtain same | void | late | ⟨p, c, frame, -, sent⟩ := airPull_cases begun s
  · rw [same]
    exact h
  · rw [void]
    exact h.step (fun _ k => k.sendVoid) (sendVoid_touches s) (by decide)
  · rw [late]
    have sent := h.step (fun _ k => k.sendVoid) (sendVoid_touches s) (by decide)
    exact ((sent.quiet (dropAssembly_touches begun _) (by decide)).quiet (raiseNotice_touches .void _) (by decide)).step (fun _ k => k.beginAssembly)
      (beginAssembly_touches _) (by decide)
  · rw [sent]
    have committed := (h.quiet (sendStart_touches p frame s) (by decide)).commitFrame p c
    have rest : Counted (sendRest p c (alertCompletions p s) (Machine.commitFrame p c (sendStart p frame s))) :=
      committed.step (fun _ k => ((((k.quiet (writeSendMirrors_touches p c _) (by decide)).completeAt _ _).completeSwitched _).choose))
        (sendRest_touches p c _ _) (by decide)
    exact rest.step (fun _ k => k.beginAssembly) (beginAssembly_touches _) (by decide)

/-! ### Every step -/

theorem resetKeeping_counted (regs : Registers) (s : State) : Counted (resetKeeping regs s) := by
  have noAlert : activeAlerts (resetKeeping regs s) = [] := rfl
  refine ⟨⟨fun i => ?_, fun l => ?_, fun _ => ⟨slot_resetKeeping regs s, rfl, rfl, rfl, rfl⟩⟩, ?_⟩
  · have none : carRefs (resetKeeping regs s) i = 0 := Finset.sum_eq_zero fun l _ => by rw [lane_resetKeeping]; rfl
    rw [slot_resetKeeping, none, alertRefs, noAlert]
    rfl
  · rw [lane_resetKeeping]
    exact fun _ => ⟨rfl, rfl⟩
  · rw [holdCounts, noAlert]
    rfl

theorem exec_counted (c : Instr) (s t : State) (h : Counted s) (hs : exec c s = .next t) : Counted t := by
  have touch := touches_of_exec hs
  have pass := unread_passes
  have idle := h.refs.idle
  have quiet (away : ∀ a ∈ [Aspect.places, .hold, .laneState, .carousel] ++ unreadAspects, a ∉ touched c) : Counted t :=
    h.quiet touch away
  have acts (refs : ∀ A, Refs A s → Refs A t) (away : ∀ a ∈ [Aspect.places, .hold], a ∉ touched c) : Counted t :=
    h.step refs touch away
  have completes (unread : unread t) (away : ∀ a ∈ [Aspect.places, .hold, .laneState, .carousel, .slotUsers], a ∉ touched c) :
      Counted t :=
    acts (fun _ k => k.kept touch unread fun a ha => away a (by revert a; decide)) fun a ha => away a (by revert a; decide)
  have store (waits : s.store.loaded = false → t = s)
      (away : ∀ a ∈ [Aspect.places, .hold, .laneState, .carousel, .slotUsers, .loaded], a ∉ touched c) : Counted t :=
    acts (fun _ k => k.onceRead touch waits fun a ha => away a (by revert a; decide)) fun a ha => away a (by revert a; decide)
  cases c
  case powerOnReset => cases hs; exact resetKeeping_counted _ s
  case softReset => cases hs; exact resetKeeping_counted _ s
  case runSet ms =>
    cases hs
    exact acts (fun _ k => k.writeRunctl _ _ _)
      (by dsimp only [touched]; decide)
  case runClear ms begun =>
    cases hs
    exact acts (fun _ k => k.writeRunctl _ _ _)
      (by dsimp only [touched]; decide)
  case sweepMsWrite ms =>
    cases hs
    exact acts (fun _ k => k.writeRunctl _ _ _)
      (by dsimp only [touched]; decide)
  case slipVisit view =>
    cases hs
    exact completes (idle.slipVisit view)
      (by dsimp only [touched]; decide)
  case laneSetup =>
    cases hs
    exact acts (fun _ k => k.laneSlip fun r w l u hu => hu.actLaneSetup w l)
      (by dsimp only [touched]; decide)
  case laneRetire =>
    cases hs
    exact acts (fun _ k => k.laneSlip fun r w l u hu => hu.actLaneRetire w l)
      (by dsimp only [touched]; decide)
  case laneHalt =>
    cases hs
    exact acts (fun _ k => k.laneSlip fun r w l u hu => hu.actLaneHalt w l)
      (by dsimp only [touched]; decide)
  case laneResume =>
    cases hs
    exact acts (fun _ k => k.laneSlip fun r w l u hu => hu.actLaneResume w l)
      (by dsimp only [touched]; decide)
  case mapLoad => cases hs; exact completes (pass.mapLoad idle) (by dsimp only [touched]; decide)
  case mapTableRead view =>
    cases hs
    exact completes (pass.mapTableRead idle view)
      (by dsimp only [touched]; decide)
  case textPut =>
    cases hs
    exact completes (pass.textSlip (fun r w l u hu => pass.actTextPut (r := r) hu w l) idle)
      (by dsimp only [touched]; decide)
  case textPutApply view =>
    cases hs
    exact completes (pass.textPutApply idle view)
      (by dsimp only [touched]; decide)
  case textDrop =>
    cases hs
    exact completes (pass.textSlip (fun r w l u hu => pass.actTextDrop (r := r) hu w l) idle)
      (by dsimp only [touched]; decide)
  case textClear =>
    cases hs
    exact completes (pass.textSlip (fun r w l u hu => pass.actTextClear (r := r) hu w l) idle)
      (by dsimp only [touched]; decide)
  case carSet =>
    cases hs
    exact acts (fun _ k => k.carouselSlip fun r w l u hu => hu.actCarSet w l)
      (by dsimp only [touched]; decide)
  case carJump =>
    cases hs
    exact acts (fun _ k => k.carouselSlip fun r w l u hu => hu.actCarJump w l)
      (by dsimp only [touched]; decide)
  case picOpen =>
    cases hs
    exact store (fun no => picDispatch_waits no _)
      (by dsimp only [touched]; decide)
  case picWrite =>
    cases hs
    exact store (fun no => picDispatch_waits no _)
      (by dsimp only [touched]; decide)
  case picSeal =>
    cases hs
    exact store (fun no => picDispatch_waits no _)
      (by dsimp only [touched]; decide)
  case picDrop => cases hs; exact acts (fun _ k => k.picDrop) (by dsimp only [touched]; decide)
  case alertRaise => cases hs; exact h.alertSlip fun r w u hu => hu.actAlertRaise r w
  case alertRaiseApply view => cases hs; exact h.alertRaiseApply view
  case alertEnd => cases hs; exact h.alertSlip fun r w u hu => hu.actAlertEnd r w
  case blockEraseEnd =>
    cases hs
    exact store (fun no => blockEraseEnd_idle (by rw [idle.running no]; nofun))
      (by dsimp only [touched]; decide)
  case writeHostRead view =>
    cases hs
    exact store (fun no => writeHostRead_idle (by rw [idle.running no]; nofun) view)
      (by dsimp only [touched]; decide)
  case pageProgramEnd =>
    cases hs
    exact store (fun no => pageProgramEnd_idle (by rw [idle.running no]; nofun))
      (by dsimp only [touched]; decide)
  case sealReadEnd =>
    cases hs
    exact store (fun no => sealReadEnd_idle (by rw [idle.running no]; nofun))
      (by dsimp only [touched]; decide)
  case directoryWriteEnd =>
    cases hs
    exact store (fun no => by rw [directoryWriteEnd, idle.dirWrites no])
      (by dsimp only [touched]; decide)
  case storedDirectoryRead =>
    cases hs
    exact acts (fun _ k => k.storedDirectoryRead)
      (by dsimp only [touched]; decide)
  case airPull begun => cases hs; exact h.airPull begun
  case laneFetch l view =>
    cases hs
    exact acts (fun _ k => k.laneFetch l view)
      (by dsimp only [touched]; decide)
  all_goals exact quiet (by dsimp only [touched]; decide)

/-- Settles O56. -/
theorem everyStepKeepsTheStoreCanonical : Obligations.EveryStepKeepsTheStoreCanonical :=
  ⟨fun _ _ => step_keeps (fun _ _ h => h) exec_storeSound,
   fun _ _ => step_keeps (P := UsersSound) (fun _ _ h => h) fun c s t h hs =>
      (usersSound_iff t).mpr (exec_counted c s t ((usersSound_iff s).mp h) hs),
   fun _ _ => step_keeps (fun _ _ h => h) exec_recordsSound⟩

end Sys2Proof.Machine
end
